-- ==== Sys2Proof/Word.lean ====
section
/-! DEFINITION. Word.lean: the byte of every layout table of the manual. -/

namespace Sys2Proof

/-- One byte, as the desk port, the uplink, the desk line and the attached memory carry it. -/
abbrev Byte := BitVec 8

end Sys2Proof
end

