-- ==== Sys2Proof/Syntax.lean ====
section
/-! DEFINITION. Syntax.lean: the commands of the Ludecan 3140, one constructor of `Instr` per row of
spec/opcode_table.json, and the operand types they carry. A row is an event at a connection of the part
(a wand level, a desk-port command, a frame on the desk line, a sensor level), the expiry of a timer, or
the completion of an operation the part began itself (00_scope.md, 1.3). What the outside supplies with
an event is an operand of its constructor. -/

namespace Sys2Proof

/-! ## Names of connections and of shared values -/

/-- The two wand inputs, W0 and W1. -/
inductive Wand where
  | w0
  | w1
  deriving DecidableEq, Repr

/-- The two lanes of a station. -/
inductive LaneId where
  | a
  | b
  deriving DecidableEq, Repr

/-- The two desensitiser pads, P0 and P1. -/
inductive PadId where
  | p0
  | p1
  deriving DecidableEq, Repr

/-- The level on a wand input: bar for dark, space for light. -/
inductive Level where
  | bar
  | space
  deriving DecidableEq, Repr

/-- Basis of an item: whether the loans list of the edition holds it (R87). -/
inductive Basis where
  | roll
  | today
  deriving DecidableEq, Repr

/-- The two block reasons that a desk raises or lifts (R75). -/
inductive BlockReason where
  | lost
  | staff
  deriving DecidableEq, Repr

/-- The two block actions (R76 to R79). -/
inductive BlockAction where
  | raise
  | lift
  deriving DecidableEq, Repr

/-- Outcome carried by a TRAP notice (section 6.2.1). -/
inductive TrapNotice where
  | trapped
  | released
  deriving DecidableEq, Repr

/-- State carried by a TRAP STATE frame (R102). -/
inductive RestatedTrap where
  | confirmed
  | released
  deriving DecidableEq, Repr

/-- The paper sensor's two levels. -/
inductive Paper where
  | present
  | out
  deriving DecidableEq, Repr

/-- The lid switch's two levels. -/
inductive Lid where
  | closed
  | opened
  deriving DecidableEq, Repr

/-! ## Frames of the desk line -/

/-- Tally part of a body: the borrower and the sender's own net loans and net balance for that
borrower after the change (section 6.2.1). -/
structure TallyPart where
  borrower : Nat
  netLoans : Int
  netBalance : Int
  deriving DecidableEq, Repr

/-- A loan as an item body carries it: borrower, due day, due minute and renew count, present for an
item that is OUT. -/
structure LoanPart where
  borrower : Nat
  dueDay : Nat
  dueMinute : Nat
  renewCount : Nat
  deriving DecidableEq, Repr

/-- The hold and the copy that a trap body names. -/
structure TrapPart where
  title : Nat
  rank : Nat
  holdBorrower : Nat
  item : Nat
  deriving DecidableEq, Repr

/-- What a PRESENCE body carries (R119); `heard` has one stamp for each station number 0..15. -/
structure PresencePart where
  currentStamp : Nat
  day : Nat
  minute : Nat
  clockSet : Bool
  uplinkFitted : Bool
  heard : List Nat
  deriving DecidableEq, Repr

/-- A block action of the sender's own with its stamp, as a TALLY carries it for one reason. -/
structure StampedAction where
  action : BlockAction
  stamp : Nat
  deriving DecidableEq, Repr

/-- The body of a frame: the fields of section 6.2.1, one constructor per kind. The manual gives bodies
as field lists and not as byte layouts (section 4.10), so a body is its fields. -/
inductive Body where
  | block (tally : TallyPart) (action : BlockAction) (reason : BlockReason)
  | trap (trap : TrapPart) (station : Nat) (outcome : TrapNotice)
  | dayRoll (day : Nat)
  | gatewayClaim (day : Nat)
  | uploadReceipt (block : Nat)
  | uploadRefusal (reason : Nat)
  | loan (tally : TallyPart) (item : Nat) (basis : Basis) (dueDay dueMinute renewCount : Nat)
  | ret (tally : TallyPart) (item : Nat) (basis : Basis)
  | renew (tally : TallyPart) (item : Nat) (basis : Basis) (dueDay dueMinute renewCount : Nat)
  | payment (tally : TallyPart)
  | presence (p : PresencePart)
  | restateRequest (fromStamp : Nat)
  | uploadCall (day : Nat)
  | uploadBegin (first count : Nat)
  | uploadDone (blocks : Nat)
  | uploadClosed
  | tally (tally : TallyPart) (stamp : Nat) (lost staff : Option StampedAction)
  | item (item : Nat) (basis : Basis) (loan : Option LoanPart) (stamp : Nat)
  | trapState (trap : TrapPart) (state : RestatedTrap) (stamp : Nat)
  | uploadBlock (block : Nat) (records : List (List Byte))
  deriving DecidableEq, Repr

/-- A frame as a receiver takes it from the line: whether carrier stopped before its last byte (R106),
the bytes received, sync byte first, and the fields its body spells. -/
structure RxFrame where
  cutShort : Bool
  bytes : List Byte
  body : Body
  deriving DecidableEq, Repr

/-! ## How an operation of the part's own ends -/

/-- End of an operation that writes header fields: every write read back as written, or the write of
field number `k` (in the operation's order, from 0) failed its read-back (R129). -/
inductive HeaderEnd where
  | verified
  | failsAt (k : Nat)
  deriving DecidableEq, Repr

/-- End of an operation that writes list entries: verified, or the bytes the memory reads back over
what was written (R129). -/
inductive BytesEnd where
  | verified
  | readsBack (bytes : List Byte)
  deriving DecidableEq, Repr

/-- End of a journal append (R137): verified, the head field's write failed, or the record's slot reads
back other bytes. -/
inductive AppendEnd where
  | verified
  | headFails
  | readsBack (bytes : List Byte)
  deriving DecidableEq, Repr

/-- End of a settings write cycle (R186): for each image, whether the slot the cycle wrote reads back
wrong. A flag of an image that the cycle did not write is ignored. -/
structure SettingsEnd where
  badStation : Bool
  badActive : Bool
  badStaged : Bool
  deriving DecidableEq, Repr

/-- How far the writes in flight had got when a reset cut them off (R130, R143, R186). `memWrites` counts
the whole field or entry writes of the memory operation in progress that were finished, `memBytes` the
bytes of the next one that got in; `imageWrites` and `imageTorn` say the same of the settings images. -/
structure Cut where
  memWrites : Nat
  memBytes : Nat
  imageWrites : Nat
  imageTorn : Bool
  deriving DecidableEq, Repr

/-- What the pins show when the station starts: the uplink-fitted strap and the two wand levels, and how
far the writes in flight had got. -/
structure ResetInputs where
  strap : Bool
  level0 : Level
  level1 : Level
  cut : Cut
  deriving DecidableEq, Repr

/-- A newly accepted level of one of the printer's debounced inputs (R154). -/
inductive PrinterLevel where
  | paper (level : Paper)
  | lid (level : Lid)
  deriving DecidableEq, Repr

/-! ## The commands -/

/-- The commands of the part, in the order of spec/opcode_table.json. Parameter bytes of desk-port
commands are operands, as the terminal sends them. -/
inductive Instr where
  /-- COLD_START (R188) -/
  | coldStart (inputs : ResetInputs)
  /-- HEADER_READ_COMPLETE (R130) -/
  | headerReadComplete
  /-- FRESH_HEADER_WRITE_COMPLETE (R130) -/
  | freshHeaderWriteComplete (result : HeaderEnd)
  /-- LEVEL_CHANGE (R1): the other level is accepted on `wand`, `ticks` whole wand ticks after the last
  accepted change. -/
  | levelChange (wand : Wand) (ticks : Nat)
  /-- QUIET_ZONE_REACHED (R5) -/
  | quietZoneReached (wand : Wand)
  /-- DECODE_COMPLETE (R16) -/
  | decodeComplete
  /-- AGREEMENT_TIMER_EXPIRY (R15) -/
  | agreementTimerExpiry (wand : Wand)
  /-- TONE_END (R9) -/
  | toneEnd (wand : Wand)
  /-- LANE_MODE (R20) -/
  | laneMode (lane mode : Byte)
  /-- KEYED_ENTRY (R24): lane, digit count and 7 bytes of packed digits. -/
  | keyedEntry (lane count : Byte) (digits : BitVec 56)
  /-- END_SESSION (R27) -/
  | endSession (lane : Byte)
  /-- SESSION_IDLE_TIMER_EXPIRY (R27) -/
  | sessionIdleTimerExpiry (lane : LaneId)
  /-- CANCEL (R43) -/
  | cancel (lane : Byte)
  /-- READ_RESULT (R44) -/
  | readResult (lane : Byte)
  /-- BLOCK (R40): packed borrower number and reason. -/
  | block (borrower : BitVec 48) (reason : Byte)
  /-- LIFT (R40) -/
  | lift (borrower : BitVec 48) (reason : Byte)
  /-- PAYMENT (R40) -/
  | payment (borrower : BitVec 48) (amount : BitVec 24)
  /-- BLOCK_WAIT_EXPIRY (R41) -/
  | blockWaitExpiry (lane : LaneId)
  /-- TRAP_WAIT_EXPIRY (R35) -/
  | trapWaitExpiry (lane : LaneId)
  /-- ROLL_LOOKUP_COMPLETE (R67) -/
  | rollLookupComplete
  /-- LOANS_LIST_LOOKUP_COMPLETE (R88) -/
  | loansListLookupComplete
  /-- HOLD_LOOKUP_COMPLETE (R133) -/
  | holdLookupComplete
  /-- APPEND_COMPLETE (R137) -/
  | appendComplete (result : AppendEnd)
  /-- ROLL_BEGIN (R134) -/
  | rollBegin
  /-- ROLL_BEGIN_WRITE_COMPLETE (R134) -/
  | rollBeginWriteComplete (result : HeaderEnd)
  /-- ROLL_CHUNK (R135): list, first index, entry count and four entries of 15 bytes. -/
  | rollChunk (list : Byte) (first : BitVec 32) (count : Byte) (entries : List (List Byte))
  /-- CHUNK_WRITE_COMPLETE (R135) -/
  | chunkWriteComplete (result : BytesEnd)
  /-- ROLL_END (R136) -/
  | rollEnd (edition : Byte) (roll loans holds : BitVec 32)
  /-- EDITION_WRITE_COMPLETE (R136) -/
  | editionWriteComplete (result : HeaderEnd)
  /-- JOURNAL_QUERY (R139) -/
  | journalQuery (field comparison : Byte) (value : BitVec 40) (step : Byte)
  /-- QUERY_READ_COMPLETE (R139) -/
  | queryReadComplete
  /-- QUERY_NEXT (R140) -/
  | queryNext
  /-- REPLAY_LAST_RECORD_READ (R141) -/
  | replayLastRecordRead
  /-- REPLAY_HEAD_WRITE_COMPLETE (R141) -/
  | replayHeadWriteComplete (result : HeaderEnd)
  /-- REPLAY_READ_COMPLETE (R141) -/
  | replayReadComplete
  /-- MINIMUM_TIMER_EXPIRY (R187) -/
  | minimumTimerExpiry
  /-- QUIET_TIMER_EXPIRY (R187) -/
  | quietTimerExpiry
  /-- UPLOAD_READ_COMPLETE (R138) -/
  | uploadReadComplete
  /-- TAKE_SNAPSHOT_COMPLETE (R138) -/
  | takeSnapshotComplete (result : HeaderEnd)
  /-- MOVE_MARKS_COMPLETE (R138) -/
  | moveMarksComplete (result : HeaderEnd)
  /-- FRAME_START (R106) -/
  | frameStart
  /-- LINE_IDLE (R106) -/
  | lineIdle
  /-- TRANSMIT_START (R111): `slots` whole slots have passed since the line became idle. -/
  | transmitStart (slots : Nat)
  /-- LINE_LOST (R113) -/
  | lineLost
  /-- TRANSMIT_COMPLETE (R113) -/
  | transmitComplete
  /-- FRAME_END (R107) -/
  | frameEnd (frame : RxFrame)
  /-- PRESENCE_TIMER_EXPIRY (R119) -/
  | presenceTimerExpiry
  /-- ABSENCE_TIMER_EXPIRY (R120) -/
  | absenceTimerExpiry (station : Fin 16)
  /-- RESUME_LINE (R115) -/
  | resumeLine
  /-- READ_PEER (R121) -/
  | readPeer (station : Byte)
  /-- SECOND_TICK (R159) -/
  | secondTick
  /-- SET_CLOCK (R160) -/
  | setClock (day minute : BitVec 16) (second : Byte)
  /-- UPLOAD_NOW (R167) -/
  | uploadNow
  /-- CALL_TIMER_EXPIRY (R167) -/
  | callTimerExpiry
  /-- SENDER_BEGIN_TIMER_EXPIRY (R170) -/
  | senderBeginTimerExpiry
  /-- RECEIPT_TIMER_EXPIRY (R171) -/
  | receiptTimerExpiry
  /-- HAND_AGAIN_TIMER_EXPIRY (R166) -/
  | handAgainTimerExpiry
  /-- GATEWAY_BEGIN_TIMER_EXPIRY (R172) -/
  | gatewayBeginTimerExpiry
  /-- SILENCE_TIMER_EXPIRY (R172) -/
  | silenceTimerExpiry (station : Fin 16)
  /-- UPLINK_SEND_COMPLETE (R174) -/
  | uplinkSendComplete
  /-- UPLINK_MESSAGE_RECEIVED (R174): the bytes received, from the start byte. -/
  | uplinkMessageReceived (bytes : List Byte)
  /-- ANSWER_TIMER_EXPIRY (R174) -/
  | answerTimerExpiry
  /-- WARM_TIMER_EXPIRY (R152) -/
  | warmTimerExpiry
  /-- UNLOAD_TIMER_EXPIRY (R152) -/
  | unloadTimerExpiry
  /-- PRINT_COMPLETE (R153) -/
  | printComplete
  /-- PRINTER_SENSOR_ACCEPTED (R154) -/
  | printerSensorAccepted (level : PrinterLevel)
  /-- ALIGN_STEP (R155): one motor step; `mark` is what the mark sensor showed. -/
  | alignStep (mark : Bool)
  /-- PAD_SENSOR_ACCEPTED (R156) -/
  | padSensorAccepted (pad : PadId) (present : Bool)
  /-- PAD_PULSE_END (R157) -/
  | padPulseEnd (pad : PadId)
  /-- SELECT_ACTIVE (R178) -/
  | selectActive
  /-- ERROR_STATE (R179): a command byte outside the command table. -/
  | errorState (command : Byte)
  /-- ANSWER_COMPLETE (R178) -/
  | answerComplete
  /-- SELECT_RELEASE (R179): `begun` when bytes of a further command, not yet taken, had been clocked in;
  the inputs are those of the restart that an accepted WARM RESTART makes at this moment. -/
  | selectRelease (begun : Bool) (inputs : ResetInputs)
  /-- IDENTIFY (R181) -/
  | identify
  /-- READ_STATUS (R181) -/
  | readStatus
  /-- TAKE_ATTENTION (R183) -/
  | takeAttention
  /-- SET_ENABLES (R183) -/
  | setEnables (enables : BitVec 16)
  /-- INQUIRE_BORROWER (R84) -/
  | inquireBorrower (borrower : BitVec 48)
  /-- INQUIRE_ITEM (R104) -/
  | inquireItem (item : BitVec 48)
  /-- STAGE_RULE_DISCARD (R47) -/
  | stageRuleDiscard
  /-- STAGE_RULE_CLASS (R47) -/
  | stageRuleClass (cls unit period : Byte) (rate cap : BitVec 16) (grace renewLimit : Byte)
  /-- STAGE_RULE_CATEGORY (R47) -/
  | stageRuleCategory (category limit : Byte) (mask : BitVec 16)
  /-- STAGE_RULE_HOURS (R47) -/
  | stageRuleHours (weekday : Byte) (opening closing : BitVec 16)
  /-- STAGE_RULE_CLOSURE (R47) -/
  | stageRuleClosure (mask : Byte)
  /-- STAGE_RULE_HOLIDAY_ADD (R48) -/
  | stageRuleHolidayAdd (day : BitVec 16)
  /-- STAGE_RULE_HOLIDAY_REMOVE (R48) -/
  | stageRuleHolidayRemove (day : BitVec 16)
  /-- STAGE_RULE_WINDOW (R49) -/
  | stageRuleWindow (warning blocking : BitVec 16)
  /-- STAGE_RULE_UPLOAD_MINUTE (R47) -/
  | stageRuleUploadMinute (minute : BitVec 16)
  /-- APPLY_NOW (R51) -/
  | applyNow
  /-- READ_SETTING (R185) -/
  | readSetting (number : Byte)
  /-- WRITE_SETTING (R185) -/
  | writeSetting (number : Byte) (value : BitVec 16)
  /-- COMMIT_SETTINGS (R186) -/
  | commitSettings
  /-- SETTINGS_WRITE_COMPLETE (R186) -/
  | settingsWriteComplete (result : SettingsEnd)
  /-- WARM_RESTART (R188) -/
  | warmRestart
  /-- STAGE_RULE_BAD_PART_CODE (R47) -/
  | stageRuleBadPartCode (code : Byte)
  deriving DecidableEq, Repr

end Sys2Proof
end

