-- ==== Sys2Proof/WellFormed.lean ====
section
/-! DEFINITION. WellFormed.lean: which operands an event of spec/opcode_table.json can bring: the numbers a frame's body
can carry (section 6.2.1), the byte counts of the desk port's parameters (section 10.2), and the codes that make
ERROR_STATE and STAGE_RULE_BAD_PART_CODE what they are. The meanings are given for every operand; these checks
say which of them the connections can produce. -/

namespace Sys2Proof

/-- A stamp, day number or other 16-bit field of a frame. -/
def Word16.fits (x : Nat) : Bool := decide (x < 65536)

/-- A 12-digit borrower or item number (section 4.3). -/
def number12 (x : Nat) : Bool := decide (x < 10 ^ 12)

/-- A minute of the day. -/
def minuteOfDay (x : Nat) : Bool := decide (x < 1440)

def TallyPart.wellFormed (t : TallyPart) : Bool :=
  number12 t.borrower && decide (-999 ≤ t.netLoans) && decide (t.netLoans ≤ 999)
    && decide (-99999 ≤ t.netBalance) && decide (t.netBalance ≤ 999999)

def LoanPart.wellFormed (l : LoanPart) : Bool :=
  number12 l.borrower && Word16.fits l.dueDay && minuteOfDay l.dueMinute && decide (l.renewCount < 256)

def TrapPart.wellFormed (t : TrapPart) : Bool :=
  decide (t.title < 10 ^ 7) && decide (t.rank < 256) && number12 t.holdBorrower && number12 t.item

def PresencePart.wellFormed (p : PresencePart) : Bool :=
  Word16.fits p.currentStamp && Word16.fits p.day && minuteOfDay p.minute && p.heard.length == 16
    && p.heard.all Word16.fits

def StampedAction.wellFormed (a : StampedAction) : Bool := Word16.fits a.stamp

/-- Fields of a body within their widths (section 6.2.1). -/
def Body.wellFormed : Body → Bool
  | .block t _ _ => t.wellFormed
  | .trap t station _ => t.wellFormed && decide (station < 16)
  | .dayRoll day => Word16.fits day
  | .gatewayClaim day => Word16.fits day
  | .uploadReceipt k => Word16.fits k
  | .uploadRefusal r => decide (r < 256)
  | .loan t n _ day minute count =>
    t.wellFormed && number12 n && Word16.fits day && minuteOfDay minute && decide (count < 256)
  | .ret t n _ => t.wellFormed && number12 n
  | .renew t n _ day minute count =>
    t.wellFormed && number12 n && Word16.fits day && minuteOfDay minute && decide (count < 256)
  | .payment t => t.wellFormed
  | .presence p => p.wellFormed
  | .restateRequest f => Word16.fits f
  | .uploadCall day => Word16.fits day
  | .uploadBegin first count => decide (first < 2 ^ 32) && decide (count ≤ 16384)
  | .uploadDone blocks => Word16.fits blocks
  | .uploadClosed => true
  | .tally t stamp lost staff =>
    t.wellFormed && Word16.fits stamp && lost.all StampedAction.wellFormed && staff.all StampedAction.wellFormed
  | .item n _ part stamp => number12 n && part.all LoanPart.wellFormed && Word16.fits stamp
  | .trapState t _ stamp => t.wellFormed && Word16.fits stamp
  | .uploadBlock k records =>
    Word16.fits k && decide (1 ≤ records.length) && decide (records.length ≤ 3)
      && records.all fun r => r.length == 32

/-- A header write operation has at most ten writes (R130). -/
def HeaderEnd.wellFormed : HeaderEnd → Bool
  | .verified => true
  | .failsAt k => decide (k < 10)

/-- A command byte outside the command table (R179). -/
def outsideCommandTable (b : Byte) : Bool := b == 0 || decide (0x1D < b.toNat)

/-- Operands that an event of the command's row can bring. -/
def Instr.wellFormed : Instr → Bool
  | .coldStart _ => true
  | .headerReadComplete => true
  | .freshHeaderWriteComplete result => result.wellFormed
  | .levelChange _ _ => true
  | .quietZoneReached _ => true
  | .decodeComplete => true
  | .agreementTimerExpiry _ => true
  | .toneEnd _ => true
  | .laneMode _ _ => true
  | .keyedEntry _ _ _ => true
  | .endSession _ => true
  | .sessionIdleTimerExpiry _ => true
  | .cancel _ => true
  | .readResult _ => true
  | .block _ _ => true
  | .lift _ _ => true
  | .payment _ _ => true
  | .blockWaitExpiry _ => true
  | .trapWaitExpiry _ => true
  | .rollLookupComplete => true
  | .loansListLookupComplete => true
  | .holdLookupComplete => true
  | .appendComplete result =>
    match result with
    | .verified => true
    | .headFails => true
    | .readsBack bytes => bytes.length == 32
  | .rollBegin => true
  | .rollBeginWriteComplete result => result.wellFormed
  | .rollChunk _ _ _ entries => entries.length == 4 && entries.all fun e => e.length == 15
  | .chunkWriteComplete result =>
    match result with
    | .verified => true
    | .readsBack bytes => decide (bytes.length ≤ 64)
  | .rollEnd _ _ _ _ => true
  | .editionWriteComplete result => result.wellFormed
  | .journalQuery _ _ _ _ => true
  | .queryReadComplete => true
  | .queryNext => true
  | .replayLastRecordRead => true
  | .replayHeadWriteComplete result => result.wellFormed
  | .replayReadComplete => true
  | .minimumTimerExpiry => true
  | .quietTimerExpiry => true
  | .uploadReadComplete => true
  | .takeSnapshotComplete result => result.wellFormed
  | .moveMarksComplete result => result.wellFormed
  | .frameStart => true
  | .lineIdle => true
  | .transmitStart _ => true
  | .lineLost => true
  | .transmitComplete => true
  | .frameEnd frame => frame.body.wellFormed
  | .presenceTimerExpiry => true
  | .absenceTimerExpiry _ => true
  | .resumeLine => true
  | .readPeer _ => true
  | .secondTick => true
  | .setClock _ _ _ => true
  | .uploadNow => true
  | .callTimerExpiry => true
  | .senderBeginTimerExpiry => true
  | .receiptTimerExpiry => true
  | .handAgainTimerExpiry => true
  | .gatewayBeginTimerExpiry => true
  | .silenceTimerExpiry _ => true
  | .uplinkSendComplete => true
  | .uplinkMessageReceived bytes => decide (bytes.length ≤ 260)
  | .answerTimerExpiry => true
  | .warmTimerExpiry => true
  | .unloadTimerExpiry => true
  | .printComplete => true
  | .printerSensorAccepted _ => true
  | .alignStep _ => true
  | .padSensorAccepted _ _ => true
  | .padPulseEnd _ => true
  | .selectActive => true
  | .errorState command => outsideCommandTable command
  | .answerComplete => true
  | .selectRelease _ _ => true
  | .identify => true
  | .readStatus => true
  | .takeAttention => true
  | .setEnables _ => true
  | .inquireBorrower _ => true
  | .inquireItem _ => true
  | .stageRuleDiscard => true
  | .stageRuleClass _ _ _ _ _ _ _ => true
  | .stageRuleCategory _ _ _ => true
  | .stageRuleHours _ _ _ => true
  | .stageRuleClosure _ => true
  | .stageRuleHolidayAdd _ => true
  | .stageRuleHolidayRemove _ => true
  | .stageRuleWindow _ _ => true
  | .stageRuleUploadMinute _ => true
  | .applyNow => true
  | .readSetting _ => true
  | .writeSetting _ _ => true
  | .commitSettings => true
  | .settingsWriteComplete _ => true
  | .warmRestart => true
  | .stageRuleBadPartCode code => decide (8 < code.toNat)

end Sys2Proof
end

