-- ==== Sys2Proof/Decode.lean ====
section
/-! DEFINITION. Decode.lean: the commands that words spell. spec/opcode_table.json gives no row any bits: each row
is an event at a connection of the part, not a word. So no word spells a command. -/

namespace Sys2Proof

/-- The command that the low `nbits` bits of a word spell by the table: none, as no row has bits. -/
def decodeTableWord (_nbits _w : Nat) : Option Instr := none

end Sys2Proof
end

