-- ==== Sys2Proof/Config.lean ====
section
/-! DEFINITION. Config.lean: the numbers fixed in the part (00_scope.md, section 6, and the chapters),
and the one free value: an order that the manual leaves open. -/

namespace Sys2Proof.Config

/-- Capacity of the standing table (R66). -/
def standingCapacity : Nat := 4096
/-- Capacity of the pending-tally buffer (R72). -/
def parkedCapacity : Nat := 32
/-- Capacity of the item overlay (R87). -/
def overlayCapacity : Nat := 8192
/-- Capacity of the trap table (R96). -/
def trapCapacity : Nat := 512
/-- Number of slip records (R144). -/
def slipRecords : Nat := 8
/-- ITEM DUE lines of one session slip (R146). -/
def itemLines : Nat := 12
/-- Element counts of one wand's buffer (R7). -/
def elementCapacity : Nat := 96
/-- Journal slots (R137). -/
def journalSlots : Nat := 16384
/-- Journal content at which JOURNAL HIGH is latched (R138). -/
def journalHigh : Nat := 14746
/-- Capacities of the three lists (section 7.1). -/
def rollCapacity : Nat := 262144
def loansCapacity : Nat := 524288
def holdCapacity : Nat := 65536
/-- Area starts of the attached memory (section 7.1). -/
def rollBase : Nat := 0x001000
def loansBase : Nat := 0x401000
def holdBase : Nat := 0xC01000
def journalBase : Nat := 0xD01000
/-- Size of the attached memory: 16 MiB. -/
def memorySize : Nat := 0x1000000
/-- Depths of the transmit queues U, S and B (R108). -/
def depthU : Nat := 8
def depthS : Nat := 32
def depthB : Nat := 16
/-- Depth of the uplink queue (R173). -/
def uplinkDepth : Nat := 4
/-- Holidays of a rule set (R48). -/
def holidayCapacity : Nat := 48
/-- The last stamp (R110). -/
def lastStamp : Nat := 65535
/-- A 16-bit counter that saturates stops here. -/
def saturation : Nat := 65535
/-- Motor steps of a form align (R155). -/
def alignSteps : Nat := 600
/-- Waiting pulses of one pad (R156). -/
def padWaiting : Nat := 3
/-- Tries of one upload block (R171). -/
def uploadTries : Nat := 8
/-- Collisions that put the station into listen-only (R114). -/
def collisionLimit : Nat := 8

/-- Timer periods in milliseconds, as the owning rules give them. -/
def agreementMs : Nat := 3000
def trapWaitMs : Nat := 2000
def blockWaitMs : Nat := 2000
def presenceMs : Nat := 10000
def absenceMs : Nat := 35000
def minimumMs : Nat := 5000
def quietMs : Nat := 3000
def callMs : Nat := 30000
def beginMs : Nat := 10000
def receiptMs : Nat := 5000
def handAgainMs : Nat := 1000
def silenceMs : Nat := 45000
def answerMs : Nat := 10000
def warmMs : Nat := 80

/-- FREE VALUE (R142): when the controller enters its faulted state while a lane's request waits, the
manual leaves open whether that request's fault answer or the station's change to FAULT reaches the lane
first. The argument counts such races, so that each is settled on its own. Nothing is known of it. -/
opaque answerBeforeFault : Nat → Bool

end Sys2Proof.Config
end

