-- ==== Sys2Proof/Machine/State.lean ====
section
/-! DEFINITION. Machine/State.lean: everything the manual gives one station, as plain data, block by block
in the order of 00_scope.md section 2.1, and the machine right after reset. -/

namespace Sys2Proof.Machine

/-- A timer: stopped, or running since its last start with the full period given, in milliseconds. Its
expiry is an event of the queue, so no elapsed time is held (assumption 3). -/
abbrev Timer := Option Nat

/-! ## Wand front ends and label decoder (chapter 1) -/

/-- State of a wand front end (section 1.3). -/
inductive ScanState where
  | quiet
  | capturing
  | decoding
  deriving DecidableEq, Repr

/-- The four tones of a wand's beeper (section 1.4). -/
inductive Tone where
  | goodRead
  | tick
  | error
  | refusal
  deriving DecidableEq, Repr

/-- One wand: front end, beeper, and the decoder's read-agreement context. -/
structure FrontEnd where
  state : ScanState
  /-- Quiet-zone condition MET. In DECODING it is the condition that the next QUIET takes (R8). -/
  met : Bool
  /-- The accepted level (R1). -/
  level : Level
  /-- The element in progress has reached the quiet-zone count, which it does once (R3, R8). -/
  reached : Bool
  /-- Element counts in the order the elements ended (R4). -/
  buffer : List Nat
  /-- Tone sounding, none when SILENT (R9). -/
  tone : Option Tone
  /-- Agreement memory: EMPTY or HOLDING a digit string (R15). -/
  agreement : Option (List Nat)
  agreementTimer : Timer
  deriving DecidableEq, Repr

/-! ## Lanes (chapter 2) -/

/-- Where an offer or a piece of work came from. -/
inductive Source where
  | wand (w : Wand)
  | keyed
  | port
  deriving DecidableEq, Repr

/-- Kind of a label with the number it carries (R14). -/
inductive LabelKind where
  | borrower (number : Nat)
  | item (number : Nat)
  | deskCommand (code : Nat)
  | badKind
  deriving DecidableEq, Repr

/-- An offered label (R14). The class digit, title group and copy of an item are parts of its number. -/
structure Offer where
  source : Source
  kind : LabelKind
  digits : List Nat
  deriving DecidableEq, Repr

inductive LaneState where
  | closed
  | idle
  | checking
  | session
  | working
  | reporting
  deriving DecidableEq, Repr

inductive LaneMode where
  | lend
  | ret
  | renew
  | inquire
  deriving DecidableEq, Repr

/-- Operation of a result record (R44). -/
inductive Operation where
  | none
  | borrowerCheck
  | lend
  | ret
  | renew
  | inquire
  | block
  | lift
  | payment
  | command
  | label
  deriving DecidableEq, Repr

/-- Class of a result record (R44). -/
inductive ResultClass where
  | none
  | done
  | refused
  | failed
  | invalid
  | cancelled
  deriving DecidableEq, Repr

/-- Reasons of the result record (R44). -/
inductive Reason where
  | none
  | unknownBorrower
  | noSession
  | onLoan
  | onLoanSame
  | notForLoan
  | classNotAllowed
  | blocked
  | limit
  | cardExpired
  | noDueDay
  | cardExpiring
  | tooLate
  | closedToday
  | notOnLoan
  | notBorrowers
  | renewLimit
  | onHold
  | tableFull
  | notReady
  | noRoll
  | noClock
  | journalFull
  | stampsExhausted
  | memoryFault
  | lookupFault
  | lineBusy
  | fault
  | wrongMode
  | badKind
  | badCommand
  | nothingToCancel
  | notFound
  deriving DecidableEq, Repr

/-- Result flags (R44, byte 4). -/
structure ResultFlags where
  warning : Bool
  noSlip : Bool
  notOnPad : Bool
  holdTrapped : Bool
  holdUnconfirmed : Bool
  holdNotChecked : Bool
  deriving DecidableEq, Repr

/-- Block reason set (R26, R44, byte 7). -/
structure BlockSet where
  lost : Bool
  staff : Bool
  fines : Bool
  expired : Bool
  deriving DecidableEq, Repr

/-- A lane's result record (R44). An absent optional field is `none`. -/
structure Result where
  lane : LaneId
  operation : Operation
  cls : ResultClass
  reason : Reason
  mode : LaneMode
  flags : ResultFlags
  blocks : BlockSet
  borrower : Option Nat
  item : Option Nat
  /-- Due day and due minute. -/
  due : Option (Nat × Nat)
  amount : Option Nat
  balance : Option Int
  /-- Loan count and limit in force. -/
  count : Option (Int × Nat)
  renewCount : Option Nat
  /-- Status of an inquired item, true when OUT (R39); it has no place of its own in the 36 bytes. -/
  itemOut : Option Bool
  deriving DecidableEq, Repr

/-- Stages of a transaction (section 2.1). -/
inductive Stage where
  | lookup
  | borrower
  | check
  | reckon
  | hold
  | awaitTrap
  | awaitLine
  | commit
  deriving DecidableEq, Repr

/-- Trap outcome of a return, as its journal record carries it (section 7.6). -/
inductive TrapOutcome where
  | none
  | trapped
  | unconfirmed
  | notChecked
  deriving DecidableEq, Repr

/-- One hold of a title group, as a hold lookup answers it (R133). -/
structure Hold where
  rank : Nat
  borrower : Nat
  deriving DecidableEq, Repr

/-- An item's loan state as a lookup answers it (R88): its basis, and the loan when it is OUT. -/
structure ItemAnswer where
  basis : Basis
  loan : Option LoanPart
  deriving DecidableEq, Repr

/-- The transaction context of a lane (chapter 2). -/
structure Txn where
  operation : Operation
  stage : Stage
  source : Source
  borrower : Option Nat
  item : Option Nat
  /-- The answer found at LOOKUP. -/
  found : Option ItemAnswer
  /-- Day of the last reckoning. -/
  reckonDay : Nat
  /-- Reckoned due day and minute. -/
  due : Nat × Nat
  /-- Reckoned fine. -/
  fine : Nat
  /-- Holds of the title, as the hold lookup answered them. -/
  holds : List Hold
  /-- The hold this return traps or has trapped. -/
  hold : Option Hold
  trap : TrapOutcome
  /-- Renew count read at COMMIT (R38). -/
  renewRead : Nat
  blockReason : BlockReason
  amount : Nat
  /-- Stamp of the BLOCK notice, and of the journal record once the append is requested. -/
  stamp : Nat
  /-- Committed: the journal append is requested (R30). -/
  committed : Bool
  /-- The 2 s wait expired while the frame was on the line (R35, R41). -/
  waitExpired : Bool
  /-- The request of this stage waits until the lane's discarded lookup has completed (R131). -/
  deferred : Bool
  deriving DecidableEq, Repr

/-- The session context (R25). -/
structure Session where
  borrower : Nat
  /-- The lane's OPEN slip, by slip record number. -/
  slip : Option Nat
  deriving DecidableEq, Repr

/-- One lane controller. -/
structure LaneCtl where
  state : LaneState
  mode : LaneMode
  session : Option Session
  endPending : Bool
  idleTimer : Timer
  txn : Option Txn
  /-- Pending-scan slot. -/
  slot : Option Offer
  result : Result
  /-- The result record holds a result not yet read. -/
  unread : Bool
  trapWait : Timer
  blockWait : Timer
  deriving DecidableEq, Repr

/-! ## Reckoner (chapter 3) -/

inductive LoanUnit where
  | none
  | days
  | hours
  deriving DecidableEq, Repr

structure ClassRule where
  unit : LoanUnit
  period : Nat
  rate : Nat
  cap : Nat
  grace : Nat
  renewLimit : Nat
  deriving DecidableEq, Repr

structure CategoryRule where
  limit : Nat
  /-- Bit k set: the category may borrow class k. -/
  mask : BitVec 10
  deriving DecidableEq, Repr

structure DayHours where
  opening : Nat
  closing : Nat
  deriving DecidableEq, Repr

/-- A rule set (section 3.1): 10 class rules, 8 category rules, the calendar, the balance window and the
upload minute. -/
structure RuleSet where
  classes : List ClassRule
  categories : List CategoryRule
  /-- Bit k set: weekday k is closed. -/
  closure : BitVec 7
  /-- Opening and closing minutes of the seven weekdays, Monday first. -/
  hours : List DayHours
  /-- Holidays in ascending order. -/
  holidays : List Nat
  warning : Nat
  blocking : Nat
  uploadMinute : Nat
  deriving DecidableEq, Repr

/-- The reckoner: the active set, the staged set, and whether the settings store holds the staged set as
it stands. -/
structure Reckoner where
  active : RuleSet
  staged : Option RuleSet
  recorded : Bool
  deriving DecidableEq, Repr

/-! ## Standing table (chapter 4) -/

structure RollFields where
  category : Nat
  expiry : Nat
  loans : Nat
  balance : Int
  lost : Bool
  staff : Bool
  deriving DecidableEq, Repr

structure Tally where
  loans : Int
  balance : Int
  stamp : Nat
  deriving DecidableEq, Repr

structure PeerTally where
  station : Nat
  tally : Tally
  deriving DecidableEq, Repr

inductive BlockState where
  | roll
  | raised (station stamp : Nat)
  | lifted (station stamp : Nat)
  deriving DecidableEq, Repr

/-- An own action transmitted and not yet written (R75). -/
structure AwaitingAction where
  action : BlockAction
  stamp : Nat
  laterHeard : Bool
  deriving DecidableEq, Repr

structure BlockRecord where
  state : BlockState
  /-- Own actions awaiting their append, in the order in which they were transmitted (assumption 36). -/
  awaiting : List AwaitingAction
  deriving DecidableEq, Repr

/-- A standing entry (section 4.1). -/
structure Entry where
  borrower : Nat
  roll : RollFields
  own : Tally
  peers : List PeerTally
  lost : BlockRecord
  staff : BlockRecord
  fines : Bool
  reservedA : Bool
  reservedB : Bool
  handA : Bool
  handB : Bool
  lastUse : Nat
  deriving DecidableEq, Repr

/-- A pending record (section 4.5): a tally offer, live or restated, with the block actions it carries. -/
structure Parked where
  borrower : Nat
  live : Bool
  station : Nat
  tally : Tally
  lost : Option StampedAction
  staff : Option StampedAction
  deriving DecidableEq, Repr

/-- The table's own roll lookup (R73); `discard` when a roll load has made its completion void (R83). -/
structure ParkedLookup where
  borrower : Nat
  discard : Bool
  deriving DecidableEq, Repr

structure Standing where
  entries : List Entry
  uses : Nat
  parked : List Parked
  lookup : Option ParkedLookup
  incomplete : Bool
  deriving DecidableEq, Repr

/-! ## Item overlay and trap table (chapter 5) -/

/-- An overlay entry: IN when `loan` is absent. The list of entries is in change order, the entry changed
longest ago first, so the change order needs no field (R87). -/
structure ItemEntry where
  item : Nat
  basis : Basis
  loan : Option LoanPart
  station : Nat
  stamp : Nat
  deriving DecidableEq, Repr

structure Overlay where
  entries : List ItemEntry
  /-- Rooms set aside for lane A and for lane B (R89). -/
  roomA : Bool
  roomB : Bool
  deriving DecidableEq, Repr

/-- State of a trap record (section 5.8). A PROVISIONAL record names its waiting lane; it is `abandoned`
when that lane gave it up while its frame was on the line (R43, R99). -/
inductive TrapState where
  | provisional (lane : LaneId) (abandoned : Bool)
  | confirmed
  | released
  deriving DecidableEq, Repr

/-- A trap record. RELEASED records stand in the table's list in their release order (R96). -/
structure TrapRecord where
  title : Nat
  rank : Nat
  holdBorrower : Nat
  item : Nat
  station : Nat
  state : TrapState
  stamp : Nat
  deriving DecidableEq, Repr

/-! ## Line controller (chapter 6) -/

/-- The three transmit classes (R108). -/
inductive TxClass where
  | u
  | s
  | b
  deriving DecidableEq, Repr

/-- A queued notice: its stamp (0 for an unstamped kind), target and body. The other header fields are
filled when transmission begins (R108). -/
structure Notice where
  stamp : Nat
  target : Nat
  body : Body
  deriving DecidableEq, Repr

/-- The frame on the line: the head of its class's queue, with the header and body as filled at its start,
and whether its withdrawal waits for the transmission to end (R109). -/
structure Sending where
  cls : TxClass
  sender : Nat
  edition : Nat
  notice : Notice
  withdrawn : Bool
  deriving DecidableEq, Repr

/-- The line as the controller sees it (R106): busy and unjudged since a reset, carrying a frame, quiet
since a frame's end but not yet idle, or idle. -/
inductive LineState where
  | busy
  | carrier
  | gap
  | idle
  deriving DecidableEq, Repr

/-- Position of a walk (R124): the stamp of the last frame sent in the first two phases, the hold of the
last one in the third. -/
inductive WalkPosition where
  | tallies (after : Nat)
  | items (after : Nat)
  | traps (after : Option (Nat × Nat))
  deriving DecidableEq, Repr

/-- The restatement engine (R123). -/
inductive Engine where
  | idle
  | walking (fromStamp : Nat) (position : WalkPosition)
  | paused (fromStamp : Nat) (position : WalkPosition)
  | held (fromStamp : Option Nat)
  deriving DecidableEq, Repr

/-- A peer record (section 6.7). -/
structure Peer where
  present : Bool
  lastStamp : Nat
  edition : Nat
  day : Nat
  minute : Nat
  clockSet : Bool
  uplinkFitted : Bool
  absenceTimer : Timer
  mismatches : Nat
  request : Option Nat
  deriving DecidableEq, Repr

structure LineCtl where
  u : List Notice
  s : List Notice
  b : List Notice
  sending : Option Sending
  state : LineState
  /-- The receive buffer is taking a frame. -/
  receiving : Bool
  listenOnly : Bool
  /-- The station has left listen-only and contends from the next idle on (R115). -/
  awaitIdle : Bool
  collisions : Nat
  courtesyS : Bool
  courtesyB : Bool
  badFrames : Nat
  ownFrames : Nat
  stamps : Nat
  /-- 16 places by station number; the own number's place is never used (assumption 27). -/
  peers : List Peer
  broadcastOwed : Bool
  engine : Engine
  restateOwed : Bool
  presenceTimer : Timer
  deriving DecidableEq, Repr

/-! ## Attached memory and memory controller (chapter 7) -/

/-- A header cell (R128): value, write count, and whether its check byte holds. -/
structure HeaderCell where
  value : Nat
  count : BitVec 32
  good : Bool
  deriving DecidableEq, Repr

structure CellPair where
  cell0 : HeaderCell
  cell1 : HeaderCell
  deriving DecidableEq, Repr

/-- The header fields that are kept in two cells (R128). -/
inductive HeaderField where
  | edition
  | rollCount
  | loansCount
  | holdCount
  | tail
  | send
  | snapshot
  | head
  | editionStart
  deriving DecidableEq, Repr

/-- The header in the attached memory. The manual does not give its bytes, so it is its fields
(assumption 13). -/
structure Header where
  formatted : Bool
  edition : CellPair
  rollCount : CellPair
  loansCount : CellPair
  holdCount : CellPair
  tail : CellPair
  send : CellPair
  snapshot : CellPair
  head : CellPair
  editionStart : CellPair
  deriving DecidableEq, Repr

/-- The attached memory: its header, and the bytes of the list and journal areas as address and byte
pairs in canonical form (addresses rising, no byte equal to what an unlisted address reads as). -/
structure Attached where
  header : Header
  cells : List Host.Cell
  deriving DecidableEq, Repr

/-- On-chip copies of the header fields (R128). -/
structure Copies where
  edition : Nat
  rollCount : Nat
  loansCount : Nat
  holdCount : Nat
  tail : Nat
  send : Nat
  snapshot : Nat
  head : Nat
  editionStart : Nat
  deriving DecidableEq, Repr

inductive RecordKind where
  | loan
  | ret
  | renew
  | payment
  | block
  | lift
  deriving DecidableEq, Repr

/-- A journal record (section 7.6). -/
structure JournalRecord where
  number : Nat
  stamp : Nat
  kind : RecordKind
  lane : LaneId
  day : Nat
  minute : Nat
  borrower : Nat
  item : Nat
  dueDay : Nat
  dueMinute : Nat
  holdBorrower : Nat
  amount : Nat
  outcome : Nat
  edition : Nat
  deriving DecidableEq, Repr

/-- Who asks for a lookup: a lane for its transaction, a lane for an inquiry's view (R39, which makes no
entry), the standing table (R73), or replay (R141). -/
inductive Asker where
  | lane (l : LaneId)
  | view (l : LaneId)
  | standing
  | replay
  deriving DecidableEq, Repr

inductive ListId where
  | roll
  | loans
  | holds
  deriving DecidableEq, Repr

/-- The operations of the memory port (section 7.4) and the two of STARTING (R130). -/
inductive MemOp where
  | append (r : JournalRecord)
  | rollLookup (who : Asker) (borrower : Nat)
  | loansLookup (who : Asker) (item : Nat)
  | holdLookup (who : Asker) (title : Nat)
  | chunkWrite (list : ListId) (first : Nat) (entries : List (List Byte))
  | rollBeginWrite
  | editionWrite (edition roll loans holds : Nat)
  | uploadRead (first count : Nat)
  | takeSnapshot
  | moveMarks (tail send : Nat)
  | replayLast
  | replayHead
  | replayRead (number : Nat)
  | replayStamp
  | queryRead
  | headerRead
  | freshHeader
  deriving DecidableEq, Repr

/-- A request waiting or in progress. `discard`: its requester drops the completion. -/
structure MemRequest where
  op : MemOp
  discard : Bool
  deriving DecidableEq, Repr

/-- Loading of one list (section 7.5): next index, key of the last entry, order mark. -/
structure LoadList where
  next : Nat
  lastKey : Option (Nat × Nat)
  order : Option Nat
  deriving DecidableEq, Repr

structure LoadCtl where
  loading : Bool
  roll : LoadList
  loans : LoadList
  holds : LoadList
  deriving DecidableEq, Repr

inductive QueryState where
  | none
  | scanning
  | ended
  deriving DecidableEq, Repr

/-- Field a query compares (section 7.7). -/
inductive QueryField where
  | borrower
  | item
  | number
  deriving DecidableEq, Repr

/-- The query context (section 7.7). -/
structure Query where
  state : QueryState
  field : QueryField
  atOrAbove : Bool
  value : Nat
  step : Nat
  position : Nat
  finish : Nat
  found : Nat
  buffer : Option (List Byte)
  deriving DecidableEq, Repr

/-- What replay waits for (R141): the last record's read, the head write that discards it, a record's
read, the lookup that one of the three tables needs for the record in hand, or the stamp's read. -/
inductive ReplayStage where
  | last
  | head
  | read
  | standing (r : JournalRecord)
  | overlay (r : JournalRecord)
  | traps (r : JournalRecord)
  | stamp
  deriving DecidableEq, Repr

structure Replay where
  /-- Number of the record in hand or asked for. -/
  next : Nat
  stage : ReplayStage
  deriving DecidableEq, Repr

structure MemCtl where
  faulted : Bool
  copies : Copies
  /-- The operation in progress. -/
  busy : Option MemRequest
  /-- Requests waiting, in the order they were made. -/
  waiting : List MemRequest
  /-- The lane granted last among lane lookups (R131). -/
  lastLane : Option LaneId
  /-- Appends requested and not yet completed (R137). -/
  requested : Nat
  load : LoadCtl
  /-- The header write of the last ROLL BEGIN has not completed, so that the next start takes edition 0 (R134). -/
  beginUnwritten : Bool
  query : Query
  replay : Option Replay
  deriving DecidableEq, Repr

/-! ## Slip unit (chapter 8) -/

inductive SlipKind where
  | loan
  | renew
  | hold
  | fine
  deriving DecidableEq, Repr

inductive SlipState where
  | free
  | opened
  | held
  | ready
  | printing
  deriving DecidableEq, Repr

/-- A date as slips print it (R145). -/
structure Date where
  year : Nat
  month : Nat
  day : Nat
  deriving DecidableEq, Repr

/-- A time as slips print it (R145). -/
structure TimeOfDay where
  hour : Nat
  minute : Nat
  deriving DecidableEq, Repr

/-- A slip line: its kind and the values it shows (R145). -/
inductive SlipLine where
  | header (kind : SlipKind) (station : Nat) (lane : LaneId) (date : Date) (time : TimeOfDay)
  | borrower (lastFour : Nat)
  | itemDue (item : Nat) (date : Date) (time : TimeOfDay)
  | continued (items : Nat)
  | total (count : Int) (balance : Int) (warning : Bool)
  | hold (title rank copy : Nat)
  | fine (item : Nat) (date : Date) (cents : Nat)
  deriving DecidableEq, Repr

/-- A slip record (R144). Its ready order is its place in the print queue. -/
structure Slip where
  state : SlipState
  kind : Option SlipKind
  lane : Option LaneId
  lines : List SlipLine
  /-- Title group and rank of a HOLD slip's hold. -/
  hold : Option (Nat × Nat)
  interrupted : Bool
  deriving DecidableEq, Repr

inductive PrinterState where
  | off
  | warming
  | idleWarm
  | printing
  | aligning
  | halted
  | fault
  deriving DecidableEq, Repr

/-- The two pulse forms of a pad (section 8.7). -/
inductive Pulse where
  | desensitise
  | resensitise
  deriving DecidableEq, Repr

structure Pad where
  present : Bool
  pulsing : Option Pulse
  waiting : List Pulse
  deriving DecidableEq, Repr

structure SlipUnit where
  /-- Slip records 0 to 7. -/
  slips : List Slip
  /-- Print queue, by slip record number, head first. -/
  queue : List Nat
  printer : PrinterState
  warmTimer : Timer
  unloadTimer : Timer
  /-- Accepted levels; none until a first level has been accepted (R158). -/
  paper : Option Paper
  lid : Option Lid
  alignSteps : Nat
  pad0 : Pad
  pad1 : Pad
  deriving DecidableEq, Repr

/-! ## Day clock and upload engine (chapter 9) -/

structure Clock where
  seconds : Nat
  minute : Nat
  day : Nat
  set : Bool
  armed : Bool
  rollMark : Bool
  rollRefusals : Nat
  deriving DecidableEq, Repr

inductive SenderState where
  | idle
  | calling
  | settling
  | beginning
  | reading
  | sending
  deriving DecidableEq, Repr

inductive UploadOutcome where
  | none
  | complete
  | noGateway
  | incomplete
  | refused (reason : Nat)
  | fault
  deriving DecidableEq, Repr

/-- The sender context (section 9.4). -/
structure Sender where
  state : SenderState
  gateway : Option Nat
  first : Nat
  count : Nat
  block : Nat
  records : List (List Byte)
  tries : Nat
  receipted : Nat
  /-- A receipt is taken and the marks are being moved (R171). -/
  moving : Bool
  outcome : UploadOutcome
  callTimer : Timer
  beginTimer : Timer
  receiptTimer : Timer
  deriving DecidableEq, Repr

/-- Why an entry of the session table is GONE (R172). -/
inductive GoneReason where
  | late
  | rejected
  deriving DecidableEq, Repr

inductive GatewayState where
  | waitingBegin
  | sending
  | done
  | gone (reason : GoneReason)
  deriving DecidableEq, Repr

structure GatewayEntry where
  state : GatewayState
  expected : Nat
  last : Nat
  silenceTimer : Timer
  deriving DecidableEq, Repr

/-- A block of the uplink queue. -/
structure UplinkBlock where
  station : Nat
  block : Nat
  records : List (List Byte)
  deriving DecidableEq, Repr

/-- A gateway session (section 9.6): 16 entries, the session's begin timer, the claim's day, the uplink
queue, whether the head's message is on the uplink, the answer timer, and whether the session is closing. -/
structure Gateway where
  entries : List GatewayEntry
  beginTimer : Timer
  claimDay : Nat
  queue : List UplinkBlock
  sendingHead : Bool
  answerTimer : Timer
  closing : Bool
  deriving DecidableEq, Repr

structure Upload where
  sender : Sender
  gateway : Option Gateway
  lastReject : Nat
  /-- Frames kept for the hand-again timer (R166). -/
  kept : List Notice
  handAgainTimer : Timer
  /-- The last message put on the uplink port, byte by byte. -/
  uplinkOut : List Byte
  deriving DecidableEq, Repr

/-! ## Desk port, attention, settings store and station state (chapter 10) -/

/-- Station settings 0 to 9 (section 10.4). -/
structure Settings where
  stationNumber : Fin 16
  lanePlan : Nat
  prescaler : Fin 4
  quietZone : Nat
  ratio : Nat
  agreement0 : Nat
  agreement1 : Nat
  idleSeconds : Nat
  reducedLimit : Nat
  unloadSeconds : Nat
  deriving DecidableEq, Repr

/-- One slot of an image of the settings store (R184). -/
structure Slot (α : Type) where
  image : α
  count : BitVec 32
  good : Bool
  deriving DecidableEq, Repr

structure Image (α : Type) where
  slot0 : Slot α
  slot1 : Slot α
  deriving DecidableEq, Repr

/-- The settings store: on-chip nonvolatile. An empty staged image holds `none` (R52). -/
structure Store where
  station : Image Settings
  active : Image RuleSet
  staged : Image (Option RuleSet)
  deriving DecidableEq, Repr

/-- A settings write cycle running, with what it writes (R186): the station image by COMMIT SETTINGS, the
active image by an activation, and the staged image by both. -/
structure WriteCycle where
  station : Option Settings
  active : Option RuleSet
  staged : Option RuleSet
  deriving DecidableEq, Repr

structure SettingsCtl where
  draft : Settings
  inForce : Settings
  /-- The uplink-fitted strap as read at start. -/
  strap : Bool
  cycle : Option WriteCycle
  /-- An activation asked for a write cycle while another ran (R52). -/
  recordWaiting : Bool
  lastFailed : Bool
  deriving DecidableEq, Repr

/-- The clearing effect that the last answer byte makes (R178). -/
inductive ClearEffect where
  | none
  | result (l : LaneId)
  | attention (cause : Nat)
  | query
  deriving DecidableEq, Repr

/-- The frame decoder (R178, R179): waiting for select, a frame opened with no command taken yet, a
command's answer being clocked, ready for a further command in the same select, the error state, and
after an accepted WARM RESTART. -/
inductive FrameState where
  | closed
  | opened
  | answering (effect : ClearEffect)
  | further
  | error
  | restarting
  deriving DecidableEq, Repr

structure Port where
  ready : Bool
  frame : FrameState
  errorLatch : Bool
  /-- The last port status byte clocked out. -/
  status : Byte
  /-- Take code and answer bytes of the command taken last. -/
  answer : List Byte
  /-- Bit k - 1 for cause k (R182). -/
  pending : BitVec 11
  enabled : BitVec 11
  deriving DecidableEq, Repr

inductive StationState where
  | starting
  | replaying
  | gathering
  | ready
  | fault
  deriving DecidableEq, Repr

/-- One station. -/
structure State where
  /-- Commands waiting, first in, first out. -/
  pending : List Instr
  station : StationState
  minimumTimer : Timer
  quietTimer : Timer
  wand0 : FrontEnd
  wand1 : FrontEnd
  /-- The wand whose buffer the decoder works on. -/
  decoding : Option Wand
  laneA : LaneCtl
  laneB : LaneCtl
  reckoner : Reckoner
  standing : Standing
  overlay : Overlay
  traps : List TrapRecord
  line : LineCtl
  memory : MemCtl
  attached : Attached
  slips : SlipUnit
  clock : Clock
  upload : Upload
  port : Port
  settings : SettingsCtl
  store : Store
  /-- The MODEL's own field: races settled so far by `Config.answerBeforeFault` (assumption 6). -/
  races : Nat
  deriving DecidableEq, Repr

/-- No command of this part stops it: every row of the table has an effect in every state, so there is no
fault to raise (INVENTORY.md, Faults). -/
inductive Fault where
  deriving DecidableEq, Repr

/-- Reasons to refuse a command. -/
inductive Refusal where
  /-- Raised by `exec` alone, for a command that has no meaning in the model yet. Safe. -/
  | notModelled (mnemonic : String)
  deriving DecidableEq, Repr

/-! ## Values after reset -/

/-- A front end after reset (R18). -/
def FrontEnd.reset (level : Level) : FrontEnd :=
  { state := .quiet, met := false, level := level, reached := false, buffer := [], tone := none, agreement := none,
    agreementTimer := none }

def ResultFlags.clear : ResultFlags := ⟨false, false, false, false, false, false⟩

def BlockSet.empty : BlockSet := ⟨false, false, false, false⟩

/-- A result record that holds nothing (R44, codes 0). -/
def Result.blank (l : LaneId) : Result :=
  { lane := l, operation := .none, cls := .none, reason := .none, mode := .ret, flags := .clear,
    blocks := .empty, borrower := none, item := none, due := none, amount := none, balance := none,
    count := none, renewCount := none, itemOut := none }

/-- A lane after reset (R45). -/
def LaneCtl.reset (l : LaneId) : LaneCtl :=
  { state := .closed, mode := .ret, session := none, endPending := false, idleTimer := none, txn := none,
    slot := none, result := .blank l, unread := false, trapWait := none, blockWait := none }

/-- The default rule set (section 3.1). -/
def RuleSet.default : RuleSet :=
  { classes := List.replicate 10 ⟨.none, 0, 0, 0, 0, 0⟩
    categories := List.replicate 8 ⟨0, 0⟩
    closure := 0
    hours := List.replicate 7 ⟨540, 1020⟩
    holidays := []
    warning := 65535
    blocking := 65535
    uploadMinute := 1320 }

/-- The default station settings (section 10.4). -/
def Settings.default : Settings :=
  { stationNumber := 0, lanePlan := 0, prescaler := 1, quietZone := 4000, ratio := 14, agreement0 := 1,
    agreement1 := 1, idleSeconds := 120, reducedLimit := 2, unloadSeconds := 10 }

/-- The standing table after reset (R86). -/
def Standing.reset : Standing :=
  { entries := [], uses := 0, parked := [], lookup := none, incomplete := false }

/-- The item overlay after reset (R105). -/
def Overlay.reset : Overlay := { entries := [], roomA := false, roomB := false }

/-- A peer record after a cold start (R127). -/
def Peer.reset : Peer :=
  { present := false, lastStamp := 0, edition := 0, day := 0, minute := 0, clockSet := false,
    uplinkFitted := false, absenceTimer := none, mismatches := 0, request := none }

/-- The line controller after a cold start (R127). -/
def LineCtl.reset : LineCtl :=
  { u := [], s := [], b := [], sending := none, state := .busy, receiving := false, listenOnly := false,
    awaitIdle := false, collisions := 0, courtesyS := false, courtesyB := false, badFrames := 0, ownFrames := 0, stamps := 0,
    peers := List.replicate 16 .reset, broadcastOwed := false, engine := .held none, restateOwed := false,
    presenceTimer := none }

def Copies.zero : Copies := ⟨0, 0, 0, 0, 0, 0, 0, 0, 0⟩

def LoadList.reset : LoadList := ⟨0, none, none⟩

def LoadCtl.reset : LoadCtl := ⟨false, .reset, .reset, .reset⟩

def Query.reset : Query :=
  { state := .none, field := .borrower, atOrAbove := false, value := 0, step := 0, position := 0,
    finish := 0, found := 0, buffer := none }

/-- The memory controller after a cold start (R143), its header copies not yet read. -/
def MemCtl.reset : MemCtl :=
  { faulted := false, copies := .zero, busy := none, waiting := [], lastLane := none, requested := 0,
    load := .reset, beginUnwritten := false, query := .reset, replay := none }

/-- A damaged cell, as blank memory holds (R129). -/
def HeaderCell.blank : HeaderCell := ⟨0, 0, false⟩

def CellPair.blank : CellPair := ⟨.blank, .blank⟩

/-- Blank attached memory (R130). -/
def Attached.blank : Attached :=
  { header := ⟨false, .blank, .blank, .blank, .blank, .blank, .blank, .blank, .blank, .blank⟩, cells := [] }

def Slip.free : Slip :=
  { state := .free, kind := none, lane := none, lines := [], hold := none, interrupted := false }

def Pad.reset : Pad := ⟨false, none, []⟩

/-- The slip unit after reset (R158). -/
def SlipUnit.reset : SlipUnit :=
  { slips := List.replicate 8 .free, queue := [], printer := .off, warmTimer := none, unloadTimer := none,
    paper := none, lid := none, alignSteps := 0, pad0 := .reset, pad1 := .reset }

/-- The day clock after a cold start (R177). -/
def Clock.reset : Clock := ⟨0, 0, 0, false, false, false, 0⟩

/-- The sender after reset (R177). -/
def Sender.reset : Sender :=
  { state := .idle, gateway := none, first := 0, count := 0, block := 0, records := [], tries := 0,
    receipted := 0, moving := false, outcome := .none, callTimer := none, beginTimer := none,
    receiptTimer := none }

/-- The upload engine after reset (R177). -/
def Upload.reset : Upload :=
  { sender := .reset, gateway := none, lastReject := 0, kept := [], handAgainTimer := none, uplinkOut := [] }

/-- The desk port after reset (R189): every enable set except PEER's, which is bit 10. -/
def Port.reset : Port :=
  { ready := false, frame := .closed, errorLatch := false, status := 0, answer := [], pending := 0,
    enabled := 0b01111111111 }

/-- Settings control after reset, before the settings are read (R189). -/
def SettingsCtl.reset : SettingsCtl :=
  { draft := .default, inForce := .default, strap := false, cycle := none, recordWaiting := false,
    lastFailed := false }

/-- A slot never written. -/
def Slot.unwritten {α : Type} (a : α) : Slot α := ⟨a, 0, false⟩

/-- A settings store in which nothing has been recorded. -/
def Store.blank : Store :=
  { station := ⟨.unwritten .default, .unwritten .default⟩
    active := ⟨.unwritten .default, .unwritten .default⟩
    staged := ⟨.unwritten none, .unwritten none⟩ }

/-- The machine right after power-on, before it has read its settings: every block at its cold-start values
(R18, R45, R65, R86, R105, R127, R143, R158, R177, R189), the attached memory blank and the settings store
unwritten (assumptions 1 and 2). -/
def State.reset : State :=
  { pending := []
    station := .starting
    minimumTimer := none
    quietTimer := none
    wand0 := .reset .space
    wand1 := .reset .space
    decoding := none
    laneA := .reset .a
    laneB := .reset .b
    reckoner := ⟨.default, none, false⟩
    standing := .reset
    overlay := .reset
    traps := []
    line := .reset
    memory := .reset
    attached := .blank
    slips := .reset
    clock := .reset
    upload := .reset
    port := .reset
    settings := .reset
    store := .blank
    races := 0 }

end Sys2Proof.Machine
end

