-- ==== Sys2Proof/Machine/Operands.lean ====
section
/-! DEFINITION. Machine/Operands.lean: how operands are read and written: numbers as bytes, packed decimal
digits, labels and their check digit, lane numbers, and the CRC-16. -/

namespace Sys2Proof.Machine

/-! ## Numbers as bytes (most significant byte first) -/

/-- The low byte of a number. -/
def byteOf (x : Nat) : Byte := BitVec.ofNat 8 x

/-- A number in `n` bytes, most significant byte first. -/
def bytesOf : Nat → Nat → List Byte
  | 0, _ => []
  | n + 1, x => byteOf (x / 256 ^ n) :: bytesOf n x

/-- A signed number in `n` bytes, two's complement. -/
def bytesOfInt (n : Nat) (x : Int) : List Byte := bytesOf n (x % (256 ^ n : Nat)).toNat

/-- The number that bytes spell, most significant byte first. -/
def natOf (bs : List Byte) : Nat := bs.foldl (fun acc b => acc * 256 + b.toNat) 0

/-- The signed number that bytes spell in two's complement. -/
def intOf (bs : List Byte) : Int :=
  if 2 * natOf bs < 256 ^ bs.length then natOf bs else (natOf bs : Int) - (256 ^ bs.length : Nat)

/-- `n` bytes from position `i` of a list; a byte past its end reads as 0. -/
def bytesAt (bs : List Byte) (i n : Nat) : List Byte :=
  (List.range n).map fun k => (bs[i + k]?).getD 0

/-- The number in bytes `i .. i + n - 1`. -/
def natAt (bs : List Byte) (i n : Nat) : Nat := natOf (bytesAt bs i n)

/-- A byte of flags, bit 0 first. -/
def flagByte (flags : List Bool) : Nat :=
  (flags.zipIdx.map fun (f, i) => if f then 2 ^ i else 0).sum

/-! ## Packed decimal digits (R180) -/

/-- The `n` half-bytes of a packed field, upper half of the first byte first. -/
def halfBytes (n x : Nat) : List Nat := (List.range n).map fun i => x / 16 ^ (n - 1 - i) % 16

/-- Every half-byte is a decimal digit. -/
def allDecimal (ds : List Nat) : Bool := ds.all (· ≤ 9)

/-- The number that decimal digits spell. Numbers of a fixed digit count order as their digit strings do,
so borrower numbers, item numbers and title groups are held as numbers (section 4.3). -/
def numberOf (ds : List Nat) : Nat := ds.foldl (fun acc d => acc * 10 + d) 0

/-- A 12-digit number sent as 6 bytes of packed digits; none when a half-byte is above 9 (R180). -/
def packedNumber (x : BitVec 48) : Option Nat :=
  let ds := halfBytes 12 x.toNat
  if allDecimal ds then some (numberOf ds) else none

/-- The `n` decimal digits of a number, leading zeros kept. -/
def decimalDigits (n x : Nat) : List Nat := (List.range n).map fun i => x / 10 ^ (n - 1 - i) % 10

/-- A 12-digit number as 6 bytes of packed digits. -/
def packNumber (x : Nat) : List Byte :=
  (List.range 6).map fun i => byteOf (x / 10 ^ (11 - 2 * i) % 10 * 16 + x / 10 ^ (10 - 2 * i) % 10)

/-! ## Parts of an item number (section 4.3) -/

/-- Class digit d2. -/
def itemClass (item : Nat) : Nat := item / 10 ^ 11 % 10

/-- Title group d3 to d9. -/
def itemTitle (item : Nat) : Nat := item / 10 ^ 4 % 10 ^ 7

/-- Copy d10 to d13. -/
def itemCopy (item : Nat) : Nat := item % 10 ^ 4

/-! ## Labels (R13, R14) -/

/-- Expected check digit over the digits before the last (R13). -/
def checkDigit (ds : List Nat) : Nat :=
  let sum := (ds.zipIdx.map fun (d, i) => if i % 2 = 0 then 3 * d else d).sum
  (10 - sum % 10) % 10

/-- The last digit of a label agrees with the digits before it (R13). -/
def checkHolds (ds : List Nat) : Bool := ds.getLast? == some (checkDigit ds.dropLast)

/-- Kind of a label and the fields its kind takes from the digits (R14, section 1.7). -/
def labelKind (ds : List Nat) : LabelKind :=
  let inner := numberOf (ds.dropLast.drop 1)
  if ds.length = 14 ∧ ds.head? = some 2 then .borrower inner
  else if ds.length = 14 ∧ ds.head? = some 3 then .item inner
  else if ds.length = 6 ∧ ds.head? = some 9 then .deskCommand inner
  else .badKind

/-- The offer built for a label (R14). -/
def offerOf (source : Source) (ds : List Nat) : Offer := ⟨source, labelKind ds, ds⟩

/-- Lane named by a lane byte: 0 for A and 1 for B (R180). -/
def laneOfByte (b : Byte) : Option LaneId :=
  if b = 0 then some .a else if b = 1 then some .b else none

/-- Lane mode codes (R44, byte 6). -/
def modeOfByte (b : Byte) : Option LaneMode :=
  if b = 0 then some .lend else if b = 1 then some .ret else if b = 2 then some .renew
  else if b = 3 then some .inquire else none

/-- Block reason codes of BLOCK and LIFT (section 10.2). -/
def reasonOfByte (b : Byte) : Option BlockReason :=
  if b = 1 then some .lost else if b = 2 then some .staff else none

/-! ## CRC-16 (R107) -/

/-- One bit into the CRC register: generator x^16 + x^12 + x^5 + 1. -/
def crcBit (crc : BitVec 16) (bit : Bool) : BitVec 16 :=
  if crc.msb ^^ bit then (crc <<< 1) ^^^ 0x1021 else crc <<< 1

/-- One byte, most significant bit first. -/
def crcByte (crc : BitVec 16) (b : Byte) : BitVec 16 :=
  [7, 6, 5, 4, 3, 2, 1, 0].foldl (fun c i => crcBit c (b.getLsbD i)) crc

/-- The remainder over bytes, the register preset to FFFFh, with no final inversion. -/
def crc16 (bs : List Byte) : BitVec 16 := bs.foldl crcByte 0xFFFF

/-! ## Arithmetic limits -/

/-- A value clamped to a range. -/
def clampInt (lo hi x : Int) : Int := max lo (min hi x)

/-- A value taken at the nearer end of its range when it lies outside. -/
def clampNat (lo hi x : Nat) : Nat := max lo (min hi x)

/-- A counter that saturates at 65,535. -/
def saturatingSucc (x : Nat) : Nat := if x < Config.saturation then x + 1 else x

end Sys2Proof.Machine
end

