-- ==== Sys2Proof/Machine/Ops.lean ====
section
/-! DEFINITION. Machine/Ops.lean: the named operations on one block's state that every chapter uses: lanes
and wands by name, attention causes, tones, and the attached memory's bytes and header fields. -/

namespace Sys2Proof.Machine

/-! ## The outcome of a command -/

/-- Every command of this part ends in a next state. -/
def done (s : State) : Host.Outcome State Fault Refusal := .next s

/-! ## Lanes and wands -/

def State.lane (s : State) : LaneId → LaneCtl
  | .a => s.laneA
  | .b => s.laneB

def State.setLane (s : State) (l : LaneId) (c : LaneCtl) : State :=
  match l with
  | .a => { s with laneA := c }
  | .b => { s with laneB := c }

def State.mapLane (s : State) (l : LaneId) (f : LaneCtl → LaneCtl) : State := s.setLane l (f (s.lane l))

/-- Change the transaction context of a lane, if it has one. -/
def State.mapTxn (s : State) (l : LaneId) (f : Txn → Txn) : State :=
  s.mapLane l fun c => { c with txn := c.txn.map f }

def State.wand (s : State) : Wand → FrontEnd
  | .w0 => s.wand0
  | .w1 => s.wand1

def State.setWand (s : State) (w : Wand) (fe : FrontEnd) : State :=
  match w with
  | .w0 => { s with wand0 := fe }
  | .w1 => { s with wand1 := fe }

def otherLane : LaneId → LaneId
  | .a => .b
  | .b => .a

/-- The lane plan in force is ONE_LANE (R2): a stored plan of 1; any other value is TWO_LANES. -/
def State.oneLane (s : State) : Bool := s.settings.inForce.lanePlan == 1

/-- The lane is CLOSED by the lane plan (R17, R19). -/
def State.closedByPlan (s : State) (l : LaneId) : Bool := s.oneLane && l == .b

/-- The lane is IDLE, or CLOSED by the lane plan (R134). -/
def State.laneFree (s : State) (l : LaneId) : Bool :=
  (s.lane l).state == .idle || s.closedByPlan l

/-- The station number in force. -/
def State.number (s : State) : Nat := s.settings.inForce.stationNumber.val

/-- The station's roll edition: the on-chip copy (R130). -/
def State.edition (s : State) : Nat := s.memory.copies.edition

/-! ## Attention (R182) -/

/-- The eleven attention causes, by code. -/
def causeStationFault : Nat := 1
def causeResult : LaneId → Nat
  | .a => 2
  | .b => 3
def causeOverrun : LaneId → Nat
  | .a => 4
  | .b => 5
def causePrinter : Nat := 6
def causeHoldConflict : Nat := 7
def causeUpload : Nat := 8
def causeDayRoll : Nat := 9
def causeJournalHigh : Nat := 10
def causePeer : Nat := 11

/-- The bit of a cause: bit k - 1 for cause k. -/
def causeBit (k : Nat) : BitVec 11 := (1 : BitVec 11) <<< (k - 1)

/-- Latch a cause: it becomes pending whether or not it is enabled, but a latch of PEER while its enable is
clear is not made (R182). -/
def State.latch (s : State) (k : Nat) : State :=
  if k = causePeer ∧ s.port.enabled &&& causeBit k = 0 then s
  else { s with port := { s.port with pending := s.port.pending ||| causeBit k } }

/-- Clear a cause. -/
def State.clearCause (s : State) (k : Nat) : State :=
  { s with port := { s.port with pending := s.port.pending &&& ~~~ causeBit k } }

/-- The attention output, and the port status bit Attention pending (R182). -/
def State.attention (s : State) : Bool := s.port.pending &&& s.port.enabled != 0

/-! ## Tones and lamp (R9) -/

/-- A tone request starts the tone from its beginning and cuts off any tone sounding on that wand. -/
def State.tone (s : State) (w : Wand) (t : Tone) : State := s.setWand w { s.wand w with tone := some t }

/-- A tone on the source wand of an offer; a keyed entry and a borrower operation get none (section 2.2,
R40). -/
def State.sourceTone (s : State) (src : Source) (t : Tone) : State :=
  match src with
  | .wand w => s.tone w t
  | .keyed => s
  | .port => s

/-- The lamp output: lit in CAPTURING (R9). -/
def FrontEnd.lamp (fe : FrontEnd) : Bool := fe.state == .capturing

/-! ## Bytes of the attached memory -/

/-- What an unlisted address of the attached memory reads as (assumption 2). -/
def Memory.blankByte : Byte := 0

/-- The canonical form: addresses strictly rising, inside the 16 MiB, and no byte equal to what an unlisted
address reads as. -/
def Memory.wf : List Host.Cell → Bool
  | [] => true
  | [c] => c.2 != Memory.blankByte && decide (c.1 < Config.memorySize)
  | c :: d :: rest => c.2 != Memory.blankByte && decide (c.1 < d.1) && Memory.wf (d :: rest)

/-- Read one byte. -/
def Memory.read : List Host.Cell → Nat → Byte
  | [], _ => Memory.blankByte
  | (b, x) :: rest, a => if b = a then x else if a < b then Memory.blankByte else Memory.read rest a

/-- Put a byte at an address of a list in canonical form, keeping the form. -/
def Memory.put : List Host.Cell → Nat → Byte → List Host.Cell
  | [], a, x => if x = Memory.blankByte then [] else [(a, x)]
  | (b, y) :: rest, a, x =>
    if a < b then (if x = Memory.blankByte then (b, y) :: rest else (a, x) :: (b, y) :: rest)
    else if a = b then (if x = Memory.blankByte then rest else (a, x) :: rest)
    else (b, y) :: Memory.put rest a x

/-- Write one byte. The port has no address above the 16 MiB, so nothing is written there. -/
def Memory.write (m : List Host.Cell) (a : Nat) (x : Byte) : List Host.Cell :=
  if a < Config.memorySize then Memory.put m a x else m

/-- Write bytes from an address on. -/
def Memory.writeBytes : List Host.Cell → Nat → List Byte → List Host.Cell
  | m, _, [] => m
  | m, a, x :: xs => Memory.writeBytes (Memory.write m a x) (a + 1) xs

/-- Read `n` bytes from an address on. -/
def Memory.readBytes (m : List Host.Cell) (a n : Nat) : List Byte :=
  (List.range n).map fun k => Memory.read m (a + k)

def State.readBytes (s : State) (a n : Nat) : List Byte := Memory.readBytes s.attached.cells a n

def State.writeBytes (s : State) (a : Nat) (bs : List Byte) : State :=
  { s with attached := { s.attached with cells := Memory.writeBytes s.attached.cells a bs } }

/-! ## Check bytes (R129) -/

/-- The bytes of a unit sum to 5Ah mod 256: the unit is not damaged. -/
def unitGood (bs : List Byte) : Bool := (bs.map BitVec.toNat).sum % 256 == 0x5A

/-- The check byte of a unit whose other bytes are given. -/
def checkByte (bs : List Byte) : Byte := byteOf (0x5A + 256 - (bs.map BitVec.toNat).sum % 256)

/-- A unit completed with its check byte. -/
def withCheck (bs : List Byte) : List Byte := bs ++ [checkByte bs]

/-! ## Header fields (R128) -/

def Header.pair (h : Header) : HeaderField → CellPair
  | .edition => h.edition
  | .rollCount => h.rollCount
  | .loansCount => h.loansCount
  | .holdCount => h.holdCount
  | .tail => h.tail
  | .send => h.send
  | .snapshot => h.snapshot
  | .head => h.head
  | .editionStart => h.editionStart

def Header.setPair (h : Header) (f : HeaderField) (p : CellPair) : Header :=
  match f with
  | .edition => { h with edition := p }
  | .rollCount => { h with rollCount := p }
  | .loansCount => { h with loansCount := p }
  | .holdCount => { h with holdCount := p }
  | .tail => { h with tail := p }
  | .send => { h with send := p }
  | .snapshot => { h with snapshot := p }
  | .head => { h with head := p }
  | .editionStart => { h with editionStart := p }

/-- The cell that holds a field's value: the one that is not damaged, or the one with the higher write
count where neither is; none when both are damaged (R130). -/
def CellPair.value? (p : CellPair) : Option Nat :=
  match p.cell0.good, p.cell1.good with
  | true, true => some (if p.cell1.count < p.cell0.count then p.cell0.value else p.cell1.value)
  | true, false => some p.cell0.value
  | false, true => some p.cell1.value
  | false, false => none

/-- A write goes to cell 0 when it is damaged while cell 1 is whole, or has the lower write count
(R128; assumption 14 for a damaged cell). -/
def CellPair.writesCell0 (p : CellPair) : Bool :=
  match p.cell0.good, p.cell1.good with
  | true, true => decide (p.cell0.count < p.cell1.count)
  | true, false => false
  | false, true => true
  | false, false => true

/-- Write a value with a count one higher than the other cell's; `good` is false for a write that was cut
off or whose read-back failed. -/
def CellPair.write (p : CellPair) (v : Nat) (good : Bool) : CellPair :=
  if p.writesCell0 then { p with cell0 := ⟨v, p.cell1.count + 1, good⟩ }
  else { p with cell1 := ⟨v, p.cell0.count + 1, good⟩ }

def Copies.get (c : Copies) : HeaderField → Nat
  | .edition => c.edition
  | .rollCount => c.rollCount
  | .loansCount => c.loansCount
  | .holdCount => c.holdCount
  | .tail => c.tail
  | .send => c.send
  | .snapshot => c.snapshot
  | .head => c.head
  | .editionStart => c.editionStart

def Copies.set (c : Copies) (f : HeaderField) (v : Nat) : Copies :=
  match f with
  | .edition => { c with edition := v }
  | .rollCount => { c with rollCount := v }
  | .loansCount => { c with loansCount := v }
  | .holdCount => { c with holdCount := v }
  | .tail => { c with tail := v }
  | .send => { c with send := v }
  | .snapshot => { c with snapshot := v }
  | .head => { c with head := v }
  | .editionStart => { c with editionStart := v }

def State.setCopy (s : State) (f : HeaderField) (v : Nat) : State :=
  { s with memory := { s.memory with copies := s.memory.copies.set f v } }

/-- Write one header field in the attached memory, whole or torn. -/
def State.writeField (s : State) (f : HeaderField) (v : Nat) (good : Bool) : State :=
  let h := s.attached.header
  { s with attached := { s.attached with header := h.setPair f ((h.pair f).write v good) } }

/-- Write one header field whole; the on-chip copy follows (R128). -/
def State.commitField (s : State) (f : HeaderField) (v : Nat) : State := (s.writeField f v true).setCopy f v

/-- Write header fields in order, the first `n` of them whole. When `torn`, the write of the next one is
begun and leaves a damaged cell. -/
def State.writeFields : State → List (HeaderField × Nat) → Nat → Bool → State
  | s, [], _, _ => s
  | s, (f, v) :: _, 0, torn => if torn then s.writeField f v false else s
  | s, (f, v) :: rest, n + 1, torn => (s.commitField f v).writeFields rest n torn

/-- Head minus tail: the number of records in the journal's content (R128). -/
def State.content (s : State) : Nat := s.memory.copies.head - s.memory.copies.tail

/-- Read the header into the on-chip copies; none on a header fault (R130). -/
def Header.copies? (h : Header) : Option Copies := do
  let edition ← h.edition.value?
  let rollCount ← h.rollCount.value?
  let loansCount ← h.loansCount.value?
  let holdCount ← h.holdCount.value?
  let tail ← h.tail.value?
  let send ← h.send.value?
  let snapshot ← h.snapshot.value?
  let head ← h.head.value?
  let editionStart ← h.editionStart.value?
  pure ⟨edition, rollCount, loansCount, holdCount, tail, send, snapshot, head, editionStart⟩

/-! ## Clock and journal tests that several blocks make -/

/-- The journal is full for a lane's tests (R137). -/
def State.journalFull (s : State) : Bool :=
  decide (Config.journalSlots ≤ s.content + s.memory.requested)

/-- No stamp can be taken (R110). -/
def State.stampsOut (s : State) : Bool := decide (Config.lastStamp ≤ s.line.stamps)

/-- The station has left STARTING, so the line controller and the slip unit work (R127, R158). -/
def State.begun (s : State) : Bool := s.station != .starting

/-- READY or GATHERING with a memory controller that is not faulted: the station may take part in an upload
(R165, R167, R168). -/
def State.uploadAble (s : State) : Bool :=
  (s.station == .ready || s.station == .gathering) && !s.memory.faulted

end Sys2Proof.Machine
end

