-- ==== Sys2Proof/Machine/Reckoner.lean ====
section
/-! DEFINITION. Machine/Reckoner.lean: due dates, fines, balances, the window and the limit tests (R46,
R53 to R64), and the staging and activation of a rule set (R47 to R52). -/

namespace Sys2Proof.Machine

/-! ## Rules by number -/

def RuleSet.classRule (rs : RuleSet) (c : Nat) : ClassRule := (rs.classes[c]?).getD ⟨.none, 0, 0, 0, 0, 0⟩

def RuleSet.categoryRule (rs : RuleSet) (c : Nat) : CategoryRule := (rs.categories[c]?).getD ⟨0, 0⟩

/-- The category may borrow the class (R31, test 2). -/
def RuleSet.admits (rs : RuleSet) (category cls : Nat) : Bool := (rs.categoryRule category).mask.getLsbD cls

/-! ## Calendar (R53) -/

/-- Weekday of a day, 0 for Monday (section 4.4). -/
def weekday (day : Nat) : Nat := day % 7

/-- A day is open when its weekday's closure flag is clear and it is no holiday; a search stays within
0..65,535. -/
def RuleSet.opens (rs : RuleSet) (day : Nat) : Bool :=
  decide (day ≤ 65535) && !rs.closure.getLsbD (weekday day) && !rs.holidays.contains day

def RuleSet.dayHours (rs : RuleSet) (day : Nat) : DayHours := (rs.hours[weekday day]?).getD ⟨540, 1020⟩

/-- The earliest open day among `n` days from `day` on. -/
def RuleSet.firstOpen (rs : RuleSet) : Nat → Nat → Option Nat
  | 0, _ => none
  | n + 1, day => if rs.opens day then some day else rs.firstOpen n (day + 1)

/-- The latest open day among `base + 1 .. base + n`. -/
def RuleSet.lastOpen (rs : RuleSet) (base : Nat) : Nat → Option Nat
  | 0 => none
  | n + 1 => if rs.opens (base + n + 1) then some (base + n + 1) else rs.lastOpen base n

/-- Open days among `n` days from `day` on, counted in ascending order from `count` and stopping at 400
(R57). -/
def RuleSet.countOpen (rs : RuleSet) : Nat → Nat → Nat → Nat
  | 0, _, count => count
  | n + 1, day, count =>
    if 400 ≤ count then count else rs.countOpen n (day + 1) (if rs.opens day then count + 1 else count)

/-! ## Due dates -/

/-- The provisional due day of a DAYS loan (R54). -/
def RuleSet.provisionalDue (rs : RuleSet) (period day : Nat) : Option Nat :=
  if 65535 < day + period then none
  else (rs.firstOpen 15 (day + period)).or (rs.lastOpen day (period - 1))

/-- Due day of a DAYS loan after the expiry clamp, with its due minute (R54, R55). -/
def RuleSet.dueDays (rs : RuleSet) (period expiry day : Nat) : Except Reason (Nat × Nat) :=
  match rs.provisionalDue period day with
  | none => .error .noDueDay
  | some p =>
    if p ≤ expiry then .ok (p, (rs.dayHours p).closing)
    else match rs.lastOpen day (expiry - day) with
      | some d => .ok (d, (rs.dayHours d).closing)
      | none => .error .cardExpiring

/-- Due minute of an HOURS loan (R56). -/
def RuleSet.dueHours (rs : RuleSet) (hours expiry day minute : Nat) : Except Reason (Nat × Nat) :=
  let h := rs.dayHours day
  let start := max minute h.opening
  if expiry < day then .error .cardExpiring
  else if !rs.opens day then .error .closedToday
  else if h.closing < start + 15 then .error .tooLate
  else .ok (day, min (start + 60 * hours) h.closing)

/-- Due day and minute of a loan of a class made now, or the reckoner's refusal (R54 to R56). A class of
unit NONE is refused by the lane before it asks (R31, R37). DESIGN CHOICE (assumption 37): where an activation
makes the unit NONE between that test and the reckoning, the answer is NOT_FOR_LOAN, the reason of the test. -/
def RuleSet.due (rs : RuleSet) (cls expiry day minute : Nat) : Except Reason (Nat × Nat) :=
  let r := rs.classRule cls
  match r.unit with
  | .days => rs.dueDays r.period expiry day
  | .hours => rs.dueHours r.period expiry day minute
  | .none => .error .notForLoan

/-! ## Fines -/

/-- Fine of a DAYS item (R57). -/
def RuleSet.fineDays (rs : RuleSet) (r : ClassRule) (dueDay day : Nat) : Nat :=
  min ((rs.countOpen (day - dueDay) (dueDay + 1) 0 - r.grace) * r.rate) r.cap

/-- Fine of an HOURS item (R58). -/
def fineHours (r : ClassRule) (dueDay dueMinute day minute : Nat) : Nat :=
  if day < dueDay then 0
  else if day = dueDay then
    if minute ≤ dueMinute then 0 else min ((minute - dueMinute + 59) / 60 * r.rate) r.cap
  else r.cap

/-- Fine of an item returned now, by the unit its class has in the active set (R57, R58). -/
def RuleSet.fine (rs : RuleSet) (cls dueDay dueMinute day minute : Nat) : Nat :=
  let r := rs.classRule cls
  match r.unit with
  | .days => rs.fineDays r dueDay day
  | .hours => fineHours r dueDay dueMinute day minute
  | .none => 0

/-! ## Balance, window, count and limit (R60 to R64) -/

def minBalance : Int := -99999
def maxBalance : Int := 999999

/-- Exact sum of baseline, own and peer balances. -/
def Entry.exactBalance (e : Entry) : Int :=
  e.roll.balance + e.own.balance + (e.peers.map fun p => p.tally.balance).sum

/-- The balance (R60). -/
def Entry.balance (e : Entry) : Int := clampInt minBalance maxBalance e.exactBalance

/-- The loan count (R62). -/
def Entry.count (e : Entry) : Int := (e.roll.loans : Int) + e.own.loans + (e.peers.map fun p => p.tally.loans).sum

/-- The FINES state that the window gives for a balance and the present state (R61). -/
def RuleSet.window (rs : RuleSet) (balance : Int) (present : Bool) : Bool :=
  if (rs.blocking : Int) ≤ balance then true else if balance < (rs.warning : Int) then false else present

/-- The FINES state of an entry just created (R61). -/
def RuleSet.windowNew (rs : RuleSet) (balance : Int) : Bool := decide ((rs.blocking : Int) ≤ balance)

/-- The warning mark of a balance (R61). -/
def RuleSet.warningMark (rs : RuleSet) (balance : Int) : Bool := decide ((rs.warning : Int) ≤ balance)

/-- The limit in force for a category (R63). -/
def State.limitInForce (s : State) (category : Nat) : Nat :=
  let l := (s.reckoner.active.categoryRule category).limit
  if s.standing.incomplete then min l s.settings.inForce.reducedLimit else l

/-- Reservations on an entry (R74). -/
def Entry.reservations (e : Entry) : Nat := e.reservedA.toNat + e.reservedB.toNat

/-- Limit test at CHECK (R64). -/
def State.limitAtCheck (s : State) (e : Entry) : Bool :=
  decide (e.count + e.reservations + 1 ≤ s.limitInForce e.roll.category)

/-- Limit test at COMMIT, the lane's own reservation counted (R64). -/
def State.limitAtCommit (s : State) (e : Entry) : Bool :=
  decide (e.count + e.reservations ≤ s.limitInForce e.roll.category)

/-! ## Block records and the block reason set (R75) -/

/-- A block reason is effective. -/
def BlockRecord.effective (r : BlockRecord) (rollFlag : Bool) : Bool :=
  match r.state with
  | .roll => rollFlag
  | .raised _ _ => true
  | .lifted _ _ => false

/-- LOST or STAFF is effective, or FINES is on. -/
def Entry.blocked (e : Entry) : Bool :=
  e.lost.effective e.roll.lost || e.staff.effective e.roll.staff || e.fines

/-- The block reason set reported by a lane. -/
def Entry.blockSet (e : Entry) (today : Nat) : BlockSet :=
  ⟨e.lost.effective e.roll.lost, e.staff.effective e.roll.staff, e.fines, decide (e.roll.expiry < today)⟩

/-! ## Staging (R47 to R49) -/

/-- The set a STAGE RULE part changes: the staged set, or a copy of the active one (R47). -/
def Reckoner.base (r : Reckoner) : RuleSet := r.staged.getD r.active

/-- Write a changed set into the staged set: STAGED UNRECORDED (R47). -/
def Reckoner.stage (r : Reckoner) (rs : RuleSet) : Reckoner := { r with staged := some rs, recorded := false }

/-- Staged state code (section 3.2). -/
def Reckoner.stagedCode (r : Reckoner) : Nat :=
  match r.staged with
  | none => 0
  | some _ => if r.recorded then 2 else 1

/-- The class rule a CLASS part writes; none when it fails its checks (R47). -/
def stagedClassRule (unit period rate cap grace renewLimit : Nat) : Option ClassRule :=
  if 5000 < rate ∨ 60000 < cap ∨ 9 < renewLimit then none
  else if unit = 0 then some ⟨.none, 0, rate, cap, 0, renewLimit⟩
  else if unit = 1 then
    if 1 ≤ period ∧ period ≤ 120 ∧ grace ≤ 7 then some ⟨.days, period, rate, cap, grace, renewLimit⟩ else none
  else if unit = 2 then
    if 1 ≤ period ∧ period ≤ 12 then some ⟨.hours, period, rate, cap, 0, renewLimit⟩ else none
  else none

/-- Insert a day into a list in ascending order; a day already held leaves the list as it is (R48). -/
def insertDay (day : Nat) : List Nat → List Nat
  | [] => [day]
  | d :: ds => if day < d then day :: d :: ds else if day = d then d :: ds else d :: insertDay day ds

/-- WINDOW part: the warning threshold is written no higher than the block threshold (R49). -/
def RuleSet.withWindow (rs : RuleSet) (w b : Nat) : RuleSet := { rs with warning := min w b, blocking := b }

/-! ## Settings store (R184) -/

/-- The image a store slot pair gives at start: none when both slots fail their check. -/
def Image.current {α : Type} (i : Image α) : Option α :=
  match i.slot0.good, i.slot1.good with
  | true, true => some (if i.slot1.count < i.slot0.count then i.slot0.image else i.slot1.image)
  | true, false => some i.slot0.image
  | false, true => some i.slot1.image
  | false, false => none

/-- A write goes to slot 0 when slot 0 has the lower write count, or is damaged while slot 1 is whole. -/
def Image.writesSlot0 {α : Type} (i : Image α) : Bool :=
  match i.slot0.good, i.slot1.good with
  | true, true => decide (i.slot0.count < i.slot1.count)
  | true, false => false
  | false, true => true
  | false, false => true

/-- Write an image to one slot with a count one higher than the other's (R184); `good` is false when the
slot reads back wrong or its write was cut off. -/
def Image.write {α : Type} (i : Image α) (a : α) (good : Bool) : Image α :=
  if i.writesSlot0 then { i with slot0 := ⟨a, i.slot1.count + 1, good⟩ }
  else { i with slot1 := ⟨a, i.slot0.count + 1, good⟩ }

/-! ## Activation (R50, R52) -/

/-- The write cycle of an activation: the active set, and no staged set (R52). -/
def State.recordCycle (s : State) : WriteCycle := ⟨none, some s.reckoner.active, none⟩

/-- Ask the settings store to record the active set: at once, or when the running cycle completes (R52). -/
def State.askRecord (s : State) : State :=
  match s.settings.cycle with
  | none => { s with settings := { s.settings with cycle := some s.recordCycle } }
  | some _ => { s with settings := { s.settings with recordWaiting := true } }

/-- The staged set, if there is one, replaces the active set whole (R50). -/
def State.activate (s : State) : State :=
  match s.reckoner.staged with
  | none => s
  | some rs => State.askRecord { s with reckoner := ⟨rs, none, false⟩ }

end Sys2Proof.Machine
end

