-- ==== Sys2Proof/Machine/Journal.lean ====
section
/-! DEFINITION. Machine/Journal.lean: what the attached memory's areas hold: list entries and journal
records as bytes (sections 7.2 and 7.6), and the searches of a lookup (R132, R133). -/

namespace Sys2Proof.Machine

/-! ## Journal records (section 7.6) -/

def RecordKind.code : RecordKind → Nat
  | .loan => 1
  | .ret => 2
  | .renew => 3
  | .payment => 4
  | .block => 5
  | .lift => 6

def RecordKind.ofCode : Nat → Option RecordKind
  | 1 => some .loan
  | 2 => some .ret
  | 3 => some .renew
  | 4 => some .payment
  | 5 => some .block
  | 6 => some .lift
  | _ => none

def laneCode : LaneId → Nat
  | .a => 0
  | .b => 1

/-- Detail field, bytes 21 to 25. -/
def JournalRecord.detail (r : JournalRecord) : List Byte :=
  match r.kind with
  | .loan => bytesOf 2 r.dueDay ++ bytesOf 2 r.dueMinute ++ [0]
  | .renew => bytesOf 2 r.dueDay ++ bytesOf 2 r.dueMinute ++ [0]
  | .ret => bytesOf 5 r.holdBorrower
  | .payment => bytesOf 5 0
  | .block => bytesOf 5 0
  | .lift => bytesOf 5 0

/-- A record in the journal layout, check byte included. -/
def JournalRecord.bytes (r : JournalRecord) : List Byte :=
  withCheck (bytesOf 4 r.number ++ bytesOf 2 r.stamp ++ [byteOf (r.kind.code + 16 * laneCode r.lane)]
    ++ bytesOf 2 r.day ++ bytesOf 2 r.minute ++ bytesOf 5 r.borrower ++ bytesOf 5 r.item ++ r.detail
    ++ bytesOf 3 r.amount ++ [byteOf r.outcome, byteOf r.edition])

/-- Address of the slot of record number `n` (section 7.1). -/
def slotAddress (n : Nat) : Nat := Config.journalBase + 32 * (n % Config.journalSlots)

/-- The 32 bytes of the slot of record number `n`. -/
def State.slotBytes (s : State) (n : Nat) : List Byte := s.readBytes (slotAddress n) 32

/-- The slot holds record number `n` undamaged (R129, R138, R141). -/
def slotHolds (bs : List Byte) (n : Nat) : Bool := unitGood bs && natAt bs 0 4 == n

/-- The record that 32 bytes spell; a kind code outside the table is taken as none. -/
def recordOf (bs : List Byte) : Option JournalRecord :=
  let k := (bytesAt bs 6 1).headD 0
  (RecordKind.ofCode (k.toNat % 16)).map fun kind =>
    let carriesLoan := kind == .loan || kind == .renew
    { number := natAt bs 0 4, stamp := natAt bs 4 2, kind := kind
      lane := if k.getLsbD 4 then .b else .a
      day := natAt bs 7 2, minute := natAt bs 9 2, borrower := natAt bs 11 5, item := natAt bs 16 5
      dueDay := if carriesLoan then natAt bs 21 2 else 0
      dueMinute := if carriesLoan then natAt bs 23 2 else 0
      holdBorrower := if kind == .ret then natAt bs 21 5 else 0
      amount := natAt bs 26 3, outcome := natAt bs 29 1, edition := natAt bs 30 1 }

/-- Trap outcome codes of a RETURN record. -/
def TrapOutcome.code : TrapOutcome → Nat
  | .none => 0
  | .trapped => 1
  | .unconfirmed => 2
  | .notChecked => 3

def blockReasonCode : BlockReason → Nat
  | .lost => 1
  | .staff => 2

/-! ## List entries (section 7.2) -/

def ListId.base : ListId → Nat
  | .roll => Config.rollBase
  | .loans => Config.loansBase
  | .holds => Config.holdBase

def ListId.capacity : ListId → Nat
  | .roll => Config.rollCapacity
  | .loans => Config.loansCapacity
  | .holds => Config.holdCapacity

def ListId.countField : ListId → HeaderField
  | .roll => .rollCount
  | .loans => .loansCount
  | .holds => .holdCount

/-- List codes of the loading commands (section 7.5). -/
def ListId.code : ListId → Nat
  | .roll => 1
  | .loans => 2
  | .holds => 3

def ListId.ofCode : Nat → Option ListId
  | 1 => some .roll
  | 2 => some .loans
  | 3 => some .holds
  | _ => none

/-- The sort key of an entry: the borrower or item number, or the pair of title group and rank. -/
def ListId.key (l : ListId) (bs : List Byte) : Nat × Nat :=
  match l with
  | .roll => (natAt bs 0 5, 0)
  | .loans => (natAt bs 0 5, 0)
  | .holds => (natAt bs 0 3, natAt bs 3 1)

def keyLt (a b : Nat × Nat) : Bool := decide (a.1 < b.1) || (a.1 == b.1 && decide (a.2 < b.2))

def rollFieldsOf (bs : List Byte) : RollFields :=
  let flags := natAt bs 13 1
  { category := natAt bs 5 1 % 8, expiry := natAt bs 6 2, loans := natAt bs 8 1
    balance := intOf (bytesAt bs 9 4), lost := flags.testBit 0, staff := flags.testBit 1 }

def loanPartOf (bs : List Byte) : LoanPart :=
  { borrower := natAt bs 5 5, dueDay := natAt bs 10 2, dueMinute := natAt bs 12 2, renewCount := natAt bs 14 1 }

def holdOf (bs : List Byte) : Hold := ⟨natAt bs 3 1, natAt bs 4 5⟩

/-- The first 15 bytes of an entry as it is written: the unused bytes are zero (R135). -/
def ListId.stored (l : ListId) (bs : List Byte) : List Byte :=
  match l with
  | .roll => bytesAt bs 0 14 ++ [0]
  | .loans => bytesAt bs 0 15
  | .holds => bytesAt bs 0 9 ++ bytesOf 6 0

/-- Range test of one loaded entry (R135, test 4): of its numbers, the sort key and the title group are bounded. -/
def ListId.inRange (l : ListId) (bs : List Byte) : Bool :=
  match l with
  | .roll =>
    let balance := intOf (bytesAt bs 9 4)
    decide (natAt bs 0 5 < 10 ^ 12) && decide (natAt bs 5 1 ≤ 7)
      && decide (minBalance ≤ balance) && decide (balance ≤ maxBalance) && decide (natAt bs 13 1 ≤ 3)
  | .loans =>
    decide (natAt bs 0 5 < 10 ^ 12) && decide (natAt bs 12 2 ≤ 1439) && decide (natAt bs 14 1 ≤ 9)
  | .holds => decide (natAt bs 0 3 < 10 ^ 7) && decide (1 ≤ natAt bs 3 1)

def State.entryBytes (s : State) (l : ListId) (i : Nat) : List Byte := s.readBytes (l.base + 16 * i) 16

/-- Entries of a list, never more than its area holds (assumption 15). -/
def State.listCount (s : State) (l : ListId) : Nat := min (s.memory.copies.get l.countField) l.capacity

/-! ## Searches (R132) -/

/-- How a search ends: at an entry, at the place where the key would stand, or on a damaged entry. -/
inductive Search where
  | found (index : Nat)
  | missing (place : Nat)
  | damaged
  deriving DecidableEq, Repr

/-- The probes of a search in the window of `size` entries from `lo` on. `fuel` bounds the probes; 20 is
above the 19 that the largest list takes. -/
def State.probe (s : State) (l : ListId) (key : Nat × Nat) : Nat → Nat → Nat → Search
  | 0, lo, _ => .missing lo
  | fuel + 1, lo, size =>
    if size = 0 then .missing lo
    else if size = 1 then
      let e := s.entryBytes l lo
      if !unitGood e then .damaged
      else if l.key e = key then .found lo
      else if keyLt key (l.key e) then .missing lo
      else .missing (lo + 1)
    else
      let i := lo + size / 2 - 1
      let e := s.entryBytes l i
      let e' := s.entryBytes l (i + 1)
      if !unitGood e || !unitGood e' then .damaged
      else if l.key e = key then .found i
      else if l.key e' = key then .found (i + 1)
      else if keyLt key (l.key e) then s.probe l key fuel lo (i - lo)
      else if keyLt (l.key e') key then s.probe l key fuel (i + 2) (lo + size - (i + 2))
      else .missing (i + 1)

def State.search (s : State) (l : ListId) (key : Nat × Nat) : Search := s.probe l key 20 0 (s.listCount l)

/-- What a lookup of one entry answers (R132). -/
inductive Lookup (α : Type) where
  | found (a : α)
  | missing
  | fault
  deriving DecidableEq, Repr

def State.lookupEntry (s : State) (l : ListId) (key : Nat) : Lookup (List Byte) :=
  match s.search l (key, 0) with
  | .found i => .found (s.entryBytes l i)
  | .missing _ => .missing
  | .damaged => .fault

/-- Roll lookup (R132). -/
def State.lookupRoll (s : State) (borrower : Nat) : Lookup RollFields :=
  match s.lookupEntry .roll borrower with
  | .found e => .found (rollFieldsOf e)
  | .missing => .missing
  | .fault => .fault

/-- Loans-list lookup (R88, steps 2 to 4). -/
def State.lookupLoan (s : State) (item : Nat) : Lookup ItemAnswer :=
  match s.lookupEntry .loans item with
  | .found e => .found ⟨.roll, some (loanPartOf e)⟩
  | .missing => .missing
  | .fault => .fault

/-- Reading onward from a place, two entries per read, while the entries carry the title group (R133). -/
def State.readHolds (s : State) (title : Nat) : Nat → Nat → Lookup (List Hold)
  | 0, _ => .found []
  | fuel + 1, i =>
    let n := s.listCount .holds
    if n ≤ i then .found []
    else
      let e := s.entryBytes .holds i
      let e' := s.entryBytes .holds (i + 1)
      let pair := decide (i + 1 < n)
      if !unitGood e || (pair && !unitGood e') then .fault
      else if (ListId.holds.key e).1 ≠ title then .found []
      else if !pair || (ListId.holds.key e').1 ≠ title then .found [holdOf e]
      else match s.readHolds title fuel (i + 2) with
        | .found hs => .found (holdOf e :: holdOf e' :: hs)
        | .missing => .found [holdOf e, holdOf e']
        | .fault => .fault

/-- Hold lookup: the place of (title group, rank 0), then the reading onward (R133). -/
def State.lookupHolds (s : State) (title : Nat) : Lookup (List Hold) :=
  match s.search .holds (title, 0) with
  | .damaged => .fault
  | .found i => s.readHolds title 129 i
  | .missing i => s.readHolds title 129 i

end Sys2Proof.Machine
end

