-- ==== Sys2Proof/Machine/Slips.lean ====
section
/-! DEFINITION. Machine/Slips.lean: the slip store, the print queue, the printer and the pads (chapter 8). -/

namespace Sys2Proof.Machine

/-! ## Dates and times (R145) -/

/-- The date of a day number: day 0 is 3 January 2000 (section 4.4), by the Gregorian calendar counted from
1 March of year 0. -/
def dateOf (day : Nat) : Date :=
  let z := day + 730427
  let dayOfEra := z % 146097
  let yearOfEra := (dayOfEra - dayOfEra / 1460 + dayOfEra / 36524 - dayOfEra / 146096) / 365
  let dayOfYear := dayOfEra - (365 * yearOfEra + yearOfEra / 4 - yearOfEra / 100)
  let m := (5 * dayOfYear + 2) / 153
  let month := if m < 10 then m + 3 else m - 9
  ⟨yearOfEra + z / 146097 * 400 + (if month ≤ 2 then 1 else 0), month, dayOfYear - (153 * m + 2) / 5 + 1⟩

def timeOf (minute : Nat) : TimeOfDay := ⟨minute / 60, minute % 60⟩

/-! ## Slip records and the print queue -/

def State.slip (s : State) (i : Nat) : Slip := (s.slips.slips[i]?).getD .free

def State.setSlip (s : State) (i : Nat) (x : Slip) : State :=
  { s with slips := { s.slips with slips := s.slips.slips.set i x } }

def State.setQueue (s : State) (q : List Nat) : State := { s with slips := { s.slips with queue := q } }

def State.setPrinter (s : State) (p : PrinterState) : State := { s with slips := { s.slips with printer := p } }

/-- The FREE record of lowest number (R144). -/
def State.freeSlip (s : State) : Option Nat := s.slips.slips.findIdx? (·.state == .free)

/-- FREE records, for READ STATUS (R151). -/
def State.freeSlips (s : State) : Nat := s.slips.slips.countP (·.state == .free)

/-- The hold has a record CONFIRMED by the own station (R150). -/
def State.ownConfirmed (s : State) (hold : Nat × Nat) : Bool :=
  s.traps.any fun t =>
    t.title == hold.1 && t.rank == hold.2 && t.station == s.number && t.state == TrapState.confirmed

/-- Lines of a slip as printed: the HEADER line is printed with the mark REPRINT when the record's
interrupted flag is set (R145). -/
def Slip.printed (x : Slip) : List (SlipLine × Bool) := x.lines.mapIdx fun i line => (line, i == 0 && x.interrupted)

/-! ## The printer (R152, R153) -/

/-- A lane's warm demand: a session open (R152). -/
def State.warmDemand (s : State) : Bool := s.laneA.session.isSome || s.laneB.session.isSome

def State.setWarmTimer (s : State) (t : Timer) : State := { s with slips := { s.slips with warmTimer := t } }

def State.setUnloadTimer (s : State) (t : Timer) : State := { s with slips := { s.slips with unloadTimer := t } }

/-- Take the slip at the head of the queue: a HOLD slip whose record is not CONFIRMED by the own station is
given up and the next slip taken; with no slip left the printer is IDLE_WARM (R150, R153). -/
def State.startPrint : Nat → State → State
  | 0, s => s.setPrinter .idleWarm
  | fuel + 1, s =>
    match s.slips.queue with
    | [] => s.setPrinter .idleWarm
    | i :: rest =>
      let x := s.slip i
      match x.hold with
      | some h =>
        if s.ownConfirmed h then (s.setSlip i { x with state := .printing }).setPrinter .printing
        else State.startPrint fuel ((s.setSlip i .free).setQueue rest)
      | none => (s.setSlip i { x with state := .printing }).setPrinter .printing

/-- The unload timer in IDLE_WARM: it runs from its full period while the queue is empty and no warm demand
is present (R152). -/
def State.settleUnload (s : State) : State :=
  if s.slips.printer = .idleWarm ∧ s.slips.queue = [] ∧ s.warmDemand = false then
    match s.slips.unloadTimer with
    | some _ => s
    | none => s.setUnloadTimer (some (s.settings.inForce.unloadSeconds * 1000))
  else s.setUnloadTimer none

/-- Both printer sensors have accepted their first levels; until then the paper is taken as OUT and the lid as
OPEN (R158). -/
def SlipUnit.sensed (u : SlipUnit) : Bool := u.paper.isSome && u.lid.isSome

/-- What the print queue and the warm demand do to the printer as they stand (R152): they take it from OFF
to WARMING and from IDLE_WARM to PRINTING. DEDUCED (assumption 31): before both first levels are accepted the
printer stays OFF, as it warms and prints with paper in and the lid closed only; the first levels then settle it
through ALIGNING or HALTED. -/
def State.settlePrinter (s : State) : State :=
  match s.slips.printer with
  | .off =>
    if !s.slips.sensed || (decide (s.slips.queue = []) && !s.warmDemand) then s
    else (s.setPrinter .warming).setWarmTimer (some Config.warmMs)
  | .idleWarm => (s.startPrint (Config.slipRecords + 1)).settleUnload
  | .warming => s
  | .printing => s
  | .aligning => s
  | .halted => s
  | .fault => s

/-- A slip becomes READY and joins the queue at its tail (R151). -/
def State.joinQueue (s : State) (i : Nat) : State :=
  ((s.setSlip i { s.slip i with state := .ready }).setQueue (s.slips.queue ++ [i])).settlePrinter

/-- A HELD or READY slip is given up (R150). -/
def State.giveUpSlip (s : State) (i : Nat) : State :=
  ((s.setSlip i .free).setQueue (s.slips.queue.filter (· != i))).settlePrinter

/-! ## Session slips (R146 to R148) -/

def State.headerLine (s : State) (k : SlipKind) (l : LaneId) : SlipLine :=
  .header k s.number l (dateOf s.clock.day) (timeOf s.clock.minute)

def SlipLine.isItemDue : SlipLine → Bool
  | .itemDue _ _ _ => true
  | _ => false

def Slip.itemCount (x : Slip) : Nat := x.lines.countP SlipLine.isItemDue

def State.addLine (s : State) (i : Nat) (line : SlipLine) : State :=
  s.setSlip i { s.slip i with lines := (s.slip i).lines ++ [line] }

def State.setSessionSlip (s : State) (l : LaneId) (i : Option Nat) : State :=
  s.mapLane l fun c => { c with session := c.session.map fun x => { x with slip := i } }

/-- Open a session slip with its first ITEM DUE line; true when no record is FREE (R146). -/
def State.openSlip (s : State) (l : LaneId) (borrower : Nat) (line : SlipLine) : State × Bool :=
  match s.freeSlip with
  | none => (s.setSessionSlip l none, true)
  | some i =>
    let k := if (s.lane l).mode == .renew then SlipKind.renew else SlipKind.loan
    let x : Slip :=
      { state := .opened, kind := some k, lane := some l
        lines := [s.headerLine k l, .borrower (borrower % 10000), line], hold := none, interrupted := false }
    ((s.setSlip i x).setSessionSlip l (some i), false)

/-- An ITEM DUE line handed by a lane (R146, R147); true when the result carries NO_SLIP. -/
def State.itemDueLine (s : State) (l : LaneId) (item dueDay dueMinute : Nat) : State × Bool :=
  let line := SlipLine.itemDue item (dateOf dueDay) (timeOf dueMinute)
  match (s.lane l).session with
  | none => (s, true)
  | some ss =>
    match ss.slip with
    | none => s.openSlip l ss.borrower line
    | some i =>
      if (s.slip i).itemCount < Config.itemLines then (s.addLine i line, false)
      else
        let s := (s.addLine i (.continued (s.slip i).itemCount)).joinQueue i
        (s.setSessionSlip l none).openSlip l ss.borrower line

/-- A session's OPEN slip gets its TOTAL line and becomes READY (R148). -/
def State.completeSlip (s : State) (l : LaneId) (count balance : Int) (warning : Bool) : State :=
  match (s.lane l).session with
  | some ⟨_, some i⟩ => ((s.addLine i (.total count balance warning)).joinQueue i).setSessionSlip l none
  | some ⟨_, none⟩ => s
  | none => s

/-! ## Fine slips and hold slips (R149, R150) -/

/-- A FINE slip, READY at once; true when no record is FREE. -/
def State.fineSlip (s : State) (l : LaneId) (borrower item dueDay cents : Nat) (count balance : Int)
    (warning : Bool) : State × Bool :=
  match s.freeSlip with
  | none => (s, true)
  | some i =>
    let x : Slip :=
      { state := .ready, kind := some .fine, lane := some l
        lines := [s.headerLine .fine l, .borrower (borrower % 10000), .fine item (dateOf dueDay) cents,
          .total count balance warning]
        hold := none, interrupted := false }
    ((s.setSlip i x).joinQueue i, false)

/-- An own TRAP notice of outcome TRAPPED for the hold is queued or on the line (R150). A frame on the line
is the head of its queue. -/
def State.trapNoticeQueued (s : State) (hold : Nat × Nat) : Bool :=
  s.line.u.any fun n =>
    match n.body with
    | .trap t _ .trapped => t.title == hold.1 && t.rank == hold.2
    | _ => false

/-- A HOLD slip, HELD or READY (R150); true when no record is FREE. -/
def State.holdSlip (s : State) (l : LaneId) (title rank holdBorrower item : Nat) : State × Bool :=
  match s.freeSlip with
  | none => (s, true)
  | some i =>
    let x : Slip :=
      { state := .held, kind := some .hold, lane := some l
        lines := [s.headerLine .hold l, .hold title rank (itemCopy item), .borrower (holdBorrower % 10000)]
        hold := some (title, rank), interrupted := false }
    let s := s.setSlip i x
    (if s.trapNoticeQueued (title, rank) then s else s.joinQueue i, false)

/-- The HOLD slips of a hold in a state for which `p` holds. -/
def State.holdSlips (s : State) (hold : Nat × Nat) (p : SlipState → Bool) : List Nat :=
  (List.range s.slips.slips.length).filter fun i => (s.slip i).hold == some hold && p (s.slip i).state

/-- Report of the trap table: the own TRAPPED notice has gone out, or left its queue, with the record
CONFIRMED by the own station: a HELD slip becomes READY (R150). -/
def State.holdAsserted (s : State) (hold : Nat × Nat) : State :=
  if s.ownConfirmed hold then (s.holdSlips hold (· == .held)).foldl State.joinQueue s else s

/-- Report of the trap table: the record has left CONFIRMED by the own station: a HELD or READY slip is
given up (R150). -/
def State.holdLost (s : State) (hold : Nat × Nat) : State :=
  (s.holdSlips hold fun st => st == .held || st == .ready).foldl State.giveUpSlip s

/-! ## Pads (R156, R157) -/

def State.pad (s : State) : PadId → Pad
  | .p0 => s.slips.pad0
  | .p1 => s.slips.pad1

def State.setPad (s : State) (p : PadId) (x : Pad) : State :=
  match p with
  | .p0 => { s with slips := { s.slips with pad0 := x } }
  | .p1 => { s with slips := { s.slips with pad1 := x } }

/-- The pad of a source wand; a keyed entry at lane A uses P0 and at lane B uses P1 (R33). -/
def padOf (src : Source) (l : LaneId) : PadId :=
  match src, l with
  | .wand .w0, _ => .p0
  | .wand .w1, _ => .p1
  | _, .a => .p0
  | _, .b => .p1

/-- Ask a pad for a pulse; true when it answers NOT_ON_PAD (R156). -/
def State.padPulse (s : State) (p : PadId) (form : Pulse) : State × Bool :=
  let x := s.pad p
  if !x.present then (s, true)
  else match x.pulsing with
    | none => (s.setPad p { x with pulsing := some form }, false)
    | some _ =>
      if x.waiting.length < Config.padWaiting then (s.setPad p { x with waiting := x.waiting ++ [form] }, false)
      else (s, true)

end Sys2Proof.Machine
end

