-- ==== Sys2Proof/Machine/Notices.lean ====
section
/-! DEFINITION. Machine/Notices.lean: the kind table, the transmit queues, handing and withdrawing notices,
stamps, the restatement engine and restatement requests (R107 to R110, R119, R122 to R126). -/

namespace Sys2Proof.Machine

/-! ## The kind table (section 6.2) -/

/-- Code of a body's kind. -/
def kindCode : Body → Nat
  | .block _ _ _ => 0x01
  | .trap _ _ _ => 0x02
  | .dayRoll _ => 0x03
  | .gatewayClaim _ => 0x04
  | .uploadReceipt _ => 0x05
  | .uploadRefusal _ => 0x06
  | .loan _ _ _ _ _ _ => 0x10
  | .ret _ _ _ => 0x11
  | .renew _ _ _ _ _ _ => 0x12
  | .payment _ => 0x13
  | .presence _ => 0x14
  | .restateRequest _ => 0x15
  | .uploadCall _ => 0x16
  | .uploadBegin _ _ => 0x17
  | .uploadDone _ => 0x18
  | .uploadClosed => 0x19
  | .tally _ _ _ _ => 0x20
  | .item _ _ _ _ => 0x21
  | .trapState _ _ _ => 0x22
  | .uploadBlock _ _ => 0x23

/-- Transmit class by kind code: 0xh U, 1xh S, 2xh B. -/
def kindClass (b : Body) : TxClass :=
  if kindCode b < 0x10 then .u else if kindCode b < 0x20 then .s else .b

/-- Stamped kinds: BLOCK, TRAP, LOAN, RETURN, RENEW and PAYMENT. -/
def codeStamped (k : Nat) : Bool := [0x01, 0x02, 0x10, 0x11, 0x12, 0x13].contains k

/-- Edition-checked kinds; PRESENCE is checked in part and is not among them (R117). -/
def codeEditionChecked (k : Nat) : Bool :=
  [0x01, 0x02, 0x10, 0x11, 0x12, 0x13, 0x15, 0x20, 0x21, 0x22].contains k

/-- Body lengths the kind table gives for a code; none for a code outside the table. -/
def codeLengths : Nat → List Nat
  | 0x01 => [14]
  | 0x02 => [19]
  | 0x03 => [2]
  | 0x04 => [2]
  | 0x05 => [2]
  | 0x06 => [1]
  | 0x10 => [24]
  | 0x11 => [19]
  | 0x12 => [24]
  | 0x13 => [12]
  | 0x14 => [39]
  | 0x15 => [2]
  | 0x16 => [2]
  | 0x17 => [6]
  | 0x18 => [2]
  | 0x19 => [0]
  | 0x20 => [20]
  | 0x21 => [21]
  | 0x22 => [20]
  | 0x23 => [35, 67, 99]
  | _ => []

/-- Target 255: all stations. -/
def toAll : Nat := 255

/-! ## Queues (R108) -/

def State.queueOf (s : State) : TxClass → List Notice
  | .u => s.line.u
  | .s => s.line.s
  | .b => s.line.b

def State.setQueueOf (s : State) (c : TxClass) (q : List Notice) : State :=
  match c with
  | .u => { s with line := { s.line with u := q } }
  | .s => { s with line := { s.line with s := q } }
  | .b => { s with line := { s.line with b := q } }

def depthOf : TxClass → Nat
  | .u => Config.depthU
  | .s => Config.depthS
  | .b => Config.depthB

/-- The class's queue has room. -/
def State.room (s : State) (c : TxClass) : Bool := decide ((s.queueOf c).length < depthOf c)

/-- Hand a notice: accepted at the tail of its class's queue (true), or refused (R108). -/
def State.hand (s : State) (n : Notice) : State × Bool :=
  let c := kindClass n.body
  if s.room c then (s.setQueueOf c (s.queueOf c ++ [n]), true) else (s, false)

/-- Take the next stamp (R110). -/
def State.takeStamp (s : State) : State := { s with line := { s.line with stamps := s.line.stamps + 1 } }

/-- Hand a notice that takes its stamp when the queue accepts it: a TRAP, or a BLOCK while the line is
sending. With no stamp left it is refused as if its queue were full (R110). The stamp taken, or none. -/
def State.handStamped (s : State) (body : Body) : State × Option Nat :=
  let c := kindClass body
  if s.room c && !s.stampsOut then
    let s := s.takeStamp
    (s.setQueueOf c (s.queueOf c ++ [⟨s.line.stamps, toAll, body⟩]), some s.line.stamps)
  else (s, none)

/-- The head of the class's queue is on the line. -/
def State.onLine (s : State) (c : TxClass) : Bool :=
  match s.line.sending with
  | some x => x.cls == c
  | none => false

/-- The notice on the line, if any, satisfies `p`. -/
def State.sendingIs (s : State) (p : Notice → Bool) : Bool :=
  match s.line.sending with
  | some x => p x.notice
  | none => false

/-- A notice for which `p` holds is queued, on the line included. -/
def State.queued (s : State) (c : TxClass) (p : Notice → Bool) : Bool := (s.queueOf c).any p

/-- Queued notices without those for which `p` holds; a frame on the line stays. -/
def State.purged (s : State) (c : TxClass) (p : Notice → Bool) : List Notice :=
  if s.onLine c then
    match s.queueOf c with
    | [] => []
    | n :: rest => n :: rest.filter fun x => !p x
  else (s.queueOf c).filter fun x => !p x

/-- Mark the frame on the line for withdrawal at the end of its transmission when `p` holds for it. -/
def State.markWithdrawn (s : State) (p : Notice → Bool) : State :=
  match s.line.sending with
  | some x => if p x.notice then { s with line := { s.line with sending := some { x with withdrawn := true } } } else s
  | none => s

/-! ## Restatement walks (R123, R124) -/

/-- The least element of a list by a measure; the first of equals. -/
def leastBy {α : Type} (f : α → Nat) : List α → Option α
  | [] => none
  | a :: rest =>
    match leastBy f rest with
    | none => some a
    | some b => if f b < f a then some b else some a

/-- The station's own block action on a record, as a TALLY carries it (R70). -/
def BlockRecord.ownAction (own : Nat) (r : BlockRecord) : Option StampedAction :=
  match r.state with
  | .roll => none
  | .raised st k => if st = own then some ⟨.raise, k⟩ else none
  | .lifted st k => if st = own then some ⟨.lift, k⟩ else none

def Entry.tallyPart (e : Entry) : TallyPart := ⟨e.borrower, e.own.loans, e.own.balance⟩

/-- The next TALLY after a position: the entry of lowest own stamp above it. -/
def State.nextTally (s : State) (after : Nat) : Option (Nat × Body) :=
  (leastBy (fun e => e.own.stamp) (s.standing.entries.filter fun e => decide (after < e.own.stamp))).map fun e =>
    (e.own.stamp, .tally e.tallyPart e.own.stamp (e.lost.ownAction s.number) (e.staff.ownAction s.number))

/-- The next ITEM after a position: the own entry of lowest stamp above it (R93). -/
def State.nextItem (s : State) (after : Nat) : Option (Nat × Body) :=
  (leastBy (fun e => e.stamp)
    (s.overlay.entries.filter fun e => e.station == s.number && decide (after < e.stamp))).map fun e =>
      (e.stamp, .item e.item e.basis e.loan e.stamp)

/-- The hold of a trap record as one number, ordering by title group and then rank. -/
def TrapRecord.place (t : TrapRecord) : Nat := t.title * 256 + t.rank

def placeOf : Option (Nat × Nat) → Nat
  | none => 0
  | some (title, rank) => title * 256 + rank + 1

def TrapRecord.part (t : TrapRecord) : TrapPart := ⟨t.title, t.rank, t.holdBorrower, t.item⟩

/-- The state a TRAP STATE carries; PROVISIONAL records are not restated (R102). -/
def TrapRecord.restated (t : TrapRecord) : Option RestatedTrap :=
  match t.state with
  | .provisional _ _ => none
  | .confirmed => some .confirmed
  | .released => some .released

/-- The next TRAP STATE after a position. -/
def State.nextTrap (s : State) (after : Option (Nat × Nat)) : Option ((Nat × Nat) × Body) :=
  (leastBy TrapRecord.place (s.traps.filter fun t =>
    t.station == s.number && t.restated.isSome && decide (placeOf after ≤ t.place))).bind fun t =>
      t.restated.map fun st => ((t.title, t.rank), .trapState t.part st t.stamp)

/-- The next frame of a walk with the position after it; the phases follow one another (R124). `none` when
the walk is complete. -/
def State.nextWalk (s : State) (f : Nat) : WalkPosition → Option (WalkPosition × Body)
  | .tallies p =>
    match s.nextTally p with
    | some (k, b) => some (.tallies k, b)
    | none => match s.nextItem (f - 1) with
      | some (k, b) => some (.items k, b)
      | none => (s.nextTrap none).map fun (h, b) => (.traps (some h), b)
  | .items p =>
    match s.nextItem p with
    | some (k, b) => some (.items k, b)
    | none => (s.nextTrap none).map fun (h, b) => (.traps (some h), b)
  | .traps p => (s.nextTrap p).map fun (h, b) => (.traps (some h), b)

def State.setEngine (s : State) (e : Engine) : State := { s with line := { s.line with engine := e } }

/-- The engine hands one frame after another while B has room; with B full it is PAUSED and with the walk
complete IDLE (R124). DESIGN CHOICE (assumption 46): a walk whose last frame fills B is complete, so that the engine
is IDLE and not PAUSED, and a request taken while B is still full starts from its own stamp. `fuel` is above the
depth of B. -/
def State.walk : Nat → State → State
  | 0, s => s
  | fuel + 1, s =>
    match s.line.engine with
    | .walking f p =>
      match s.nextWalk f p with
      | none => s.setEngine .idle
      | some (p', b) =>
        if s.room .b then State.walk fuel ((s.hand ⟨0, toAll, b⟩).1.setEngine (.walking f p'))
        else s.setEngine (.paused f p)
    | .idle => s
    | .paused _ _ => s
    | .held _ => s

def State.runWalk (s : State) : State := s.walk (Config.depthB + 1)

/-- The walk from a stamp begins at its first phase. -/
def walkFrom (f : Nat) : Engine := .walking f (.tallies (f - 1))

/-- A request with from-stamp `f` at the engine (R123); 0 is taken as 1. -/
def State.engineRequest (s : State) (f : Nat) : State :=
  let f := max f 1
  match s.line.engine with
  | .idle => (s.setEngine (walkFrom f)).runWalk
  | .walking w _ => (s.setEngine (walkFrom (min w f))).runWalk
  | .paused w _ => (s.setEngine (walkFrom (min w f))).runWalk
  | .held none => s.setEngine (.held (some f))
  | .held (some w) => s.setEngine (.held (some (min w f)))

/-- The engine leaves HELD and starts the walk it was asked for (R123, R187). -/
def State.releaseEngine (s : State) : State :=
  match s.line.engine with
  | .held (some w) => (s.setEngine (walkFrom w)).runWalk
  | .held none => s.setEngine .idle
  | .idle => s
  | .walking _ _ => s
  | .paused _ _ => s

/-- A frame has left B: a PAUSED engine goes on (R113, R124). -/
def State.leftB (s : State) : State :=
  match s.line.engine with
  | .paused f p => (s.setEngine (.walking f p)).runWalk
  | .idle => s
  | .walking _ _ => s
  | .held _ => s

/-! ## RESTATE OWED (R125) -/

/-- The test of RESTATE OWED: with S at 16 frames or fewer the mark is cleared and the engine acts as on a
request from stamp 1. A mark set while the engine is HELD is taken when it leaves HELD. DESIGN CHOICE
(assumption 41): no PRESENCE is handed, which R123 gives a request for the sake of its requester. -/
def State.testOwed (s : State) : State :=
  match s.line.engine with
  | .held _ => s
  | _ =>
    if s.line.restateOwed && decide (s.line.s.length ≤ 16) then
      State.engineRequest { s with line := { s.line with restateOwed := false } } 1
    else s

def State.setOwed (s : State) : State := State.testOwed { s with line := { s.line with restateOwed := true } }

/-- Hand a notice that carries a change of this station's own: refused, it is dropped and RESTATE OWED is
set (R108). -/
def State.handChange (s : State) (n : Notice) : State :=
  match s.hand n with
  | (s', true) => s'
  | (s', false) => s'.setOwed

/-! ## PRESENCE and restatement requests (R119, R122) -/

def isPresence (n : Notice) : Bool :=
  match n.body with
  | .presence _ => true
  | _ => false

/-- Hand a PRESENCE if none is queued; its body is filled when its transmission begins (R119). -/
def State.handPresence (s : State) : State :=
  if s.queued .s isPresence then s
  else (s.hand ⟨0, toAll, .presence ⟨0, 0, 0, false, false, []⟩⟩).1

def State.peer (s : State) (n : Nat) : Peer := (s.line.peers[n]?).getD .reset

def State.setPeer (s : State) (n : Nat) (p : Peer) : State :=
  { s with line := { s.line with peers := s.line.peers.set n p } }

/-- Numbers of the peer table's records: every station number but the own (section 6.7). -/
def State.peerNumbers (s : State) : List Nat := (List.range 16).filter (· != s.number)

def isRequestTo (n : Nat) (x : Notice) : Bool :=
  match x.body with
  | .restateRequest _ => x.target == n
  | _ => false

/-- Lower the from-stamp of a queued request to a peer in place. -/
def lowerRequest (n f : Nat) (x : Notice) : Notice :=
  match x.body with
  | .restateRequest g => if x.target = n then { x with body := .restateRequest (min f g) } else x
  | _ => x

/-- The waiting part of a queue: all of it but a frame on the line. -/
def State.waitingPart (s : State) (c : TxClass) : List Notice :=
  if s.onLine c then (s.queueOf c).drop 1 else s.queueOf c

def State.linePart (s : State) (c : TxClass) : List Notice :=
  if s.onLine c then (s.queueOf c).take 1 else []

/-- Hand the pending request of a peer, or lower the one queued and not on the line (R122, steps 2 and 3). -/
def State.pushRequest (s : State) (n : Nat) : State :=
  match (s.peer n).request with
  | none => s
  | some f =>
    let cleared := { s.peer n with request := none }
    if (s.waitingPart .s).any (isRequestTo n) then
      (s.setQueueOf .s (s.linePart .s ++ (s.waitingPart .s).map (lowerRequest n f))).setPeer n cleared
    else
      match s.hand ⟨0, n, .restateRequest f⟩ with
      | (s', true) => s'.setPeer n cleared
      | (s', false) => s'

/-- Ask a peer to restate from a stamp (R122): the pending request becomes the lower of the two and is
pushed. -/
def State.requestRestate (s : State) (n f : Nat) : State :=
  let p := s.peer n
  let f' := match p.request with
    | none => f
    | some g => min f g
  (s.setPeer n { p with request := some f' }).pushRequest n

/-- Hand the broadcast request of GATHERING; refused, it is kept (R122). -/
def State.pushBroadcast (s : State) : State :=
  match s.hand ⟨0, toAll, .restateRequest 1⟩ with
  | (s', true) => { s' with line := { s'.line with broadcastOwed := false } }
  | (s', false) => { s' with line := { s'.line with broadcastOwed := true } }

/-- A frame has left S: RESTATE OWED is tested, and kept requests are handed again, the broadcast one first
and the peers' in order of station number (R122, R125). -/
def State.leftS (s : State) : State :=
  let s := s.testOwed
  let s := if s.line.broadcastOwed then s.pushBroadcast else s
  s.peerNumbers.foldl State.pushRequest s

/-- A frame has left the queue of a class. -/
def State.left (s : State) : TxClass → State
  | .u => s
  | .s => s.leftS
  | .b => s.leftB

/-! ## Withdrawal (R109) -/

/-- Withdraw the notices of a class for which `p` holds: those queued at once, one on the line when its
transmission ends. -/
def State.withdraw (s : State) (c : TxClass) (p : Notice → Bool) : State :=
  let kept := s.purged c p
  let removed := decide (kept.length < (s.queueOf c).length)
  let s := (s.setQueueOf c kept).markWithdrawn p
  if removed then s.left c else s

/-! ## Roll load (R126) -/

/-- Kinds that ROLL BEGIN removes from the queues. -/
def editionFrame (n : Notice) : Bool := codeEditionChecked (kindCode n.body)

/-- ROLL BEGIN at the line controller: edition frames leave the queues, a frame on the line finishes, and
requests, RESTATE OWED and walks are dropped (R126). -/
def State.purgeLine (s : State) : State :=
  let s := ((s.setQueueOf .u (s.purged .u editionFrame)).setQueueOf .s (s.purged .s editionFrame)).setQueueOf .b
    (s.purged .b editionFrame)
  let s := s.markWithdrawn editionFrame
  { s with line := { s.line with
      peers := s.line.peers.map fun p => { p with request := none }
      broadcastOwed := false, restateOwed := false, engine := .idle } }

end Sys2Proof.Machine
end

