-- ==== Sys2Proof/Machine/Arbiter.lean ====
section
/-! DEFINITION. Machine/Arbiter.lean: the memory port: requests, the order in which they are granted, and
their withdrawal (R131, R134, R136, R143). -/

namespace Sys2Proof.Machine

/-- Kind of an operation in the arbiter's order (R131). -/
def MemOp.kind : MemOp → Nat
  | .append _ => 1
  | .rollLookup (.lane _) _ => 2
  | .loansLookup (.lane _) _ => 2
  | .holdLookup (.lane _) _ => 2
  | .rollLookup (.view _) _ => 2
  | .loansLookup (.view _) _ => 2
  | .holdLookup (.view _) _ => 2
  | .rollLookup .standing _ => 3
  | .loansLookup .standing _ => 3
  | .holdLookup .standing _ => 3
  | .chunkWrite _ _ _ => 4
  | .rollBeginWrite => 4
  | .editionWrite _ _ _ _ => 4
  | .uploadRead _ _ => 5
  | .takeSnapshot => 5
  | .moveMarks _ _ => 5
  | .rollLookup .replay _ => 6
  | .loansLookup .replay _ => 6
  | .holdLookup .replay _ => 6
  | .replayLast => 6
  | .replayHead => 6
  | .replayRead _ => 6
  | .replayStamp => 6
  | .queryRead => 6
  | .headerRead => 6
  | .freshHeader => 6

def MemOp.isLookup : MemOp → Bool
  | .rollLookup _ _ => true
  | .loansLookup _ _ => true
  | .holdLookup _ _ => true
  | _ => false

/-- The lane a lane lookup belongs to. -/
def MemOp.lookupLane : MemOp → Option LaneId
  | .rollLookup (.lane l) _ => some l
  | .loansLookup (.lane l) _ => some l
  | .holdLookup (.lane l) _ => some l
  | .rollLookup (.view l) _ => some l
  | .loansLookup (.view l) _ => some l
  | .holdLookup (.view l) _ => some l
  | _ => none

def MemOp.isLoading : MemOp → Bool
  | .chunkWrite _ _ _ => true
  | .rollBeginWrite => true
  | .editionWrite _ _ _ _ => true
  | _ => false

def MemOp.isEdition : MemOp → Bool
  | .editionWrite _ _ _ _ => true
  | _ => false

def MemOp.isUpload : MemOp → Bool
  | .uploadRead _ _ => true
  | .takeSnapshot => true
  | .moveMarks _ _ => true
  | _ => false

def MemOp.isUploadRead : MemOp → Bool
  | .uploadRead _ _ => true
  | _ => false

def MemOp.isQuery : MemOp → Bool
  | .queryRead => true
  | _ => false

/-- A request for which `p` holds is waiting or in progress. -/
def State.asked (s : State) (p : MemOp → Bool) : Bool :=
  (match s.memory.busy with
   | some r => p r.op
   | none => false) || s.memory.waiting.any fun r => p r.op

/-- No lookup is granted while the load state is LOADING (R131), nor ahead of a waiting edition write
(R136). -/
def State.lookupsHeld (s : State) : Bool :=
  s.memory.load.loading || s.memory.waiting.any fun r => r.op.isEdition

/-- Place of a waiting request in the arbiter's order: its kind, and within lane lookups the lane not
granted last first, lane A after a reset (R131, R143). -/
def State.grantRank (s : State) (op : MemOp) : Nat :=
  op.kind * 4 +
    match op.lookupLane, s.memory.lastLane with
    | some l, some last => if l = last then 1 else 0
    | some .b, none => 1
    | some .a, none => 0
    | none, _ => 0

def State.setMemory (s : State) (m : MemCtl) : State := { s with memory := m }

/-- When the port is free, grant the waiting request that comes first (R131). -/
def State.grant (s : State) : State :=
  if s.memory.busy.isSome then s
  else
    let open_ := s.memory.waiting.zipIdx.filter fun (r, _) => !(r.op.isLookup && s.lookupsHeld)
    match leastBy (fun (r, _) => s.grantRank r.op) open_ with
    | none => s
    | some (r, i) =>
      s.setMemory { s.memory with
        busy := some r
        waiting := s.memory.waiting.eraseIdx i
        lastLane := r.op.lookupLane.or s.memory.lastLane }

/-- Ask for an operation; a free port grants at once. -/
def State.ask (s : State) (op : MemOp) : State :=
  (s.setMemory { s.memory with waiting := s.memory.waiting ++ [⟨op, false⟩] }).grant

/-- The operation in progress has ended: the port is free. -/
def State.freePort (s : State) : State := s.setMemory { s.memory with busy := none }

/-- Withdraw waiting requests for which `p` holds, and let the completion of one in progress be dropped
(R43, R143). -/
def State.dropAsked (s : State) (p : MemOp → Bool) : State :=
  s.setMemory { s.memory with
    waiting := s.memory.waiting.filter fun r => !p r.op
    busy := s.memory.busy.map fun r => if p r.op then { r with discard := true } else r }

/-- Requests for which `p` holds stay, but their completion no longer concerns the requester. -/
def State.detachAsked (s : State) (p : MemOp → Bool) : State :=
  s.setMemory { s.memory with
    waiting := s.memory.waiting.map fun r => if p r.op then { r with discard := true } else r
    busy := s.memory.busy.map fun r => if p r.op then { r with discard := true } else r }

/-- A lane's lookup, waiting or in progress (R43, R143). -/
def isLaneLookup (l : LaneId) (op : MemOp) : Bool := op.lookupLane == some l

/-- The lane still holds a request: its cancelled lookup is in progress, and the lane asks for nothing until that
completes (R43, R131). -/
def State.laneHeld (s : State) (l : LaneId) : Bool :=
  match s.memory.busy with
  | some r => r.discard && isLaneLookup l r.op
  | none => false

/-- The loading path has a write waiting or in progress (R134). -/
def State.loadingBusy (s : State) : Bool := s.asked MemOp.isLoading

end Sys2Proof.Machine
end

