-- ==== Sys2Proof/Machine/StandingTable.lean ====
section
/-! DEFINITION. Machine/StandingTable.lean: standing entries, tallies, block records, the pending-tally
buffer, eviction and INCOMPLETE (R66 to R85). -/

namespace Sys2Proof.Machine

/-! ## Entries by borrower -/

def State.setStanding (s : State) (t : Standing) : State := { s with standing := t }

def State.entry? (s : State) (b : Nat) : Option Entry := s.standing.entries.find? (·.borrower == b)

/-- INCOMPLETE is set (R82). -/
def State.setIncomplete (s : State) : State := s.setStanding { s.standing with incomplete := true }

/-- Change the entry of a borrower. -/
def State.mapEntry (s : State) (b : Nat) (f : Entry → Entry) : State :=
  s.setStanding { s.standing with
    entries := s.standing.entries.map fun e => if e.borrower = b then f e else e }

/-- Use the entry of a borrower: it is changed by `f` and takes the next use number; with no entry nothing is
used (R68). -/
def State.useEntry (s : State) (b : Nat) (f : Entry → Entry) : State :=
  match s.entry? b with
  | none => s
  | some _ =>
    let n := s.standing.uses + 1
    State.mapEntry (s.setStanding { s.standing with uses := n }) b fun e => { f e with lastUse := n }

/-- A window evaluation of an entry (R61, R80). -/
def Entry.evaluate (e : Entry) (rs : RuleSet) : Entry := { e with fines := rs.window e.balance e.fines }

/-! ## Reservations and entries in hand (R29, R74) -/

def Entry.setReserved (e : Entry) (l : LaneId) (v : Bool) : Entry :=
  match l with
  | .a => { e with reservedA := v }
  | .b => { e with reservedB := v }

/-- The lane has the entry in hand. -/
def Entry.inHand (e : Entry) : LaneId → Bool
  | .a => e.handA
  | .b => e.handB

def Entry.setHand (e : Entry) (l : LaneId) (v : Bool) : Entry :=
  match l with
  | .a => { e with handA := v }
  | .b => { e with handB := v }

/-- A lane takes or gives back its reservation on a borrower's entry. -/
def State.reserve (s : State) (l : LaneId) (b : Nat) (v : Bool) : State :=
  s.useEntry b fun e => e.setReserved l v

/-- A lane finds an entry and puts it in hand; finding it is a use (R29, R68). -/
def State.takeInHand (s : State) (l : LaneId) (b : Nat) : State := s.useEntry b fun e => e.setHand l true

/-- A lane takes an entry out of hand, unless its session or its transaction still needs it (R29). Where the lane
has none in hand, nothing is changed or used (R68, R86). -/
def State.outOfHand (s : State) (l : LaneId) (b : Nat) : State :=
  let c := s.lane l
  let needed := (c.session.map (·.borrower)) == some b || (c.txn.bind (·.borrower)) == some b
  match s.entry? b with
  | none => s
  | some e => if needed || !e.inHand l then s else s.useEntry b fun e => e.setHand l false

/-! ## The own tally (R69) -/

def clampLoans (x : Int) : Int := clampInt (-999) 999 x
def clampBalance (x : Int) : Int := clampInt minBalance maxBalance x

/-- The own tally changed by a committed transaction (R69): clamped, the own stamp raised, and the window
evaluated when the net balance moves. -/
def Entry.ownChange (e : Entry) (rs : RuleSet) (loans balance : Int) (stamp : Nat) : Entry :=
  let t : Tally := ⟨clampLoans (e.own.loans + loans), clampBalance (e.own.balance + balance), max e.own.stamp stamp⟩
  let e' := { e with own := t }
  if t.balance = e.own.balance then e' else e'.evaluate rs

def State.ownChange (s : State) (b : Nat) (loans balance : Int) (stamp : Nat) : State :=
  s.useEntry b fun e => e.ownChange s.reckoner.active loans balance stamp

/-! ## Peer tallies (R71) -/

/-- Add or replace a station's record in the list kept by ascending station number. -/
def putTally (p : PeerTally) : List PeerTally → List PeerTally
  | [] => [p]
  | q :: rest =>
    if p.station < q.station then p :: q :: rest
    else if p.station = q.station then p :: rest
    else q :: putTally p rest

/-- A tally offer at an entry: the changed entry, or none when the offer is ignored (R71, R80). -/
def Entry.offer (e : Entry) (rs : RuleSet) (station : Nat) (t : Tally) : Option Entry :=
  let added := { e with peers := putTally ⟨station, t⟩ e.peers }
  match e.peers.find? (·.station == station) with
  | none => some (added.evaluate rs)
  | some q =>
    if q.tally.stamp < t.stamp then
      some (if t.balance = q.tally.balance then added else added.evaluate rs)
    else none

/-! ## Block records (R76 to R79) -/

def BlockAction.state (a : BlockAction) (station stamp : Nat) : BlockState :=
  match a with
  | .raise => .raised station stamp
  | .lift => .lifted station stamp

def Entry.record (e : Entry) : BlockReason → BlockRecord
  | .lost => e.lost
  | .staff => e.staff

def Entry.setRecord (e : Entry) (r : BlockReason) (x : BlockRecord) : Entry :=
  match r with
  | .lost => { e with lost := x }
  | .staff => { e with staff := x }

/-- A peer's action has been heard: awaiting own actions are marked (R77). -/
def BlockRecord.overheard (r : BlockRecord) : BlockRecord :=
  { r with awaiting := r.awaiting.map fun x => { x with laterHeard := true } }

/-- A live action of a peer (R77). -/
def BlockRecord.live (r : BlockRecord) (a : BlockAction) (station stamp : Nat) : BlockRecord :=
  { r.overheard with state := BlockAction.state a station stamp }

/-- The stamp of a station's own action that a record shows. -/
def BlockState.stampOf (own : Nat) : BlockState → Option Nat
  | .roll => none
  | .raised st k => if st = own then some k else none
  | .lifted st k => if st = own then some k else none

/-- A notice is the BLOCK of a borrower and reason with a stamp. -/
def Notice.isBlockOf (b : Nat) (reason : BlockReason) (k : Nat) (n : Notice) : Bool :=
  match n.body with
  | .block t _ why => n.stamp == k && t.borrower == b && why == reason
  | _ => false

/-- The record shows an own action whose BLOCK notice is still queued: it was applied in listen-only, before any
transmission (R78). -/
def State.showsUnsent (s : State) (b : Nat) (reason : BlockReason) (r : BlockRecord) : Bool :=
  match r.state.stampOf s.number with
  | none => false
  | some k => s.queued .u (Notice.isBlockOf b reason k)

/-- A live action of a peer at a record (R77). Over an own action applied in listen-only whose notice has not been sent
it changes no state: the record of that station shows its own action (R78). DEDUCED (assumption 57): the peer's action is
earlier on the line than the queued notice, so that R78's record is kept from the append to the transmission. -/
def State.heardAction (s : State) (b : Nat) (reason : BlockReason) (r : BlockRecord) (a : BlockAction)
    (station stamp : Nat) : BlockRecord :=
  if s.showsUnsent b reason r then r.overheard else r.live a station stamp

/-- A restated action: only over ROLL or an older action of the same station (R79). -/
def BlockRecord.restate (r : BlockRecord) (a : BlockAction) (station stamp : Nat) : Option BlockRecord :=
  let taken := some { r with state := BlockAction.state a station stamp }
  match r.state with
  | .roll => taken
  | .raised st k => if st = station ∧ k < stamp then taken else none
  | .lifted st k => if st = station ∧ k < stamp then taken else none

/-- A block action from a station at a borrower's entry. -/
def State.blockAction (s : State) (live : Bool) (b station : Nat) (reason : BlockReason) (a : StampedAction) : State :=
  match s.entry? b with
  | none => s
  | some e =>
    let r := e.record reason
    if live then
      if s.showsUnsent b reason r && r.awaiting.isEmpty then s
      else s.useEntry b fun e => e.setRecord reason (s.heardAction b reason r a.action station a.stamp)
    else match r.restate a.action station a.stamp with
      | some x => s.useEntry b fun e => e.setRecord reason x
      | none => s

def State.optBlockAction (s : State) (live : Bool) (b station : Nat) (reason : BlockReason) :
    Option StampedAction → State
  | none => s
  | some a => s.blockAction live b station reason a

/-- Apply a tally offer and its block actions to an existing entry (R67, R71, R77, R79). -/
def State.applyOffer (s : State) (p : Parked) : State :=
  match s.entry? p.borrower with
  | none => s
  | some e =>
    let s := match e.offer s.reckoner.active p.station p.tally with
      | some e' => s.useEntry p.borrower fun _ => e'
      | none => s
    (s.optBlockAction p.live p.borrower p.station .lost p.lost).optBlockAction p.live p.borrower p.station .staff p.staff

/-- The awaiting own action that carries a stamp. -/
def BlockRecord.awaits (r : BlockRecord) (stamp : Nat) : Option AwaitingAction :=
  r.awaiting.find? (·.stamp == stamp)

/-- The record without the awaiting own action that carries a stamp. -/
def BlockRecord.settled (r : BlockRecord) (stamp : Nat) : BlockRecord :=
  { r with awaiting := r.awaiting.filter (·.stamp != stamp) }

/-- Place an awaiting own action on a record (R76, step 1). DESIGN CHOICE (assumption 36): R75 gives a record one
awaiting own action and does not say what a second one finds, when both lanes' notices on one borrower and
reason have been transmitted before the first append completes. Each then awaits its own append, in the order of
transmission, so that R41 and R76 hold for both. -/
def State.placeAwaiting (s : State) (b : Nat) (reason : BlockReason) (a : BlockAction) (stamp : Nat) : State :=
  s.useEntry b fun e =>
    e.setRecord reason { e.record reason with awaiting := (e.record reason).awaiting ++ [⟨a, stamp, false⟩] }

/-- Remove an awaiting own action unapplied (R76, step 3). -/
def State.dropAwaiting (s : State) (b : Nat) (reason : BlockReason) (stamp : Nat) : State :=
  s.useEntry b fun e => e.setRecord reason ((e.record reason).settled stamp)

/-- The record after the append of an own block or lift completes: its awaiting action is applied unless a
later peer action was heard; an action applied in listen-only had none awaiting (R76, R78). -/
def BlockRecord.written (r : BlockRecord) (own : Nat) (a : BlockAction) (stamp : Nat) : BlockRecord :=
  let overtaken := ((r.awaits stamp).map (·.laterHeard)).getD false
  if overtaken then r.settled stamp else { r.settled stamp with state := BlockAction.state a own stamp }

/-- An own block or lift whose append has completed (R69, R76, R78). -/
def State.ownBlock (s : State) (b : Nat) (reason : BlockReason) (a : BlockAction) (stamp : Nat) : State :=
  s.useEntry b fun e =>
    Entry.ownChange (e.setRecord reason ((e.record reason).written s.number a stamp)) s.reckoner.active 0 0 stamp

/-! ## Creation and eviction (R67, R81) -/

/-- An entry that carries nothing the roll does not give, and that no lane needs (R81). -/
def Entry.evictable (e : Entry) : Bool :=
  e.own == ⟨0, 0, 0⟩ && e.peers.isEmpty && e.lost == ⟨.roll, []⟩ && e.staff == ⟨.roll, []⟩
    && !e.reservedA && !e.reservedB && !e.handA && !e.handB

/-- The entry that eviction takes: the least recently used evictable one. -/
def State.victim (s : State) : Option Entry :=
  leastBy (fun e => e.lastUse) (s.standing.entries.filter Entry.evictable)

/-- Room for one more entry: already there, or made by eviction; none when no entry can be evicted. -/
def State.roomForEntry (s : State) : Option State :=
  if s.standing.entries.length < Config.standingCapacity then some s
  else s.victim.map fun v =>
    s.setStanding { s.standing with entries := s.standing.entries.filter (·.borrower != v.borrower) }

/-- A new entry from the roll fields (R67, step 3). -/
def newEntry (b : Nat) (roll : RollFields) (rs : RuleSet) (use : Nat) : Entry :=
  { borrower := b, roll := roll, own := ⟨0, 0, 0⟩, peers := [], lost := ⟨.roll, []⟩, staff := ⟨.roll, []⟩
    fines := rs.windowNew (clampInt minBalance maxBalance roll.balance), reservedA := false, reservedB := false
    handA := false, handB := false, lastUse := use }

/-- Find or create the entry of a borrower whose roll record a lookup found; the parked records of the
borrower are applied in their order and leave the buffer. False: TABLE_FULL (R67). -/
def State.createEntry (s : State) (b : Nat) (roll : RollFields) : State × Bool :=
  match s.entry? b with
  | some _ => (s, true)
  | none =>
    match s.roomForEntry with
    | none => (s, false)
    | some s =>
      let n := s.standing.uses + 1
      let mine := s.standing.parked.filter (·.borrower == b)
      let s := s.setStanding { s.standing with
        entries := s.standing.entries ++ [newEntry b roll s.reckoner.active n]
        uses := n
        parked := s.standing.parked.filter (·.borrower != b) }
      (mine.foldl State.applyOffer s, true)

/-! ## The pending-tally buffer (R72, R73) -/

/-- Ask for the roll record of the oldest parked borrower when no lookup of the table is outstanding. -/
def State.nextParked (s : State) : State :=
  match s.standing.lookup, s.standing.parked with
  | none, p :: _ =>
    if s.memory.faulted then s
    else State.ask (s.setStanding { s.standing with lookup := some ⟨p.borrower, false⟩ }) (.rollLookup .standing p.borrower)
  | _, _ => s

/-- Remove the parked records of a borrower unapplied; INCOMPLETE is set when there were any (R73). -/
def State.dropParked (s : State) (b : Nat) : State :=
  if s.standing.parked.any (·.borrower == b) then
    State.setIncomplete (s.setStanding { s.standing with parked := s.standing.parked.filter (·.borrower != b) })
  else s

/-- A tally offer from the line controller: taken at once, or parked (R70, R72). -/
def State.tallyOffer (s : State) (p : Parked) : State :=
  if p.station = s.number then s
  else if (s.entry? p.borrower).isSome then s.applyOffer p
  else if s.memory.faulted || s.edition == 0 then s.setIncomplete
  else if s.standing.parked.length < Config.parkedCapacity then
    State.nextParked (s.setStanding { s.standing with parked := s.standing.parked ++ [p] })
  else s.setIncomplete

/-- The table's own lookup completes (R73, R83). -/
def State.parkedLookupDone (s : State) (b : Nat) (answer : Lookup RollFields) : State :=
  let void := match s.standing.lookup with
    | some x => x.discard
    | none => true
  let s := s.setStanding { s.standing with lookup := none }
  if void then s.nextParked
  else match answer with
    | .found roll =>
      match s.createEntry b roll with
      | (s', true) => s'.nextParked
      | (s', false) => (s'.dropParked b).nextParked
    | .missing => (s.dropParked b).nextParked
    | .fault => (s.dropParked b).nextParked

/-- The memory controller has entered its faulted state: no lookup is left, and parked records are removed
unapplied (R73). -/
def State.abandonParked (s : State) : State :=
  let s := s.setStanding { s.standing with lookup := none }
  if s.standing.parked.isEmpty then s else State.setIncomplete (s.setStanding { s.standing with parked := [] })

/-! ## Replay (R85) -/

/-- A replayed record applied to its borrower's entry. -/
def State.replayStandingRecord (s : State) (r : JournalRecord) : State :=
  let restated (a : BlockAction) : State :=
    let reason := if r.outcome = 1 then BlockReason.lost else BlockReason.staff
    (s.blockAction false r.borrower s.number reason ⟨a, r.stamp⟩).ownChange r.borrower 0 0 r.stamp
  match r.kind with
  | .loan => s.ownChange r.borrower 1 0 r.stamp
  | .ret => s.ownChange r.borrower (-1) r.amount r.stamp
  | .renew => s.ownChange r.borrower 0 r.amount r.stamp
  | .payment => s.ownChange r.borrower 0 (-(r.amount : Int)) r.stamp
  | .block => restated .raise
  | .lift => restated .lift

/-! ## Roll load (R83) -/

/-- The standing table at a successful ROLL END: emptied, its outstanding lookup's completion void. -/
def State.emptyStanding (s : State) : State :=
  s.setStanding
    { entries := [], uses := 0, parked := [], incomplete := false
      lookup := s.standing.lookup.map fun x => { x with discard := true } }

/-! ## The inquiry view (R84) -/

def BlockRecord.code (r : BlockRecord) : Nat :=
  (match r.state with
   | .roll => 0
   | .raised _ _ => 1
   | .lifted _ _ => 2) + if r.awaiting.isEmpty then 0 else 128

def BlockRecord.station (r : BlockRecord) : Nat :=
  match r.state with
  | .roll => 0
  | .raised st _ => st
  | .lifted st _ => st

/-- The 37-byte view of INQUIRE BORROWER. -/
def State.borrowerView (s : State) (b : Nat) : List Byte :=
  match s.entry? b with
  | none => bytesOf 37 0
  | some e =>
    [1, byteOf e.roll.category] ++ bytesOf 2 e.roll.expiry ++ [byteOf e.roll.loans] ++ bytesOfInt 4 e.roll.balance
      ++ bytesOfInt 2 e.own.loans ++ bytesOfInt 4 e.own.balance ++ bytesOf 2 e.own.stamp
      ++ [byteOf e.peers.length] ++ bytesOfInt 2 (e.peers.map fun p => p.tally.loans).sum
      ++ bytesOfInt 4 (e.peers.map fun p => p.tally.balance).sum
      ++ bytesOfInt 2 e.count ++ [byteOf (s.limitInForce e.roll.category)] ++ bytesOfInt 4 e.balance
      ++ [byteOf (flagByte [e.fines, s.reckoner.active.warningMark e.balance, s.standing.incomplete,
            e.reservedA, e.reservedB, e.handA, e.handB]),
          byteOf e.lost.code, byteOf e.lost.station, byteOf e.staff.code, byteOf e.staff.station,
          byteOf (flagByte [e.roll.lost, e.roll.staff])]

end Sys2Proof.Machine
end

