-- ==== Sys2Proof/Machine/Items.lean ====
section
/-! DEFINITION. Machine/Items.lean: the item overlay and the trap table (chapter 5): finding an item, room,
own and heard changes, untrapped holds, making, confirming and releasing a trap. -/

namespace Sys2Proof.Machine

/-! ## The overlay -/

def State.setOverlay (s : State) (o : Overlay) : State := { s with overlay := o }

def State.item? (s : State) (n : Nat) : Option ItemEntry := s.overlay.entries.find? (·.item == n)

def ItemEntry.answer (e : ItemEntry) : ItemAnswer := ⟨e.basis, e.loan⟩

/-- An item's loan state at COMMIT (R88): the overlay's entry if there is one, else the answer found at LOOKUP. Only
an entry of the overlay answers OUT with basis TODAY; where LOOKUP found that and no entry is left, the entry was
made IN and reclaimed (R90), and the item answers as no entry does, IN with basis TODAY (step 3). -/
def State.itemNow (s : State) (n : Nat) (found : Option ItemAnswer) : ItemAnswer :=
  match s.item? n, found with
  | some e, _ => e.answer
  | none, some ⟨.roll, loan⟩ => ⟨.roll, loan⟩
  | none, _ => ⟨.today, none⟩

/-- An entry that may be reclaimed: basis TODAY and status IN (R90). -/
def ItemEntry.reclaimable (e : ItemEntry) : Bool := e.basis == .today && e.loan.isNone

/-- Places taken: entries and set-aside rooms (R89). -/
def Overlay.used (o : Overlay) : Nat := o.entries.length + o.roomA.toNat + o.roomB.toNat

/-- The overlay with one free place: as it is, or after reclaiming the earliest-changed reclaimable entry;
none when no entry can be reclaimed (R90). -/
def Overlay.freeRoom (o : Overlay) : Option Overlay :=
  if o.used < Config.overlayCapacity then some o
  else if o.entries.any ItemEntry.reclaimable then
    some { o with entries := o.entries.eraseP ItemEntry.reclaimable }
  else none

/-- A room is set aside for the lane. -/
def Overlay.room (o : Overlay) : LaneId → Bool
  | .a => o.roomA
  | .b => o.roomB

def Overlay.setRoom (o : Overlay) (l : LaneId) (v : Bool) : Overlay :=
  match l with
  | .a => { o with roomA := v }
  | .b => { o with roomB := v }

/-- A lane asks for room for its item; none answers TABLE_FULL (R89). -/
def State.setAsideRoom (s : State) (l : LaneId) (n : Nat) : Option State :=
  if (s.item? n).isSome || s.overlay.room l then some s
  else s.overlay.freeRoom.map fun o => s.setOverlay (o.setRoom l true)

/-- A set-aside room is given back (R89). -/
def State.giveBackRoom (s : State) (l : LaneId) : State := s.setOverlay (s.overlay.setRoom l false)

/-- Write an entry at the newest place of the change order, over an entry of the same item. -/
def State.putItem (s : State) (e : ItemEntry) : State :=
  s.setOverlay { s.overlay with entries := s.overlay.entries.filter (·.item != e.item) ++ [e] }

/-- A change where no entry exists, in room found by R90; with no room INCOMPLETE is set. A change that
would leave the item IN with basis TODAY makes no entry when `spare` (R90). -/
def State.newItem (s : State) (e : ItemEntry) (spare : Bool) : State :=
  if spare && e.reclaimable then s
  else match s.overlay.freeRoom with
    | some o => (s.setOverlay o).putItem e
    | none => if e.reclaimable then s else s.setIncomplete

/-- A lane's own change, written in the room that R89 provided: the existing entry, or the room set aside, which
is given back (R91). DESIGN CHOICE (assumption 38): where the entry that COMMIT relied on has been reclaimed
meanwhile, so that no room was set aside, room is found by R90 as for any other change. -/
def State.ownWrite (s : State) (l : LaneId) (n : Nat) (basis : Basis) (loan : Option LoanPart) (stamp : Nat) : State :=
  let s := s.giveBackRoom l
  let e : ItemEntry := ⟨n, basis, loan, s.number, stamp⟩
  if (s.item? n).isSome then s.putItem e else s.newItem e false

/-- A live item notice of a peer (R92). -/
def State.liveItem (s : State) (sender stamp n : Nat) (basis : Basis) (loan : Option LoanPart) : State :=
  if sender = s.number then s
  else match s.item? n with
    | some e =>
      if e.station = sender ∧ stamp ≤ e.stamp then s else s.putItem ⟨n, e.basis, loan, sender, stamp⟩
    | none => s.newItem ⟨n, basis, loan, sender, stamp⟩ true

/-- A restated item state meets an entry of the overlay: the restatement is applied (R93). -/
def ItemEntry.yields (e : ItemEntry) (station stamp : Nat) : Bool :=
  e.station == station && (decide (e.stamp < stamp) || e.reclaimable)

/-- A restated item state (R93). -/
def State.restatedItem (s : State) (station stamp n : Nat) (basis : Basis) (loan : Option LoanPart) : State :=
  match s.item? n with
  | some e => if e.yields station stamp then s.putItem ⟨n, e.basis, loan, station, stamp⟩ else s
  | none => s.newItem ⟨n, basis, loan, station, stamp⟩ true

/-- The loan state that a replayed record leaves over the state `before` it (R94). DESIGN CHOICE (assumption 56): R94
raises the renew count of a RENEW record by 1 without a bound, and section 5.1 gives the field 0..9; over a count of 9
the model lets it become 10. -/
def JournalRecord.loanAfter (r : JournalRecord) (before : Option LoanPart) : Option LoanPart :=
  match r.kind with
  | .loan => some ⟨r.borrower, r.dueDay, r.dueMinute, 0⟩
  | .renew => some ⟨r.borrower, r.dueDay, r.dueMinute, (before.map (·.renewCount)).getD 0 + 1⟩
  | _ => none

/-- A replayed LOAN, RETURN or RENEW record at the overlay, `listed` what the loans list holds of its item, used
when there is no entry (R94). -/
def State.replayItemOver (s : State) (r : JournalRecord) (listed : ItemAnswer) : State :=
  match s.item? r.item with
  | some e =>
    if e.yields s.number r.stamp then s.putItem ⟨r.item, e.basis, r.loanAfter e.loan, s.number, r.stamp⟩ else s
  | none => s.newItem ⟨r.item, listed.basis, r.loanAfter listed.loan, s.number, r.stamp⟩ false

/-- A replayed item record with the loans list's answer. A record whose lookup failed is not applied and INCOMPLETE
is set, also where a notice has made an entry while the lookup ran (R82, R94). -/
def State.replayItem (s : State) (r : JournalRecord) (answer : Lookup ItemAnswer) : State :=
  match answer with
  | .found a => s.replayItemOver r a
  | .missing => s.replayItemOver r ⟨.today, none⟩
  | .fault => s.setIncomplete

/-! ## The trap table -/

def State.setTraps (s : State) (t : List TrapRecord) : State := { s with traps := t }

def TrapRecord.isFor (t : TrapRecord) (title rank : Nat) : Bool := t.title == title && t.rank == rank

def State.trap? (s : State) (title rank : Nat) : Option TrapRecord := s.traps.find? (·.isFor title rank)

/-- Write a record over the record of its hold, at the end of the list; a record that becomes RELEASED so
takes the newest place of the release order (R96). -/
def State.putTrap (s : State) (t : TrapRecord) : State :=
  s.setTraps (s.traps.filter (fun x => !x.isFor t.title t.rank) ++ [t])

def State.removeTrap (s : State) (title rank : Nat) : State :=
  s.setTraps (s.traps.filter fun x => !x.isFor title rank)

/-- Room for a record of a hold: its own record's place, a free one, or that of the record RELEASED longest
ago; none when the table is full (R96). -/
def State.trapRoom (s : State) (title rank : Nat) : Option State :=
  if (s.trap? title rank).isSome || decide (s.traps.length < Config.trapCapacity) then some s
  else if s.traps.any (·.state == TrapState.released) then
    some (s.setTraps (s.traps.eraseP (·.state == TrapState.released)))
  else none

/-- A record for a hold is made, unless the table is full (R96). -/
def State.recordTrap (s : State) (t : TrapRecord) : State :=
  match s.trapRoom t.title t.rank with
  | some s' => s'.putTrap t
  | none => s

/-- The hold is untrapped at this station (R95). -/
def State.untrapped (s : State) (title : Nat) (h : Hold) : Bool :=
  match s.trap? title h.rank with
  | none => true
  | some t => t.state == .released

/-- The untrapped hold of lowest rank (R95). -/
def State.firstUntrapped (s : State) (title : Nat) (holds : List Hold) : Option Hold :=
  holds.find? (s.untrapped title)

/-- Make a PROVISIONAL record with its TRAP notice (R97); none when the table is full or U refuses the
notice, and the table then stays as it was (assumption 16). -/
def State.makeTrap (s : State) (l : LaneId) (item : Nat) (h : Hold) : Option State :=
  let title := itemTitle item
  match s.trapRoom title h.rank with
  | none => none
  | some s =>
    match s.handStamped (.trap ⟨title, h.rank, h.borrower, item⟩ s.number .trapped) with
    | (_, none) => none
    | (s, some k) => some (s.putTrap ⟨title, h.rank, h.borrower, item, s.number, .provisional l false, k⟩)

/-- The PROVISIONAL record that a lane waits for. -/
def State.provisionalOf (s : State) (l : LaneId) : Option TrapRecord :=
  s.traps.find? (·.state == .provisional l false)

/-- The TRAPPED notice of a record, by its hold and stamp. -/
def TrapRecord.isNotice (t : TrapRecord) (n : Notice) : Bool :=
  match n.body with
  | .trap p _ .trapped => p.title == t.title && p.rank == t.rank && n.stamp == t.stamp
  | _ => false

/-- The record is CONFIRMED by the own station for this copy. -/
def State.confirmedOwn (s : State) (t : TrapRecord) : Bool := t.state == .confirmed && t.station == s.number

/-- An own CONFIRMED trap is given up: RELEASED with the stamp of a RELEASED notice, which the queue may
refuse; a record that is not CONFIRMED by this station for the copy stays as it is. The slip unit is told
(R99, R150). DESIGN CHOICE (assumption 39): where the queue refuses the notice, which R99 provides for without
naming a stamp, the record keeps the stamp that it has. -/
def State.releaseTrap (s : State) (title rank item : Nat) : State :=
  match s.trap? title rank with
  | none => s
  | some t =>
    if s.confirmedOwn t && t.item == item then
      match s.handStamped (.trap ⟨title, rank, t.holdBorrower, item⟩ s.number .released) with
      | (s, some k) => (s.putTrap { t with state := .released, stamp := k }).holdLost (title, rank)
      | (s, none) => (s.putTrap { t with state := .released }).holdLost (title, rank)
    else s

/-- A lane gives up its PROVISIONAL trap before confirmation: with its notice queued the notice is
withdrawn and the record removed; with the frame on the line both wait for the end of the transmission
(R43, R98, R109). -/
def State.abandonTrap (s : State) (l : LaneId) : State :=
  match s.provisionalOf l with
  | none => s
  | some t =>
    let s' := s.withdraw .u t.isNotice
    if s.sendingIs t.isNotice then s'.putTrap { t with state := .provisional l true }
    else s'.removeTrap t.title t.rank

/-- The CONFIRMED record that a peer's TRAPPED notice or restated trap makes. -/
def peerTrap (p : TrapPart) (sender stamp : Nat) : TrapRecord :=
  ⟨p.title, p.rank, p.holdBorrower, p.item, sender, .confirmed, stamp⟩

/-- A peer's trap meets an own CONFIRMED record (R101). -/
def State.trapConflict (s : State) (own : TrapRecord) (p : TrapPart) (sender stamp : Nat) : State :=
  if s.number < sender then
    match s.handStamped (.trap own.part s.number .trapped) with
    | (s, some k) => s.putTrap { own with stamp := k }
    | (s, none) => s
  else
    ((s.releaseTrap own.title own.rank own.item).latch causeHoldConflict).putTrap (peerTrap p sender stamp)

/-- A peer's RELEASED notice (R100). -/
def State.peerReleased (s : State) (p : TrapPart) (sender stamp : Nat) : State :=
  match s.trap? p.title p.rank with
  | none => s
  | some t =>
    if t.state == .confirmed && t.station == sender && t.item == p.item then
      s.putTrap { t with state := .released, stamp := stamp }
    else s

/-- A restated trap meets a record by the restating station (R102). -/
def TrapRecord.restatedBy (t : TrapRecord) (p : TrapPart) (state : RestatedTrap) (stamp : Nat) : TrapRecord :=
  { t with holdBorrower := p.holdBorrower, item := p.item, stamp := stamp
           state := match state with
             | .confirmed => .confirmed
             | .released => .released }

/-- A replayed TRAPPED RETURN rebuilds an own CONFIRMED trap, if a hold of its hold borrower is untrapped
(R103). -/
def State.replayTrap (s : State) (r : JournalRecord) (holds : Lookup (List Hold)) : State :=
  let title := itemTitle r.item
  match holds with
  | .found hs =>
    match hs.find? fun h => h.borrower == r.holdBorrower && s.untrapped title h with
    | some h => s.recordTrap ⟨title, h.rank, h.borrower, r.item, s.number, .confirmed, r.stamp⟩
    | none => s
  | .missing => s
  | .fault => s

/-! ## The inquiry view (R104) -/

def TrapRecord.stateCode (t : TrapRecord) : Nat :=
  match t.state with
  | .provisional _ _ => 1
  | .confirmed => 2
  | .released => 3

/-- The trap record that a view of an item shows. DESIGN CHOICE (assumption 40): R104 speaks of the one record that
is PROVISIONAL or CONFIRMED; where there are several, the one written longest ago is shown. -/
def State.trapOfItem (s : State) (n : Nat) : Option TrapRecord :=
  let mine := s.traps.filter (·.item == n)
  (mine.find? fun t => t.state != TrapState.released).or mine.getLast?

def basisCode : Basis → Nat
  | .roll => 0
  | .today => 1

/-- Bytes 0 to 17 of the view. -/
def ItemEntry.view (e : ItemEntry) : List Byte :=
  let loan := e.loan.getD ⟨0, 0, 0, 0⟩
  [1, byteOf e.loan.isSome.toNat, byteOf (basisCode e.basis)] ++ packNumber loan.borrower ++ bytesOf 2 loan.dueDay
    ++ bytesOf 2 loan.dueMinute ++ [byteOf (itemClass e.item), byteOf loan.renewCount, byteOf e.station]
    ++ bytesOf 2 e.stamp

/-- Bytes 18 to 26 of the view. -/
def TrapRecord.view (t : TrapRecord) : List Byte :=
  [byteOf t.stateCode, byteOf t.station, byteOf t.rank] ++ packNumber t.holdBorrower

/-- The 27-byte view of INQUIRE ITEM. -/
def State.itemView (s : State) (n : Nat) : List Byte :=
  (match s.item? n with
   | none => bytesOf 18 0
   | some e => e.view) ++
  (match s.trapOfItem n with
   | none => bytesOf 9 0
   | some t => t.view)

end Sys2Proof.Machine
end

