-- ==== Sys2Proof/Machine/Lanes.lean ====
section
/-! DEFINITION. Machine/Lanes.lean: what a lane's work is made of (chapter 2): the result record, sessions,
station refusals, giving back, the commit point, and the stages of every transaction. A stage that needs
the memory asks for it and stops; the completion goes on from there (Machine/Completions.lean). -/

namespace Sys2Proof.Machine

/-! ## Tests and values -/

def State.rules (s : State) : RuleSet := s.reckoner.active

/-- The entry of a borrower whom a lane holds in hand; such an entry is never evicted (R29). -/
def State.entryOf (s : State) (b : Nat) : Entry :=
  (s.entry? b).getD (newEntry b ⟨0, 0, 0, 0, false, false⟩ s.rules 0)

/-- Which groups of conditions of R28's table a kind of work tests. -/
structure Tests where
  clock : Bool
  journal : Bool
  deriving DecidableEq, Repr

/-- Station-level refusals, in the order of the table (R28). -/
def State.stationRefusal (s : State) (t : Tests) : Option Reason :=
  if s.memory.faulted then some .fault
  else if s.station != .ready then some .notReady
  else if s.edition == 0 then some .noRoll
  else if t.clock && !s.clock.set then some .noClock
  else if t.journal && s.journalFull then some .journalFull
  else if t.journal && s.stampsOut then some .stampsExhausted
  else none

/-- The journal and stamp retests at COMMIT (R32, R36, R38, R41, R42). -/
def State.commitRefusal (s : State) : Option Reason :=
  if s.journalFull then some .journalFull else if s.stampsOut then some .stampsExhausted else none

/-- Full period of the session idle timer (R27). -/
def State.idlePeriod (s : State) : Nat := s.settings.inForce.idleSeconds * 1000

/-- WARNING for a borrower: the warning mark is on, or the station is INCOMPLETE (R26, R63). -/
def State.warningFor (s : State) (balance : Int) : Bool := s.rules.warningMark balance || s.standing.incomplete

/-! ## Sessions (R27) -/

/-- An open session ends: the slip is completed, the entry taken out of hand, the context cleared, and a
lane in SESSION goes to IDLE. -/
def State.endSession (s : State) (l : LaneId) : State :=
  match (s.lane l).session with
  | none => s.mapLane l fun c => { c with endPending := false }
  | some ss =>
    let e := s.entryOf ss.borrower
    let s := s.completeSlip l e.count e.balance (s.rules.warningMark e.balance)
    let s := s.mapLane l fun c =>
      { c with session := none, endPending := false, idleTimer := none,
               state := if c.state = .session then .idle else c.state }
    (s.outOfHand l ss.borrower).settlePrinter

/-! ## The result record (R44) -/

/-- The tone that a result requests on its source wand. -/
def ResultClass.tone : ResultClass → Option Tone
  | .refused => some .refusal
  | .invalid => some .refusal
  | .failed => some .error
  | .done => Option.none
  | .cancelled => Option.none
  | .none => Option.none

def State.resultTone (s : State) (src : Source) (c : ResultClass) : State :=
  match c.tone with
  | some t => s.sourceTone src t
  | none => s

/-- A transaction's borrower entry goes out of hand when its result is written (R29); an inquiry has none in
hand. -/
def State.dropTxnEntry (s : State) (l : LaneId) (t : Option Txn) : State :=
  match t with
  | some x =>
    if x.operation = .inquire then s
    else match x.borrower with
      | some b => s.outOfHand l b
      | none => s
  | none => s

/-- Write a result: the lane enters REPORTING, RESULT is latched, the tone requested, the idle timer
restarted for an open session, and a pending end of session takes effect. -/
def State.writeResult (s : State) (l : LaneId) (src : Source) (r : Result) : State :=
  let t := (s.lane l).txn
  let s := s.mapLane l fun c =>
    { c with state := .reporting, txn := none, result := r, unread := true, trapWait := none, blockWait := none }
  let s := ((s.dropTxnEntry l t).latch (causeResult l)).resultTone src r.cls
  let s := s.mapLane l fun c => { c with idleTimer := if c.session.isSome then some s.idlePeriod else none }
  if (s.lane l).endPending then s.endSession l else s

/-- A result with no optional field. One that reports a borrower check carries WARNING while the station is
INCOMPLETE, however the check ends (R63). -/
def State.plainResult (s : State) (l : LaneId) (op : Operation) (c : ResultClass) (why : Reason) : Result :=
  { Result.blank l with
    operation := op, cls := c, reason := why, mode := (s.lane l).mode
    flags := { ResultFlags.clear with warning := op == .borrowerCheck && s.standing.incomplete } }

/-- A result given with no transaction context in use. -/
def State.reportNow (s : State) (l : LaneId) (src : Source) (op : Operation) (c : ResultClass) (why : Reason) : State :=
  s.writeResult l src (s.plainResult l op c why)

/-- The block reason set of a transaction's borrower, once the entry is known. -/
def State.txnBlocks (s : State) (t : Txn) : BlockSet :=
  match t.borrower.bind s.entry? with
  | some e => e.blockSet s.clock.day
  | none => .empty

/-- The result of a transaction that ends otherwise than DONE; a LIMIT refusal reports the limit it used,
with WARNING while INCOMPLETE (R63). DESIGN CHOICE (assumption 59): R36 lists flags for RETURN DONE only, and a return
that ends REFUSED, FAILED or CANCELLED with HOLD_TRAPPED, HOLD_UNCONFIRMED or HOLD_NOT_CHECKED already set by R35
reports none of the three. -/
def State.endedResult (s : State) (l : LaneId) (t : Txn) (c : ResultClass) (why : Reason) : Result :=
  let r := { s.plainResult l t.operation c why with blocks := s.txnBlocks t }
  if why = .limit then
    let e := s.entryOf (t.borrower.getD 0)
    { r with count := some (e.count, s.limitInForce e.roll.category)
             flags := { ResultFlags.clear with warning := s.standing.incomplete } }
  else r

/-! ## Giving back (R43) -/

def Entry.reserved (e : Entry) : LaneId → Bool
  | .a => e.reservedA
  | .b => e.reservedB

/-- Release the lane's reservation, if it holds one (R29). -/
def State.releaseReservation (s : State) (l : LaneId) (b : Nat) : State :=
  match s.entry? b with
  | some e => if e.reserved l then s.reserve l b false else s
  | none => s

/-- The awaiting own action of a block or lift (R76). -/
def State.awaitingOwn (s : State) (t : Txn) : Bool :=
  match t.borrower.bind s.entry? with
  | some e => ((e.record t.blockReason).awaits t.stamp).isSome
  | none => false

def isBlockNotice (stamp : Nat) (n : Notice) : Bool :=
  match n.body with
  | .block _ _ _ => n.stamp == stamp
  | _ => false

/-- A transaction gives back everything it holds but its entry in hand, which the result's writing takes
out (R43): reservation, room, lookup, trap, BLOCK notice and awaiting own action. -/
def State.giveBack (s : State) (l : LaneId) (t : Txn) : State :=
  let b := t.borrower.getD 0
  let s := if t.operation = .lend then s.releaseReservation l b else s
  let s := (s.giveBackRoom l).dropAsked (isLaneLookup l)
  let s := s.abandonTrap l
  let s := match t.trap, t.hold with
    | .trapped, some h => s.releaseTrap (itemTitle (t.item.getD 0)) h.rank (t.item.getD 0)
    | _, _ => s
  let s := if t.stage = .awaitLine then s.withdraw .u (isBlockNotice t.stamp) else s
  if s.awaitingOwn t then s.dropAwaiting b t.blockReason t.stamp else s

/-- End the transaction in flight otherwise than DONE. -/
def State.endTxn (s : State) (l : LaneId) (c : ResultClass) (why : Reason) : State :=
  match (s.lane l).txn with
  | none => s
  | some t =>
    let s := s.giveBack l t
    s.writeResult l t.source (s.endedResult l t c why)

/-- An append failure in any stage (R33, R36, R38, R41, R42). -/
def State.appendFailed (s : State) (l : LaneId) : State := s.endTxn l .failed .memoryFault

/-! ## The commit point (R30, R110, R137) -/

def Txn.recordKind (t : Txn) : RecordKind :=
  match t.operation with
  | .lend => .loan
  | .ret => .ret
  | .renew => .renew
  | .block => .block
  | .lift => .lift
  | _ => .payment

def Txn.carriesLoan (t : Txn) : Bool := t.operation == .lend || t.operation == .renew

/-- The journal record of a transaction; the controller gives the edition and the record number (R137). -/
def State.recordFor (s : State) (l : LaneId) (t : Txn) (stamp : Nat) : JournalRecord :=
  { number := s.memory.copies.head + s.memory.requested
    stamp := stamp
    kind := t.recordKind
    lane := l
    day := s.clock.day
    minute := s.clock.minute
    borrower := t.borrower.getD 0
    item := t.item.getD 0
    dueDay := if t.carriesLoan then t.due.1 else 0
    dueMinute := if t.carriesLoan then t.due.2 else 0
    holdBorrower := if t.trap = .trapped then (t.hold.map (·.borrower)).getD 0 else 0
    amount := match t.operation with
      | .ret => t.fine
      | .renew => t.fine
      | .payment => t.amount
      | _ => 0
    outcome := match t.operation with
      | .ret => t.trap.code
      | .block => blockReasonCode t.blockReason
      | .lift => blockReasonCode t.blockReason
      | _ => 0
    edition := s.edition }

/-- Request the append of the transaction's record, which commits it. The record takes the next stamp, or
carries the stamp of a BLOCK notice already given. A faulted controller fails the append at once (R142). A lane
that still holds a request waits uncommitted in COMMIT, which it makes again then (R131; assumption 44). -/
def State.requestAppend (s : State) (l : LaneId) (stamped : Bool) : State :=
  match (s.lane l).txn with
  | none => s
  | some t =>
    if s.laneHeld l then s.mapTxn l fun x => { x with stage := .commit, deferred := true }
    else
      let s := if stamped then s else s.takeStamp
      let stamp := if stamped then t.stamp else s.line.stamps
      let r := s.recordFor l t stamp
      let s := s.mapTxn l fun x => { x with stage := .commit, committed := true, stamp := stamp }
      if s.memory.faulted then s.appendFailed l
      else (s.setMemory { s.memory with requested := s.memory.requested + 1 }).ask (.append r)

/-- The lookup that a transaction makes at its stage. -/
def Txn.lookup (l : LaneId) (t : Txn) : Option MemOp :=
  match t.stage with
  | .lookup => t.item.map fun n => .loansLookup (.lane l) n
  | .borrower => t.borrower.map fun b => .rollLookup (if t.operation = .inquire then .view l else .lane l) b
  | .hold => t.item.map fun n => .holdLookup (.lane l) (itemTitle n)
  | _ => none

/-- Ask for the lookup of the transaction's stage, or wait for it while the lane still holds a request (R131;
assumption 44). -/
def State.askLane (s : State) (l : LaneId) : State :=
  match (s.lane l).txn.bind (Txn.lookup l) with
  | none => s
  | some op => if s.laneHeld l then s.mapTxn l fun x => { x with deferred := true } else s.ask op

/-- COMMIT of a borrower operation: the journal and stamp tests, ending in class `c` when one fails, then the
append (R41, R42). -/
def State.commitOperation (s : State) (l : LaneId) (c : ResultClass) (stamped : Bool) : State :=
  match s.commitRefusal with
  | some why => s.endTxn l c why
  | none => s.requestAppend l stamped

/-- The end of every item COMMIT: the journal and stamp retests, then room, then the append. -/
def State.commitItem (s : State) (l : LaneId) (item : Nat) : State :=
  match s.commitRefusal with
  | some why => s.endTxn l .refused why
  | none =>
    match s.setAsideRoom l item with
    | none => s.endTxn l .refused .tableFull
    | some s => s.requestAppend l false

/-! ## Lending (R31, R32) -/

/-- The due date and minute of a loan of the item made now. -/
def State.dueNow (s : State) (item : Nat) (e : Entry) : Except Reason (Nat × Nat) :=
  s.rules.due (itemClass item) e.roll.expiry s.clock.day s.clock.minute

/-- The fine of the item returned now, against a loan's due day and minute. -/
def State.fineNow (s : State) (item : Nat) (loan : LoanPart) : Nat :=
  s.rules.fine (itemClass item) loan.dueDay loan.dueMinute s.clock.day s.clock.minute

/-- The due date at COMMIT: reckoned again when the day has changed since RECKON. -/
def State.dueAtCommit (s : State) (t : Txn) (e : Entry) : Except Reason (Nat × Nat) :=
  if s.clock.day = t.reckonDay then .ok t.due else s.dueNow (t.item.getD 0) e

def State.commitLend (s : State) (l : LaneId) (t : Txn) : State :=
  let b := t.borrower.getD 0
  let item := t.item.getD 0
  let e := s.entryOf b
  match s.dueAtCommit t e with
  | .error why => s.endTxn l .refused why
  | .ok due =>
    let s := s.mapTxn l fun x => { x with due := due, reckonDay := s.clock.day, stage := .commit }
    match (s.itemNow item t.found).loan with
    | some loan => s.endTxn l .refused (if loan.borrower = b then .onLoanSame else .onLoan)
    | none =>
      if e.blocked then s.endTxn l .refused .blocked
      else if !s.limitAtCommit e then s.endTxn l .refused .limit
      else s.commitItem l item

/-- The CHECK tests of a lend (R31). -/
def State.lendCheck (s : State) (e : Entry) (item : Nat) : Option Reason :=
  if (s.rules.classRule (itemClass item)).unit = .none then some .notForLoan
  else if !s.rules.admits e.roll.category (itemClass item) then some .classNotAllowed
  else if e.blocked then some .blocked
  else if e.roll.expiry < s.clock.day then some .cardExpired
  else if !s.limitAtCheck e then some .limit
  else none

/-- A lend after its LOOKUP: judged, checked, reserved, reckoned and committed. -/
def State.lendFound (s : State) (l : LaneId) (t : Txn) (a : ItemAnswer) : State :=
  let b := t.borrower.getD 0
  let item := t.item.getD 0
  match a.loan with
  | some loan => s.endTxn l .refused (if loan.borrower = b then .onLoanSame else .onLoan)
  | none =>
    match s.lendCheck (s.entryOf b) item with
    | some why => s.endTxn l .refused why
    | none =>
      let s := s.reserve l b true
      match s.dueNow item (s.entryOf b) with
      | .error why => s.endTxn l .refused why
      | .ok due =>
        let t := { t with found := some a, due := due, reckonDay := s.clock.day, stage := .commit }
        (s.mapTxn l fun _ => t).commitLend l t

/-! ## Returning (R34 to R36) -/

/-- COMMIT of a return. The trap wait no longer runs. -/
def State.commitReturn (s : State) (l : LaneId) : State :=
  match (s.lane l).txn with
  | none => s
  | some t =>
    let item := t.item.getD 0
    let s := s.mapLane l fun c => { c with trapWait := none }
    match (s.itemNow item t.found).loan with
    | none => s.endTxn l .refused .notOnLoan
    | some loan =>
      if some loan.borrower ≠ t.borrower then s.endTxn l .refused .notOnLoan
      else
        let same := s.clock.day = t.reckonDay ∧ t.due = (loan.dueDay, loan.dueMinute)
        let fine := if same then t.fine else s.fineNow item loan
        let s := s.mapTxn l fun x => { x with
          fine := fine, due := (loan.dueDay, loan.dueMinute), reckonDay := s.clock.day, stage := .commit }
        s.commitItem l item

/-- Go to COMMIT with a trap outcome. -/
def State.returnOn (s : State) (l : LaneId) (o : TrapOutcome) : State :=
  (s.mapTxn l fun x => { x with trap := o, waitExpired := false,
                                hold := if o = .trapped then x.hold else none }).commitReturn l

/-- The HOLD stage's choice and every retry: trap the lowest untrapped hold of the list (R35, R97, R98). -/
def State.tryTrap (s : State) (l : LaneId) : State :=
  match (s.lane l).txn with
  | none => s
  | some t =>
    let item := t.item.getD 0
    match s.firstUntrapped (itemTitle item) t.holds with
    | none => s.returnOn l .none
    | some h =>
      match s.makeTrap l item h with
      | none => s.returnOn l .notChecked
      | some s =>
        let s := s.mapTxn l fun x => { x with stage := .awaitTrap, hold := some h }
        s.mapLane l fun c => { c with trapWait := c.trapWait.or (some Config.trapWaitMs) }

/-- A return with its borrower's entry found: in hand, the fine reckoned, and the hold lookup asked for
(R34, R35). The due day and minute found at LOOKUP are kept in the context. -/
def State.returnBorrower (s : State) (l : LaneId) (t : Txn) : State :=
  let item := t.item.getD 0
  let s := s.takeInHand l (t.borrower.getD 0)
  let loan := (t.found.bind (·.loan)).getD ⟨0, 0, 0, 0⟩
  let s := s.mapTxn l fun x => { x with
    fine := s.fineNow item loan, due := (loan.dueDay, loan.dueMinute), reckonDay := s.clock.day, stage := .hold }
  s.askLane l

def State.returnFound (s : State) (l : LaneId) (t : Txn) (a : ItemAnswer) : State :=
  match a.loan with
  | none => s.endTxn l .refused .notOnLoan
  | some loan =>
    let t := { t with found := some a, borrower := some loan.borrower, stage := .borrower }
    let s := s.mapTxn l fun _ => t
    if (s.entry? loan.borrower).isSome then s.returnBorrower l t else s.askLane l

/-! ## Renewing (R37, R38) -/

def State.commitRenew (s : State) (l : LaneId) (t : Txn) : State :=
  let b := t.borrower.getD 0
  let item := t.item.getD 0
  match s.dueAtCommit t (s.entryOf b) with
  | .error why => s.endTxn l .refused why
  | .ok due =>
    match (s.itemNow item t.found).loan with
    | none => s.endTxn l .refused .notOnLoan
    | some loan =>
      let found := (t.found.bind (·.loan)).getD loan
      let same := s.clock.day = t.reckonDay ∧ loan.dueDay = found.dueDay ∧ loan.dueMinute = found.dueMinute
      let fine := if same then t.fine else s.fineNow item loan
      if loan.borrower ≠ b then s.endTxn l .refused .notBorrowers
      else if (s.rules.classRule (itemClass item)).renewLimit ≤ loan.renewCount then s.endTxn l .refused .renewLimit
      else
        let s := s.mapTxn l fun x => { x with
          due := due, fine := fine, reckonDay := s.clock.day, renewRead := loan.renewCount, stage := .commit }
        s.commitItem l item

/-- Test 6 of a renewal, then RECKON and COMMIT (R37, R38). -/
def State.renewHolds (s : State) (l : LaneId) (t : Txn) (holds : List Hold) : State :=
  let item := t.item.getD 0
  if (s.firstUntrapped (itemTitle item) holds).isSome then s.endTxn l .refused .onHold
  else
    let loan := (t.found.bind (·.loan)).getD ⟨0, 0, 0, 0⟩
    match s.dueNow item (s.entryOf (t.borrower.getD 0)) with
    | .error why => s.endTxn l .refused why
    | .ok due =>
      let t := { t with fine := s.fineNow item loan, due := due, reckonDay := s.clock.day, stage := .commit }
      (s.mapTxn l fun _ => t).commitRenew l t

/-- Tests 1 to 5 of a renewal (R37). -/
def State.renewCheck (s : State) (t : Txn) (a : ItemAnswer) : Option Reason :=
  let r := s.rules.classRule (itemClass (t.item.getD 0))
  match a.loan with
  | none => some .notOnLoan
  | some loan =>
    if some loan.borrower ≠ t.borrower then some .notBorrowers
    else if r.unit = .none then some .notForLoan
    else if (s.entryOf loan.borrower).roll.expiry < s.clock.day then some .cardExpired
    else if r.renewLimit ≤ loan.renewCount then some .renewLimit
    else none

def State.renewFound (s : State) (l : LaneId) (t : Txn) (a : ItemAnswer) : State :=
  match s.renewCheck t a with
  | some why => s.endTxn l .refused why
  | none => (s.mapTxn l fun x => { x with found := some a, stage := .hold }).askLane l

/-! ## Inquiries (R39) -/

/-- The result of an item inquiry, with reason NOT_FOUND for an item that neither the overlay nor the loans list
holds. The status has no place among the 36 bytes; the due fields are present for an item that is OUT, and the
renew count of an item that is IN is 0 (R39, R87, R88). -/
def State.inquireItemFound (s : State) (l : LaneId) (t : Txn) (a : ItemAnswer) (why : Reason) : State :=
  s.writeResult l t.source { s.plainResult l .inquire .done why with
    item := t.item
    borrower := a.loan.map (·.borrower)
    due := a.loan.map fun x => (x.dueDay, x.dueMinute)
    renewCount := some ((a.loan.map (·.renewCount)).getD 0)
    itemOut := some a.loan.isSome }

/-- The result of a borrower inquiry. DESIGN CHOICE (assumption 21): R39 lists no flag; WARNING is set as for a
borrower check, as R63 asks of results that report a limit. The view is from an entry or from one built of the roll fields alone. -/
def State.inquireBorrowerFound (s : State) (l : LaneId) (t : Txn) (e : Entry) : State :=
  s.writeResult l t.source { s.plainResult l .inquire .done .none with
    borrower := some e.borrower
    count := some (e.count, s.limitInForce e.roll.category)
    balance := some e.balance
    blocks := e.blockSet s.clock.day
    flags := { ResultFlags.clear with warning := s.warningFor e.balance } }

/-! ## LOOKUP (R31, R88) -/

/-- The answer to an item's LOOKUP, at the lane. -/
def State.itemFound (s : State) (l : LaneId) (t : Txn) (a : ItemAnswer) : State :=
  match t.operation with
  | .lend => s.lendFound l t a
  | .ret => s.returnFound l t a
  | .renew => s.renewFound l t a
  | .inquire => s.inquireItemFound l t a .none
  | _ => s

def LaneMode.operation : LaneMode → Operation
  | .lend => .lend
  | .ret => .ret
  | .renew => .renew
  | .inquire => .inquire

/-- A transaction context at its first stage. -/
def Txn.start (op : Operation) (stage : Stage) (src : Source) : Txn :=
  { operation := op, stage := stage, source := src, borrower := none, item := none, found := none, reckonDay := 0
    due := (0, 0), fine := 0, holds := [], hold := none, trap := .none, renewRead := 0, blockReason := .lost
    amount := 0, stamp := 0, committed := false, waitExpired := false, deferred := false }

/-- A lane begins a transaction: the session idle timer stops while it works (R27). -/
def State.begin (s : State) (l : LaneId) (state : LaneState) (t : Txn) : State :=
  s.mapLane l fun c => { c with state := state, txn := some t, idleTimer := none }

/-- An item label taken as new work, by the lane mode (R25, R31, R34, R37, R39). -/
def State.takeItem (s : State) (l : LaneId) (src : Source) (item : Nat) : State :=
  let c := s.lane l
  let op := c.mode.operation
  let needsSession := c.mode == .lend || c.mode == .renew
  match s.stationRefusal ⟨c.mode != .inquire, c.mode != .inquire⟩ with
  | some why => s.reportNow l src op .refused why
  | none =>
    if needsSession && c.session.isNone then s.reportNow l src op .refused .noSession
    else
      let b := if needsSession then c.session.map (·.borrower) else none
      let t := { Txn.start op .lookup src with item := some item, borrower := b }
      let s := s.begin l .working t
      match s.item? item with
      | some e => s.itemFound l t e.answer
      | none => s.askLane l

/-! ## Borrower checks (R25, R26) -/

/-- The check ends DONE: the session opens, the entry is in hand and the idle timer starts. DESIGN CHOICE (assumption
48): where END SESSION came during the check the session opens and ends in this one step, before the printer's wants
are tested, so that it warms no printer that is OFF (R26, R27, R152). -/
def State.checkDone (s : State) (l : LaneId) (t : Txn) : State :=
  let b := t.borrower.getD 0
  let s := s.takeInHand l b
  let s := s.mapLane l fun c => { c with session := some ⟨b, none⟩ }
  let e := s.entryOf b
  let s := s.writeResult l t.source { s.plainResult l .borrowerCheck .done .none with
    borrower := some b
    blocks := e.blockSet s.clock.day
    count := some (e.count, s.limitInForce e.roll.category)
    balance := some e.balance
    flags := { ResultFlags.clear with warning := s.warningFor e.balance } }
  s.settlePrinter

def State.startCheck (s : State) (l : LaneId) (src : Source) (b : Nat) : State :=
  match s.stationRefusal ⟨true, false⟩ with
  | some why => s.reportNow l src .borrowerCheck .refused why
  | none =>
    let t := { Txn.start .borrowerCheck .borrower src with borrower := some b }
    let s := s.begin l .checking t
    if (s.entry? b).isSome then s.checkDone l t else s.askLane l

/-- A borrower inquiry (R28, R39). DESIGN CHOICE (assumption 49): section 2.1 gives CHECKING to a borrower check and
WORKING to an item transaction or a borrower operation, and names neither for an inquiry that waits for its roll lookup;
the lane is WORKING. -/
def State.inquireBorrower (s : State) (l : LaneId) (src : Source) (b : Nat) : State :=
  match s.stationRefusal ⟨false, false⟩ with
  | some why => s.reportNow l src .inquire .refused why
  | none =>
    let t := { Txn.start .inquire .borrower src with borrower := some b }
    let s := s.begin l .working t
    match s.entry? b with
    | some e => s.inquireBorrowerFound l t e
    | none => s.askLane l

def State.takeBorrower (s : State) (l : LaneId) (src : Source) (b : Nat) : State :=
  match (s.lane l).mode with
  | .ret => s.reportNow l src .label .invalid .wrongMode
  | .inquire => s.inquireBorrower l src b
  | .lend => (s.endSession l).startCheck l src b
  | .renew => (s.endSession l).startCheck l src b

/-! ## Desk command labels and offers (R20 to R23, R43) -/

/-- A change to another mode ends an open session; a change to the mode in force changes nothing (R20). -/
def State.changeMode (s : State) (l : LaneId) (m : LaneMode) : State :=
  if (s.lane l).mode = m then s else (s.endSession l).mapLane l fun c => { c with mode := m }

def modeOfCommand : Nat → Option LaneMode
  | 10 => some .lend
  | 11 => some .ret
  | 12 => some .renew
  | 13 => some .inquire
  | _ => none

def cancelCode : Nat := 20

def State.takeCommand (s : State) (l : LaneId) (src : Source) (code : Nat) : State :=
  if code = 1 then (s.endSession l).reportNow l src .command .done .none
  else if code = cancelCode then s.reportNow l src .command .invalid .nothingToCancel
  else match modeOfCommand code with
    | some m => (s.changeMode l m).reportNow l src .command .done .none
    | none => s.reportNow l src .command .invalid .badCommand

/-- An offer taken as new work, in IDLE or SESSION (R21). -/
def State.takeOffer (s : State) (l : LaneId) (o : Offer) : State :=
  match o.kind with
  | .deskCommand code => s.takeCommand l o.source code
  | .borrower b => s.takeBorrower l o.source b
  | .item n => s.takeItem l o.source n
  | .badKind => s.reportNow l o.source .label .invalid .badKind

def LaneCtl.free (c : LaneCtl) : Bool := c.state == .idle || c.state == .session

def LaneCtl.busy (c : LaneCtl) : Bool := c.state == .checking || c.state == .working

/-- A lane that has entered IDLE or SESSION takes the offer its slot holds (R22). -/
def State.takeSlot (s : State) (l : LaneId) : State :=
  match (s.lane l).slot with
  | some o => if (s.lane l).free then (s.mapLane l fun c => { c with slot := none }).takeOffer l o else s
  | none => s

/-- The transaction can no longer be cancelled: committed, or its BLOCK frame on the line or already transmitted
(R43, R76). -/
def State.cancelTooLate (s : State) (l : LaneId) : Bool :=
  match (s.lane l).txn with
  | some t => t.committed || s.awaitingOwn t || (t.stage == .awaitLine && s.sendingIs (isBlockNotice t.stamp))
  | none => false

/-- A cancel that finds the lane in CHECKING, WORKING or REPORTING and not too late (R43). -/
def State.cancelWork (s : State) (l : LaneId) : State :=
  if (s.lane l).state = .reporting then s.mapLane l fun c => { c with slot := none }
  else s.endTxn l .cancelled .none

/-- An offer at a lane in CHECKING, WORKING or REPORTING (R21, R22). A keyed entry meets a full slot with
no overrun (R24). -/
def State.offerBusy (s : State) (l : LaneId) (o : Offer) : State :=
  if o.kind = .deskCommand cancelCode then
    if s.cancelTooLate l then s.sourceTone o.source .refusal else s.cancelWork l
  else match (s.lane l).slot with
    | none => s.mapLane l fun c => { c with slot := some o }
    | some _ =>
      match o.source with
      | .wand w => (s.latch (causeOverrun l)).tone w .error
      | _ => s

/-- An offered label reaches a lane (R21). -/
def State.offer (s : State) (l : LaneId) (o : Offer) : State :=
  match (s.lane l).state with
  | .closed => s.sourceTone o.source .refusal
  | .idle => s.takeOffer l o
  | .session => s.takeOffer l o
  | .checking => s.offerBusy l o
  | .working => s.offerBusy l o
  | .reporting => s.offerBusy l o

/-! ## Borrower operations (R40 to R42) -/

def BlockAction.ofOperation : Operation → BlockAction
  | .lift => .lift
  | _ => .raise

/-- A block or lift after BORROWER: the BLOCK notice and the block wait, or in listen-only the append at
once (R41). -/
def State.blockOn (s : State) (l : LaneId) (t : Txn) : State :=
  let b := t.borrower.getD 0
  if s.line.listenOnly then s.commitOperation l .refused false
  else
    match s.handStamped (.block (s.entryOf b).tallyPart (BlockAction.ofOperation t.operation) t.blockReason) with
    | (s, none) => s.endTxn l .failed .lineBusy
    | (s, some k) =>
      (s.mapTxn l fun x => { x with stage := .awaitLine, stamp := k }).mapLane l fun c =>
        { c with blockWait := some Config.blockWaitMs }

/-- A borrower operation with its entry found: in hand, then on by its kind (R40 to R42). -/
def State.operationOn (s : State) (l : LaneId) (t : Txn) : State :=
  let s := s.takeInHand l (t.borrower.getD 0)
  if t.operation = .payment then s.commitOperation l .refused false else s.blockOn l t

/-- A borrower operation takes a free lane's transaction context (R40). -/
def State.startOperation (s : State) (l : LaneId) (t : Txn) : State :=
  let b := t.borrower.getD 0
  let s := s.begin l .working t
  if (s.entry? b).isSome then s.operationOn l t else s.askLane l

/-- The own BLOCK notice of a lane in AWAIT_LINE has gone out (R41, R76): the awaiting own action is placed,
and the retests decide between the append and FAILED. -/
def State.blockTransmitted (s : State) (l : LaneId) (t : Txn) : State :=
  let s := s.placeAwaiting (t.borrower.getD 0) t.blockReason (BlockAction.ofOperation t.operation) t.stamp
  (s.mapLane l fun c => { c with blockWait := none }).commitOperation l .failed true

/-! ## Requests that waited for a discarded lookup (R131; assumption 44) -/

/-- COMMIT made again by a lane whose append had to wait: its tests and its request are one event (R137). -/
def State.recommit (s : State) (l : LaneId) (t : Txn) : State :=
  match t.operation with
  | .lend => s.commitLend l t
  | .ret => s.commitReturn l
  | .renew => s.commitRenew l t
  | .payment => s.commitOperation l .refused false
  | .block => if s.awaitingOwn t then s.commitOperation l .failed true else s.blockOn l t
  | .lift => if s.awaitingOwn t then s.commitOperation l .failed true else s.blockOn l t
  | _ => s

/-- The lane's discarded lookup has completed: a request that waited for it is made. -/
def State.resumeLane (s : State) (l : LaneId) : State :=
  match (s.lane l).txn with
  | none => s
  | some t =>
    if t.deferred then
      let t := { t with deferred := false }
      let s := s.mapTxn l fun _ => t
      if t.stage = .commit then s.recommit l t else s.askLane l
    else s

/-! ## Completions of committed work (R33, R36, R38, R41, R42) -/

/-- Hand the notice of an own change with the record's stamp. R110's refusal at a counter of 65,535 does not concern it, as
it takes no stamp (for a BLOCK a DESIGN CHOICE, assumption 51). -/
def State.notify (s : State) (stamp : Nat) (body : Body) : State := s.handChange ⟨stamp, toAll, body⟩

def State.loanDone (s : State) (l : LaneId) (t : Txn) : State :=
  let b := t.borrower.getD 0
  let item := t.item.getD 0
  let basis := (t.found.map (·.basis)).getD .today
  let s := (s.ownChange b 1 0 t.stamp).releaseReservation l b
  let s := s.ownWrite l item basis (some ⟨b, t.due.1, t.due.2, 0⟩) t.stamp
  let s := s.notify t.stamp (.loan (s.entryOf b).tallyPart item basis t.due.1 t.due.2 0)
  let (s, noSlip) := s.itemDueLine l item t.due.1 t.due.2
  let (s, notOnPad) := s.padPulse (padOf t.source l) .desensitise
  let e := s.entryOf b
  s.writeResult l t.source { s.plainResult l .lend .done .none with
    borrower := some b, item := some item, due := some t.due, balance := some e.balance
    count := some (e.count, s.limitInForce e.roll.category), blocks := s.txnBlocks t
    flags := { ResultFlags.clear with
      warning := s.warningFor e.balance, noSlip := noSlip, notOnPad := notOnPad } }

/-- The trap of a completing return is still CONFIRMED by this station for its copy (R97). -/
def State.trapStands (s : State) (t : Txn) : Bool :=
  match t.trap, t.hold with
  | .trapped, some h =>
    match s.trap? (itemTitle (t.item.getD 0)) h.rank with
    | some x => s.confirmedOwn x && some x.item == t.item
    | none => false
  | _, _ => false

/-- The FINE and HOLD slips of a completed return; true when one found no FREE record (R149, R150). -/
def State.returnSlips (s : State) (l : LaneId) (t : Txn) : State × Bool :=
  let b := t.borrower.getD 0
  let item := t.item.getD 0
  let e := s.entryOf b
  let (s, noFine) := if t.fine = 0 then (s, false)
    else s.fineSlip l b item t.due.1 t.fine e.count e.balance (s.rules.warningMark e.balance)
  match s.trapStands t, t.hold with
  | true, some h =>
    let (s, noHold) := s.holdSlip l (itemTitle item) h.rank h.borrower item
    (s, noFine || noHold)
  | _, _ => (s, noFine)

/-- A return's append has completed (R36). That its result carries WARNING for INCOMPLETE alone too, as a borrower check
does (R63), is the model's reading (assumption 21). -/
def State.returnDone (s : State) (l : LaneId) (t : Txn) : State :=
  let b := t.borrower.getD 0
  let item := t.item.getD 0
  let basis := (t.found.map (·.basis)).getD .today
  let s := s.ownChange b (-1) t.fine t.stamp
  let s := s.ownWrite l item basis none t.stamp
  let s := s.notify t.stamp (.ret (s.entryOf b).tallyPart item basis)
  let (s, noSlip) := s.returnSlips l t
  let (s, notOnPad) := s.padPulse (padOf t.source l) .resensitise
  let e := s.entryOf b
  s.writeResult l t.source { s.plainResult l .ret .done .none with
    borrower := some b, item := some item, amount := some t.fine, balance := some e.balance
    blocks := s.txnBlocks t
    flags :=
      { warning := s.warningFor e.balance, noSlip := noSlip, notOnPad := notOnPad
        holdTrapped := t.trap == .trapped, holdUnconfirmed := t.trap == .unconfirmed
        holdNotChecked := t.trap == .notChecked } }

def State.renewDone (s : State) (l : LaneId) (t : Txn) : State :=
  let b := t.borrower.getD 0
  let item := t.item.getD 0
  let basis := (t.found.map (·.basis)).getD .today
  let count := t.renewRead + 1
  let s := s.ownChange b 0 t.fine t.stamp
  let s := s.ownWrite l item basis (some ⟨b, t.due.1, t.due.2, count⟩) t.stamp
  let s := s.notify t.stamp (.renew (s.entryOf b).tallyPart item basis t.due.1 t.due.2 count)
  let (s, noSlip) := s.itemDueLine l item t.due.1 t.due.2
  let e := s.entryOf b
  s.writeResult l t.source { s.plainResult l .renew .done .none with
    borrower := some b, item := some item, due := some t.due, renewCount := some count
    amount := some t.fine, balance := some e.balance, blocks := s.txnBlocks t
    flags := { ResultFlags.clear with warning := s.warningFor e.balance, noSlip := noSlip } }

def State.paymentDone (s : State) (l : LaneId) (t : Txn) : State :=
  let b := t.borrower.getD 0
  let s := s.ownChange b 0 (-(t.amount : Int)) t.stamp
  let s := s.notify t.stamp (.payment (s.entryOf b).tallyPart)
  let e := s.entryOf b
  s.writeResult l t.source { s.plainResult l .payment .done .none with
    amount := some t.amount, balance := some e.balance, blocks := s.txnBlocks t
    flags := { ResultFlags.clear with warning := s.warningFor e.balance } }

/-- A block or lift whose append has completed: with no awaiting own action it was made in listen-only, and
its notice is handed now (R41, R76, R78). DESIGN CHOICE (assumption 51): the notice carries the record's stamp and takes
none, so that a counter at 65,535 does not refuse it (R110). -/
def State.blockDone (s : State) (l : LaneId) (t : Txn) : State :=
  let b := t.borrower.getD 0
  let action := BlockAction.ofOperation t.operation
  let sent := s.awaitingOwn t
  let s := s.ownBlock b t.blockReason action t.stamp
  let s := if sent then s else s.notify t.stamp (.block (s.entryOf b).tallyPart action t.blockReason)
  s.writeResult l t.source { s.plainResult l t.operation .done .none with blocks := s.txnBlocks t }

def State.appendDone (s : State) (l : LaneId) : State :=
  match (s.lane l).txn with
  | none => s
  | some t =>
    match t.operation with
    | .lend => s.loanDone l t
    | .ret => s.returnDone l t
    | .renew => s.renewDone l t
    | .payment => s.paymentDone l t
    | .block => s.blockDone l t
    | .lift => s.blockDone l t
    | _ => s

/-! ## Closing at FAULT (R19) -/

/-- A lane at the station's change to FAULT: work in flight ends FAILED FAULT, an open session ends, and the
lane is CLOSED. -/
def State.closeLane (s : State) (l : LaneId) : State :=
  let s := if (s.lane l).busy then s.endTxn l .failed .fault else s
  (s.endSession l).mapLane l fun c => { c with state := .closed, idleTimer := none }

end Sys2Proof.Machine
end

