-- ==== Sys2Proof/Machine/Upload.lean ====
section
/-! DEFINITION. Machine/Upload.lean: the upload engine (chapter 9): kept frames, calls and claims, the sender,
the gateway's session table and the uplink port. -/

namespace Sys2Proof.Machine

def State.setUpload (s : State) (u : Upload) : State := { s with upload := u }

def State.mapSender (s : State) (f : Sender → Sender) : State :=
  s.setUpload { s.upload with sender := f s.upload.sender }

def State.latchUpload (s : State) : State := s.latch causeUpload

/-! ## Upload frames (R166) -/

def isClaim (n : Notice) : Bool := kindCode n.body == 0x04
def isCall (n : Notice) : Bool := kindCode n.body == 0x16
def isBegin (n : Notice) : Bool := kindCode n.body == 0x17
def isDoneFrame (n : Notice) : Bool := kindCode n.body == 0x18
def isClosedFrame (n : Notice) : Bool := kindCode n.body == 0x19
def isBlockFrame (n : Notice) : Bool := kindCode n.body == 0x23

/-- Hand an upload frame; one that its queue refuses is kept for the hand-again timer (R166). -/
def State.handUpload (s : State) (n : Notice) : State :=
  match s.hand n with
  | (s, true) => s
  | (s, false) =>
    s.setUpload { s.upload with
      kept := s.upload.kept ++ [n], handAgainTimer := s.upload.handAgainTimer.or (some Config.handAgainMs) }

/-- Kept frames for which `p` holds stop being due. -/
def State.dropKept (s : State) (p : Notice → Bool) : State :=
  let kept := s.upload.kept.filter fun n => !p n
  s.setUpload { s.upload with kept := kept, handAgainTimer := if kept = [] then none else s.upload.handAgainTimer }

/-- Withdraw queued and kept frames of a class (R109, R166). -/
def State.withdrawUpload (s : State) (c : TxClass) (p : Notice → Bool) : State := (s.withdraw c p).dropKept p

/-! ## The sender's returns to IDLE and what the gateway tells it (R170, R171) -/

/-- The sender returns to IDLE with an outcome; a waiting read is withdrawn and other requests go on without
it (R170, R176). -/
def State.endSender (s : State) (o : UploadOutcome) : State :=
  let s := (s.dropAsked MemOp.isUploadRead).detachAsked MemOp.isUpload
  (s.mapSender fun x => { x with
    state := .idle, block := 0, records := [], tries := 0, moving := false, outcome := o
    callTimer := none, beginTimer := none, receiptTimer := none }).latchUpload

/-- Ask the memory controller for an upload operation; a faulted controller answers FAULT at once (R142). -/
def State.askUpload (s : State) (op : MemOp) : State :=
  if s.memory.faulted then s.endSender .fault else s.ask op

/-- The first record number after the block in hand. -/
def Sender.afterBlock (x : Sender) : Nat := x.first + 3 * (x.block - 1) + x.records.length

/-- An UPLOAD RECEIPT reaches the sender (R171). -/
def State.senderReceipt (s : State) (src k : Nat) : State :=
  let x := s.upload.sender
  if x.state = .sending ∧ x.moving = false ∧ x.gateway = some src ∧ x.block = k then
    let s := s.withdrawUpload .b isBlockFrame
    let s := s.mapSender fun y => { y with receiptTimer := none, moving := true, receipted := y.receipted + 1 }
    s.askUpload (.moveMarks x.afterBlock x.afterBlock)
  else s

/-- The sender is in a session that a refusal or a close from its gateway ends (R170, R171). DESIGN CHOICE (assumption
54): one that reaches a sender in SETTLING is ignored. -/
def Sender.heeds (x : Sender) (src : Nat) : Bool :=
  x.gateway == some src && (x.state == .beginning || x.state == .reading || x.state == .sending)

def State.stopSender (s : State) (o : UploadOutcome) : State :=
  ((s.withdrawUpload .s isBegin).withdrawUpload .b isBlockFrame).endSender o

/-- An UPLOAD REFUSAL reaches the sender. -/
def State.senderRefusal (s : State) (src reason : Nat) : State :=
  if s.upload.sender.heeds src then s.stopSender (.refused reason) else s

/-- An UPLOAD CLOSED reaches the sender. -/
def State.senderClosed (s : State) (src : Nat) : State :=
  if s.upload.sender.heeds src then s.stopSender .incomplete else s

/-! ## Uplink messages (section 9.7) -/

/-- A message: start byte, type, length, body and CRC-16 over bytes 1 to 2+L. -/
def uplinkMessage (type : Nat) (body : List Byte) : List Byte :=
  let covered := byteOf type :: byteOf body.length :: body
  0x5C :: covered ++ bytesOf 2 (crc16 covered).toNat

def UplinkBlock.message (b : UplinkBlock) (day : Nat) : List Byte :=
  uplinkMessage 0x01 ([byteOf b.station] ++ bytesOf 2 day ++ bytesOf 2 b.block ++ [byteOf b.records.length]
    ++ b.records.flatten)

/-! ## The gateway (R172 to R175) -/

def State.setGateway (s : State) (g : Option Gateway) : State := s.setUpload { s.upload with gateway := g }

def Gateway.entry (g : Gateway) (n : Nat) : GatewayEntry := (g.entries[n]?).getD ⟨.waitingBegin, 0, 0, none⟩

def Gateway.setEntry (g : Gateway) (n : Nat) (e : GatewayEntry) : Gateway := { g with entries := g.entries.set n e }

def GatewayState.isDone (x : GatewayState) : Bool := x == .done

def GatewayState.isGone : GatewayState → Bool
  | .gone _ => true
  | _ => false

def Gateway.mask (g : Gateway) (p : GatewayState → Bool) : Nat :=
  ((List.range 16).map fun n => if p (g.entry n).state then 2 ^ n else 0).sum

/-- The head's message is on the uplink, or its answer is awaited. -/
def Gateway.headInHand (g : Gateway) : Bool := g.sendingHead || g.answerTimer.isSome

/-- Remove the queued blocks of a station, but for a head in hand (R172). -/
def Gateway.removeBlocks (g : Gateway) (n : Nat) : Gateway :=
  let keep := fun (b : UplinkBlock) => b.station != n
  { g with queue := if g.headInHand then g.queue.take 1 ++ (g.queue.drop 1).filter keep else g.queue.filter keep }

def goneCode : GoneReason → Nat
  | .rejected => 1
  | .late => 3

/-- An entry becomes GONE: its silence timer stops and its queued blocks are removed. -/
def Gateway.gone (g : Gateway) (n : Nat) (r : GoneReason) : Gateway :=
  (g.setEntry n { g.entry n with state := .gone r, silenceTimer := none }).removeBlocks n

/-- Hand an UPLOAD RECEIPT; to the own sender by the internal path (R169, R173). One that U refuses is
dropped. -/
def State.giveReceipt (s : State) (n k : Nat) : State :=
  if n = s.number then s.senderReceipt n k else (s.hand ⟨0, n, .uploadReceipt k⟩).1

/-- Hand an UPLOAD REFUSAL to one station (R173). -/
def State.giveRefusal (s : State) (n reason : Nat) : State :=
  if n = s.number then s.senderRefusal n reason else (s.hand ⟨0, n, .uploadRefusal reason⟩).1

/-- Send the queue's head when no answer is awaited (R174). -/
def State.sendHead (s : State) : State :=
  match s.upload.gateway with
  | none => s
  | some g =>
    match g.queue with
    | [] => s
    | b :: _ =>
      if g.headInHand then s
      else s.setUpload { s.upload with uplinkOut := b.message g.claimDay, gateway := some { g with sendingHead := true } }

/-- UPLOAD CLOSED is in S: NIGHT CLOSE goes out and the session ends (R175). The internal path to the own sender
carries receipts and refusals and no close (R169). -/
def State.closeNow (s : State) (g : Gateway) : State :=
  let msg := uplinkMessage 0x02 (bytesOf 2 g.claimDay ++ bytesOf 2 (g.mask GatewayState.isDone)
    ++ bytesOf 2 (g.mask GatewayState.isGone))
  (s.setUpload { s.upload with uplinkOut := msg, gateway := none }).latchUpload

/-- The close test (R175): every entry DONE or GONE and the queue empty. -/
def State.testClose (s : State) : State :=
  match s.upload.gateway with
  | none => s
  | some g =>
    let settled := (List.range 16).all fun n => (g.entry n).state.isDone || (g.entry n).state.isGone
    if settled && g.queue.isEmpty && !g.closing then
      match s.hand ⟨0, toAll, .uploadClosed⟩ with
      | (s, true) => s.closeNow g
      | (s, false) => (s.setGateway (some { g with closing := true })).handUpload ⟨0, toAll, .uploadClosed⟩
    else s

/-- A gateway session opens (R172). -/
def State.openGateway (s : State) (day : Nat) : State :=
  (s.setGateway (some
    { entries := List.replicate 16 ⟨.waitingBegin, 0, 0, none⟩, beginTimer := some Config.beginMs, claimDay := day
      queue := [], sendingHead := false, answerTimer := none, closing := false })).latchUpload

/-- UPLOAD BEGIN at the gateway (R172). -/
def State.gatewayBegin (s : State) (n count : Nat) : State :=
  match s.upload.gateway with
  | none => s
  | some g =>
    let e := g.entry n
    match e.state with
    | .waitingBegin =>
      let expected := (count + 2) / 3
      if expected = 0 then (s.setGateway (some (g.setEntry n { e with state := .done, expected := 0 }))).testClose
      else s.setGateway (some (g.setEntry n
        { e with state := .sending, expected := expected, silenceTimer := some Config.silenceMs }))
    | .sending => s
    | .done => s
    | .gone r => s.giveRefusal n (goneCode r)

/-- UPLOAD BLOCK at the gateway (R173). -/
def State.gatewayBlock (s : State) (n k : Nat) (records : List (List Byte)) : State :=
  match s.upload.gateway with
  | none => s
  | some g =>
    let e := g.entry n
    let again := k == e.last && decide (0 < e.last)
    match e.state with
    | .waitingBegin => s
    | .gone r => s.giveRefusal n (goneCode r)
    | .done => if again then s.giveReceipt n k else s
    | .sending =>
      let g := g.setEntry n { e with silenceTimer := some Config.silenceMs }
      let s := s.setGateway (some g)
      if again then s.giveReceipt n k
      else if k = e.last + 1 ∧ g.queue.length < Config.uplinkDepth
          ∧ (g.queue.any fun b => b.station == n && b.block == k) = false then
        (s.setGateway (some { g with queue := g.queue ++ [⟨n, k, records⟩] })).sendHead
      else s

/-- UPLOAD DONE at the gateway (R172). -/
def State.gatewayDone (s : State) (n blocks : Nat) : State :=
  match s.upload.gateway with
  | none => s
  | some g =>
    let e := g.entry n
    match e.state with
    | .sending => (s.setGateway (some (g.gone n .late))).testClose
    | .waitingBegin =>
      if blocks = 0 then (s.setGateway (some (g.setEntry n { e with state := .done }))).testClose else s
    | .done => s
    | .gone _ => s

/-- The session's begin timer expires (R172). -/
def State.gatewayBeginExpiry (s : State) : State :=
  match s.upload.gateway with
  | none => s
  | some g =>
    if g.beginTimer.isNone then s
    else
      let late := fun (e : GatewayEntry) =>
        if e.state = .waitingBegin then { e with state := .gone .late } else e
      (s.setGateway (some { g with entries := g.entries.map late, beginTimer := none })).testClose

/-- An entry's silence timer expires (R172). -/
def State.gatewaySilence (s : State) (n : Nat) : State :=
  match s.upload.gateway with
  | none => s
  | some g =>
    if (g.entry n).silenceTimer.isNone then s else (s.setGateway (some (g.gone n .late))).testClose

/-- The message of the queue's head has been sent: the answer timer starts (R174). -/
def State.uplinkSent (s : State) : State :=
  match s.upload.gateway with
  | none => s
  | some g =>
    if g.sendingHead then
      s.setGateway (some { g with sendingHead := false, answerTimer := some Config.answerMs })
    else s

/-- ACCEPT for the head (R173, R174). -/
def State.uplinkAccept (s : State) (g : Gateway) (b : UplinkBlock) : State :=
  let e := g.entry b.station
  let g := { g with queue := g.queue.drop 1, answerTimer := none }
  let s :=
    if e.state = .sending then
      let last := decide (b.block = e.expected)
      let e := { e with
        last := b.block, state := if last then .done else .sending
        silenceTimer := if last then none else e.silenceTimer }
      (s.setGateway (some (g.setEntry b.station e))).giveReceipt b.station b.block
    else s.setGateway (some g)
  s.sendHead.testClose

/-- REJECT of the head (R174). -/
def State.uplinkReject (s : State) (g : Gateway) (b : UplinkBlock) (reason : Nat) : State :=
  let g := { g with queue := g.queue.drop 1, answerTimer := none }
  let s := s.setUpload { s.upload with lastReject := reason }
  let s :=
    if (g.entry b.station).state.isGone then s.setGateway (some (g.removeBlocks b.station))
    else (s.setGateway (some (g.gone b.station .rejected))).giveRefusal b.station 1
  s.sendHead.testClose

/-- A message received on the uplink (R174): taken when its form is good and it answers the head. -/
def State.uplinkReceived (s : State) (bytes : List Byte) : State :=
  match s.upload.gateway with
  | none => s
  | some g =>
    match g.queue with
    | [] => s
    | b :: _ =>
      let len := natAt bytes 2 1
      let type := natAt bytes 1 1
      let good := natAt bytes 0 1 == 0x5C && bytes.length == 5 + len
        && (crc16 ((bytes.drop 1).take (2 + len))).toNat == natAt bytes (3 + len) 2
      let answers := g.answerTimer.isSome && natAt bytes 3 1 == b.station && natAt bytes 4 2 == b.block
      if good && answers then
        if type = 0x81 ∧ len = 3 then s.uplinkAccept g b
        else if type = 0x82 ∧ len = 4 then s.uplinkReject g b (natAt bytes 6 1)
        else s
      else s

/-- The answer timer expires: the session ends with a refusal to all and no NIGHT CLOSE (R174). -/
def State.answerExpiry (s : State) : State :=
  match s.upload.gateway with
  | none => s
  | some g =>
    if g.answerTimer.isNone then s
    else
      let s := (s.hand ⟨0, toAll, .uploadRefusal 2⟩).1
      ((s.setGateway none).latchUpload).senderRefusal s.number 2

/-! ## What the sender hands (R169 to R171) -/

/-- Hand a BEGIN, block or DONE to the gateway: to the own session by the internal path, else in the frame's
class with the gateway as target. -/
def State.toGateway (s : State) (body : Body) : State :=
  match s.upload.sender.gateway with
  | none => s
  | some g =>
    if g = s.number then
      match body with
      | .uploadBegin _ c => s.gatewayBegin g c
      | .uploadBlock k rs => s.gatewayBlock g k rs
      | .uploadDone n => s.gatewayDone g n
      | _ => s
    else s.handUpload ⟨0, g, body⟩

/-- The session ends COMPLETE or UPLOAD_INCOMPLETE with an UPLOAD DONE of the blocks receipted. -/
def State.finishSender (s : State) (o : UploadOutcome) : State :=
  (s.endSender o).toGateway (.uploadDone s.upload.sender.receipted)

/-- Request the read of the sender's block `k` (R170). -/
def State.readBlock (s : State) (k : Nat) : State :=
  let x := s.upload.sender
  let first := x.first + 3 * (k - 1)
  let s := s.mapSender fun y => { y with state := .reading, block := k, moving := false }
  s.askUpload (.uploadRead first (min 3 (x.first + x.count - first)))

/-- The BEGIN has gone out, or was handed to the own gateway (R170). -/
def State.beginSent (s : State) : State :=
  if s.upload.sender.state = .beginning then
    let s := s.mapSender fun x => { x with beginTimer := none }
    if s.upload.sender.count = 0 then s.finishSender .complete else s.readBlock 1
  else s

/-- SETTLING: MOVE MARKS when send is ahead of tail, else TAKE SNAPSHOT, once no earlier request of the
engine is outstanding (R131, R169). -/
def State.settle (s : State) : State :=
  if s.upload.sender.state = .settling ∧ s.asked MemOp.isUpload = false then
    let c := s.memory.copies
    if c.tail < c.send then s.askUpload (.moveMarks c.send c.send) else s.askUpload .takeSnapshot
  else s

/-- The snapshot is taken: the range is fixed and BEGIN handed (R169). -/
def State.snapshotTaken (s : State) : State :=
  let c := s.memory.copies
  let count := c.snapshot - c.tail
  let s := s.mapSender fun x => { x with
    state := .beginning, first := c.tail, count := count, beginTimer := some Config.beginMs }
  let s := s.toGateway (.uploadBegin c.tail count)
  if s.upload.sender.gateway = some s.number then s.beginSent else s

/-- The read of the block in hand is answered: its first try (R170). -/
def State.blockRead (s : State) (records : List (List Byte)) : State :=
  let s := s.mapSender fun x => { x with
    state := .sending, records := records, tries := 1, receiptTimer := some Config.receiptMs }
  s.toGateway (.uploadBlock s.upload.sender.block records)

/-- The marks have been moved (R169, R171). -/
def State.marksMoved (s : State) : State :=
  let x := s.upload.sender
  if x.state = .settling then s.settle
  else if x.state = .sending ∧ x.moving = true then
    if x.afterBlock < x.first + x.count then s.readBlock (x.block + 1) else s.finishSender .complete
  else s

/-- The receipt timer expires (R171). DESIGN CHOICE (assumption 43): a copy that B refused and that is kept to be
handed again counts as still queued, so no second copy is handed beside it. -/
def State.receiptExpiry (s : State) : State :=
  let x := s.upload.sender
  if x.receiptTimer.isNone then s
  else if x.tries < Config.uploadTries then
    let s := s.mapSender fun y => { y with tries := y.tries + 1, receiptTimer := some Config.receiptMs }
    if s.queued .b isBlockFrame || s.upload.kept.any isBlockFrame then s
    else s.toGateway (.uploadBlock x.block x.records)
  else (s.withdrawUpload .b isBlockFrame).finishSender .incomplete

/-! ## Calling and claiming (R167, R168) -/

/-- A peer record is PRESENT with its uplink-fitted flag set. -/
def State.gatewayInSight (s : State) : Bool :=
  s.peerNumbers.any fun n => (s.peer n).present && (s.peer n).uplinkFitted

/-- A call (R167). -/
def State.makeCall (s : State) : State :=
  let s := s.dropKept isDoneFrame
  let s := s.mapSender fun x => { x with state := .calling, callTimer := some Config.callMs }
  if s.settings.strap then s.handUpload ⟨0, toAll, .gatewayClaim s.clock.day⟩
  else if s.gatewayInSight then s.handUpload ⟨0, toAll, .uploadCall s.clock.day⟩
  else s.endSender .noGateway

/-- A GATEWAY CLAIM names the gateway, at a sender in IDLE or CALLING (R168). A station that takes no part
has its sender IDLE. UPLOAD is latched when the sender leaves IDLE for SETTLING (R176). DESIGN CHOICE (assumption 53):
the number of blocks receipted returns to 0 as the sender enters SETTLING. -/
def State.claimNames (s : State) (gateway : Nat) : State :=
  let x := s.upload.sender
  if x.state = .idle ∨ x.state = .calling then
    let s := (s.withdrawUpload .u isClaim).withdrawUpload .s isCall
    let s := s.mapSender fun y => { y with callTimer := none, gateway := some gateway, state := .idle }
    if s.uploadAble then
      let s := s.dropKept isDoneFrame
      let s := s.mapSender fun y => { y with state := .settling, receipted := 0, moving := false }
      State.settle (if x.state = .idle then s.latchUpload else s)
    else s
  else s

/-- The day named by a claim or call is the station's own, or its clock is UNSET. -/
def State.dayAgrees (s : State) (day : Nat) : Bool := !s.clock.set || day == s.clock.day

/-- A GATEWAY CLAIM from a peer (R168). -/
def State.claimHeard (s : State) (sender day : Nat) : State :=
  if s.upload.gateway.isNone && s.dayAgrees day then s.claimNames sender else s

/-- The own GATEWAY CLAIM has completed transmission (R168, R172). R168 leaves out only claims heard at a station that
holds a gateway session: with one open here, after a one-shot's call (R165), the own claim acts too. DESIGN CHOICE
(assumption 58): the session then opens anew in the place of the one that was open. -/
def State.claimSent (s : State) (day : Nat) : State :=
  let x := s.upload.sender
  if x.state == .idle || x.state == .calling then
    (s.openGateway day).claimNames s.number
  else s

/-- An UPLOAD CALL from a peer (R167). -/
def State.callHeard (s : State) (day : Nat) : State :=
  let quiet := s.upload.sender.state == .idle && s.upload.gateway.isNone && !s.queued .u isClaim
    && !s.upload.kept.any isClaim
  if s.settings.strap && quiet && s.uploadAble && s.dayAgrees day then s.makeCall else s

/-- The call timer expires (R167). -/
def State.callExpiry (s : State) : State :=
  if s.upload.sender.state = .calling ∧ s.upload.sender.callTimer.isSome then
    ((s.withdrawUpload .u isClaim).withdrawUpload .s isCall).endSender .noGateway
  else s

/-- The sender's begin timer expires (R170). -/
def State.senderBeginExpiry (s : State) : State :=
  if s.upload.sender.state = .beginning ∧ s.upload.sender.beginTimer.isSome then
    (s.withdrawUpload .s isBegin).endSender .incomplete
  else s

/-- The hand-again timer expires: kept frames are handed once more (R166). DESIGN CHOICE (assumption 55): in the order
in which they were kept. -/
def State.handAgain (s : State) : State :=
  if s.upload.handAgainTimer.isNone then s
  else
    let kept := s.upload.kept
    let s := s.setUpload { s.upload with kept := [], handAgainTimer := none }
    let s := kept.foldl State.handUpload s
    match s.upload.gateway with
    | some g => if g.closing && !s.upload.kept.any isClosedFrame then s.closeNow g else s
    | none => s

end Sys2Proof.Machine
end

