-- ==== Sys2Proof/Machine/Faults.lean ====
section
/-! DEFINITION. Machine/Faults.lean: the station state (R187, R188) and the memory controller's faulted state
(R142). -/

namespace Sys2Proof.Machine

/-- The line controller and the slip unit begin work when the station leaves STARTING; the presence timer
starts with an expiry at once (R119, R187). -/
def State.beginWork (s : State) : State :=
  if s.station = .starting then
    State.handPresence { s with line := { s.line with presenceTimer := some Config.presenceMs } }
  else s

/-- The station enters GATHERING (R122, R123, R125, R187). -/
def State.enterGathering (s : State) : State :=
  let s := { s with station := .gathering }
  let s := (s.pushBroadcast.releaseEngine).testOwed
  { s with minimumTimer := some Config.minimumMs, quietTimer := some Config.quietMs }

/-- A lane at the station's entry into READY (R19). -/
def LaneCtl.opened (c : LaneCtl) : LaneCtl :=
  { c with state := .idle, mode := .ret, session := none, slot := none, unread := false }

/-- The station enters READY when both gathering timers have expired (R19, R187). -/
def State.testReady (s : State) : State :=
  if s.station = .gathering ∧ s.minimumTimer = none ∧ s.quietTimer = none then
    let s := { s with station := .ready, laneA := s.laneA.opened }
    if s.oneLane then s else { s with laneB := s.laneB.opened }
  else s

/-- The station enters FAULT: lanes close, the gathering timers stop, and an engine still HELD answers from
now on (R19, R123, R188). -/
def State.stationFault (s : State) : State :=
  let s := s.beginWork
  let s := { s with station := .fault, minimumTimer := none, quietTimer := none }
  ((s.closeLane .a).closeLane .b).releaseEngine.testOwed

/-- The lane an operation belongs to. -/
def MemOp.ofLane : MemOp → Option LaneId
  | .append r => some r.lane
  | op => op.lookupLane

def MemOp.isAppend : MemOp → Bool
  | .append _ => true
  | _ => false

/-- The fault answer of a lane's request, at the lane (R142). A hold lookup's fault does not end a return
(R35): its COMMIT then meets the faulted controller. -/
def State.laneFaultAnswer (s : State) (l : LaneId) (op : MemOp) : State :=
  match op with
  | .append _ => s.appendFailed l
  | .holdLookup _ _ =>
    match (s.lane l).txn with
    | some t => if t.operation = .ret then s.returnOn l .notChecked else s.endTxn l .failed .lookupFault
    | none => s
  | _ => s.endTxn l .failed .lookupFault

/-- A lane with a request outstanding as the controller faults: a failed append brings every other requested
append's answer with it (R137); otherwise the manual leaves open which comes first (assumption 6), and where
it is the station's change, `closeLane` ends the work FAILED FAULT. -/
def State.faultLane (s : State) (requests : List MemRequest) (failing : Bool) (l : LaneId) : State :=
  match requests.find? fun r => r.op.ofLane == some l && !r.discard with
  | none => s
  | some r =>
    if failing && r.op.isAppend then s.laneFaultAnswer l r.op
    else
      let first := Config.answerBeforeFault s.races
      let s := { s with races := s.races + 1 }
      if first then s.laneFaultAnswer l r.op else s

/-- The controller enters its faulted state (R142). A sender that settles behind a discarded request asks now, and
is answered FAULT at once. -/
def State.memFault (s : State) : State :=
  let m := s.memory
  let requests := m.busy.toList ++ m.waiting
  let failing := (m.busy.map fun r => r.op.isAppend).getD false
  let s := s.setMemory { m with
    faulted := true, busy := none, waiting := [], requested := 0, load := .reset, replay := none
    query := { m.query with state := if m.query.state = .none then .none else .ended } }
  let s := s.abandonParked
  let s := if requests.any fun r => r.op.isUpload && !r.discard then s.endSender .fault else s.settle
  let s := s.latch causeStationFault
  ((s.faultLane requests failing .a).faultLane requests failing .b).stationFault

end Sys2Proof.Machine
end

