-- ==== Sys2Proof/Machine/Completions.lean ====
section
/-! DEFINITION. Machine/Completions.lean: what the completion of each operation of the memory port does
(chapter 7), replay (R141) and the query scan (R139) among them. -/

namespace Sys2Proof.Machine

/-! ## Header writes -/

/-- Number of header writes that succeed of `n`. -/
def HeaderEnd.good (e : HeaderEnd) (n : Nat) : Nat :=
  match e with
  | .verified => n
  | .failsAt k => min k n

/-- The header writes of an operation; false when one of them failed its read-back, which leaves that cell
damaged and the later fields unwritten (R129). -/
def State.headerWrites (s : State) (fields : List (HeaderField × Nat)) (e : HeaderEnd) : State × Bool :=
  let n := HeaderEnd.good e fields.length
  (s.writeFields fields n true, n == fields.length)

/-! ## Query scan (R139) -/

def State.setQuery (s : State) (q : Query) : State := s.setMemory { s.memory with query := q }

/-- SCANNING with an empty buffer goes on: the position is raised to tail, and at the end the query is
ENDED; otherwise the next read is asked for. DESIGN CHOICE (assumption 47): a query taken with tail = head while the
discarded read of a replaced query is outstanding stays SCANNING until that read completes, and is ENDED at once
otherwise. -/
def State.nextQuery (s : State) : State :=
  let q := s.memory.query
  if q.state = .scanning ∧ q.buffer = none ∧ s.asked MemOp.isQuery = false then
    let p := max q.position s.memory.copies.tail
    if q.finish ≤ p then s.setQuery { q with position := p, state := .ended }
    else (s.setQuery { q with position := p }).ask .queryRead
  else s

/-- A record matches the query. -/
def Query.matches (q : Query) (bs : List Byte) (n : Nat) : Bool :=
  match q.field with
  | .borrower => natAt bs 11 5 == q.value
  | .item => natAt bs 16 5 == q.value
  | .number => if q.atOrAbove then decide (q.value ≤ n) else n == q.value

/-- The record at the position has been read. -/
def Query.step' (q : Query) (bs : List Byte) : Query :=
  let hit := q.matches bs q.position
  let found := if hit then q.found + 1 else q.found
  let buffer := if hit && (found - 1) % q.step == 0 then some bs else q.buffer
  { q with
    position := q.position + 1, found := found, buffer := buffer
    state := if q.finish ≤ q.position + 1 then .ended else .scanning }

/-! ## Replay (R141) -/

def State.setReplay (s : State) (next : Nat) (stage : ReplayStage) : State :=
  s.setMemory { s.memory with replay := some ⟨next, stage⟩ }

/-- Replay is over: the stamp counter is the larger of its value and the stamp read, JOURNAL HIGH is tested,
and the station enters GATHERING. -/
def State.replayDone (s : State) (stamp : Nat) : State :=
  let s := s.setMemory { s.memory with replay := none }
  let s := { s with line := { s.line with stamps := max s.line.stamps stamp } }
  let s := if Config.journalHigh ≤ s.content then s.latch causeJournalHigh else s
  s.enterGathering

/-- Read record number `n`, or with none left the stamp of record head - 1. -/
def State.replayFrom (s : State) (n : Nat) : State :=
  let c := s.memory.copies
  if n < c.head then (s.setReplay n .read).ask (.replayRead n)
  else if c.editionStart < c.head then (s.setReplay n .stamp).ask .replayStamp
  else s.replayDone 0

/-- The header is good: REPLAYING begins with the last record. -/
def State.startReplay (s : State) : State :=
  let c := s.memory.copies
  let s := { s.beginWork with station := .replaying }
  if c.head = c.tail then s.replayFrom c.tail else (s.setReplay (c.head - 1) .last).ask .replayLast

def State.replayNext (s : State) (r : JournalRecord) : State := s.replayFrom (r.number + 1)

def State.replayTraps (s : State) (r : JournalRecord) : State :=
  if r.kind = .ret ∧ r.outcome = 1 then
    (s.setReplay r.number (.traps r)).ask (.holdLookup .replay (itemTitle r.item))
  else s.replayNext r

def RecordKind.isItem (k : RecordKind) : Bool := k == .loan || k == .ret || k == .renew

def State.replayOverlay (s : State) (r : JournalRecord) : State :=
  if r.kind.isItem then
    if (s.item? r.item).isSome then (s.replayItem r .missing).replayTraps r
    else (s.setReplay r.number (.overlay r)).ask (.loansLookup .replay r.item)
  else s.replayNext r

/-- A record read by replay goes to the standing table first (R85). A record of a kind outside the table is
used by no block. -/
def State.replayRecord (s : State) (n : Nat) (bs : List Byte) : State :=
  match recordOf bs with
  | none => s.replayFrom (n + 1)
  | some r =>
    if (s.entry? r.borrower).isSome then (s.replayStandingRecord r).replayOverlay r
    else (s.setReplay n (.standing r)).ask (.rollLookup .replay r.borrower)

def State.replayRoll (s : State) (r : JournalRecord) (answer : Lookup RollFields) : State :=
  match answer with
  | .found roll =>
    match s.createEntry r.borrower roll with
    | (s, true) => (s.replayStandingRecord r).replayOverlay r
    | (s, false) => s.setIncomplete.replayOverlay r
  | .missing => s.setIncomplete.replayOverlay r
  | .fault => s.setIncomplete.replayOverlay r

/-- Apply `f` to the record that replay waits for in a lookup's stage. -/
def State.replayWith (s : State) (f : JournalRecord → State) : State :=
  match s.memory.replay with
  | some ⟨_, .standing r⟩ => f r
  | some ⟨_, .overlay r⟩ => f r
  | some ⟨_, .traps r⟩ => f r
  | _ => s

/-! ## Lookups at the lanes -/

/-- A roll lookup's answer at a lane that needs the entry (R26, R34, R40). -/
def State.laneRoll (s : State) (l : LaneId) (answer : Lookup RollFields) : State :=
  match (s.lane l).txn with
  | none => s
  | some t =>
    match answer with
    | .fault => s.endTxn l .failed .lookupFault
    | .missing => s.endTxn l .refused .unknownBorrower
    | .found roll =>
      match s.createEntry (t.borrower.getD 0) roll with
      | (s, false) => s.endTxn l .refused .tableFull
      | (s, true) =>
        match t.operation with
        | .borrowerCheck => s.checkDone l t
        | .ret => s.returnBorrower l t
        | .block => s.operationOn l t
        | .lift => s.operationOn l t
        | .payment => s.operationOn l t
        | _ => s

/-- A roll lookup's answer at an inquiry: a view from the roll fields alone, with FINES absent (R39, R84). -/
def State.viewRoll (s : State) (l : LaneId) (answer : Lookup RollFields) : State :=
  match (s.lane l).txn with
  | none => s
  | some t =>
    match answer with
    | .fault => s.endTxn l .failed .lookupFault
    | .missing => s.writeResult l t.source (s.plainResult l .inquire .done .notFound)
    | .found roll => s.inquireBorrowerFound l t { newEntry (t.borrower.getD 0) roll s.rules 0 with fines := false }

/-- A loans-list lookup's answer at a lane (R88). -/
def State.laneLoan (s : State) (l : LaneId) (answer : Lookup ItemAnswer) : State :=
  match (s.lane l).txn with
  | none => s
  | some t =>
    match answer with
    | .fault => s.endTxn l .failed .lookupFault
    | .missing =>
      if t.operation = .inquire then s.inquireItemFound l t ⟨.today, none⟩ .notFound
      else s.itemFound l t ⟨.today, none⟩
    | .found a => s.itemFound l t a

/-- A hold lookup's answer at a lane (R35, R37). -/
def State.laneHolds (s : State) (l : LaneId) (answer : Lookup (List Hold)) : State :=
  match (s.lane l).txn with
  | none => s
  | some t =>
    match answer with
    | .found hs =>
      if t.operation = .ret then (s.mapTxn l fun x => { x with holds := hs }).tryTrap l else s.renewHolds l t hs
    | .missing => if t.operation = .ret then s.returnOn l .none else s.renewHolds l t []
    | .fault => if t.operation = .ret then s.returnOn l .notChecked else s.endTxn l .failed .lookupFault

/-! ## Completions, by operation -/

/-- The entry that the standing table makes from a lookup whose lane was cancelled stays (R43). -/
def State.strayRoll (s : State) (b : Nat) (answer : Lookup RollFields) : State :=
  match answer with
  | .found roll => (s.createEntry b roll).1
  | .missing => s
  | .fault => s

def State.rollLookupDone (s : State) : State :=
  match s.memory.busy with
  | some ⟨.rollLookup who b, discard⟩ =>
    let answer := s.lookupRoll b
    let s := s.freePort
    State.grant <| match who with
      | .lane l => if discard then (s.strayRoll b answer).resumeLane l else s.laneRoll l answer
      | .view l => if discard then s.resumeLane l else s.viewRoll l answer
      | .standing => s.parkedLookupDone b answer
      | .replay => s.replayWith fun r => s.replayRoll r answer
  | _ => s

def State.loansLookupDone (s : State) : State :=
  match s.memory.busy with
  | some ⟨.loansLookup who n, discard⟩ =>
    let answer := s.lookupLoan n
    let s := s.freePort
    State.grant <| match who with
      | .lane l => if discard then s.resumeLane l else s.laneLoan l answer
      | .view l => if discard then s.resumeLane l else s.laneLoan l answer
      | .standing => s
      | .replay => s.replayWith fun r => (s.replayItem r answer).replayTraps r
  | _ => s

def State.holdLookupDone (s : State) : State :=
  match s.memory.busy with
  | some ⟨.holdLookup who title, discard⟩ =>
    let answer := s.lookupHolds title
    let s := s.freePort
    State.grant <| match who with
      | .lane l => if discard then s.resumeLane l else s.laneHolds l answer
      | .view _ => s
      | .standing => s
      | .replay => s.replayWith fun r => (s.replayTrap r answer).replayNext r
  | _ => s

/-- A journal append completes: the head field, the slot, and JOURNAL HIGH at 14,746 (R137, R138). -/
def State.appendVerified (s : State) (r : JournalRecord) : State :=
  let s := (s.writeField .head (r.number + 1) true).writeBytes (slotAddress r.number) r.bytes
  let before := s.content
  let s := (s.setMemory { s.memory with requested := s.memory.requested - 1 }).setCopy .head (r.number + 1)
  let s := if before < Config.journalHigh ∧ s.content = Config.journalHigh then s.latch causeJournalHigh else s
  ((s.freePort).appendDone r.lane).grant

def State.appendEnd (s : State) (e : AppendEnd) : State :=
  match s.memory.busy with
  | some ⟨.append r, _⟩ =>
    match e with
    | .verified => s.appendVerified r
    | .headFails => (s.writeField .head (r.number + 1) false).memFault
    | .readsBack bytes =>
      if bytes = r.bytes then s.appendVerified r
      else
        ((s.writeField .head (r.number + 1) true).writeBytes (slotAddress r.number) (bytesAt bytes 0 32)).memFault
  | _ => s

/-- The header write of ROLL BEGIN ends (R134). One that fails leaves its mark, for the next start. -/
def State.rollBeginEnd (s : State) (e : HeaderEnd) : State :=
  match s.memory.busy with
  | some ⟨.rollBeginWrite, _⟩ =>
    match s.headerWrites [(.edition, 0)] e with
    | (s, true) => ((s.setMemory { s.memory with beginUnwritten := false }).freePort).grant
    | (s, false) => s.memFault
  | _ => s

/-- The bytes of a chunk as they are written, check bytes included (R135). -/
def chunkBytes (list : ListId) (entries : List (List Byte)) : List Byte :=
  (entries.map fun e => withCheck (list.stored e)).flatten

def State.chunkEnd (s : State) (e : BytesEnd) : State :=
  match s.memory.busy with
  | some ⟨.chunkWrite list first entries, _⟩ =>
    let bytes := chunkBytes list entries
    let address := list.base + 16 * first
    match e with
    | .verified => ((s.writeBytes address bytes).freePort).grant
    | .readsBack got =>
      if got = bytes then ((s.writeBytes address bytes).freePort).grant
      else (s.writeBytes address (bytesAt got 0 bytes.length)).memFault
  | _ => s

/-- Own CONFIRMED traps as holds, for the slip unit's report (R150). -/
def State.ownHolds (s : State) : List (Nat × Nat) :=
  (s.traps.filter s.confirmedOwn).map fun t => (t.title, t.rank)

/-- The event of a successful ROLL END: the three tables emptied, the stamp counter and the peers' last
stamps 0 (R83, R105, R126, R136). -/
def State.newEdition (s : State) : State :=
  let holds := s.ownHolds
  let s := (s.emptyStanding.setOverlay .reset).setTraps []
  let s := { s with line := { s.line with
    stamps := 0, peers := s.line.peers.map fun p => { p with lastStamp := 0 } } }
  holds.foldl State.holdLost s

/-- Header fields of a ROLL END, the edition last (R136). -/
def State.editionFields (s : State) (edition roll loans holds : Nat) : List (HeaderField × Nat) :=
  [(.rollCount, roll), (.loansCount, loans), (.holdCount, holds), (.editionStart, s.memory.copies.head),
    (.edition, edition)]

def State.editionEnd (s : State) (e : HeaderEnd) : State :=
  match s.memory.busy with
  | some ⟨.editionWrite edition roll loans holds, _⟩ =>
    match s.headerWrites (s.editionFields edition roll loans holds) e with
    | (s, true) => ((s.newEdition).freePort).grant
    | (s, false) => s.memFault
  | _ => s

/-- A query's read completes (R139). DESIGN CHOICE (assumption 42): the read of a query that has been replaced is
discarded whole, so that a damaged record in it faults nothing; the spec states no more than the discard. -/
def State.queryReadDone (s : State) : State :=
  match s.memory.busy with
  | some ⟨.queryRead, discard⟩ =>
    if discard then ((s.freePort).nextQuery).grant
    else
      let q := { s.memory.query with position := max s.memory.query.position s.memory.copies.tail }
      let bs := s.slotBytes q.position
      if q.finish ≤ q.position then ((s.setQuery { q with state := .ended }).freePort).grant
      else if slotHolds bs q.position then (((s.setQuery (q.step' bs)).freePort).nextQuery).grant
      else s.memFault
  | _ => s

/-- The read of the last record completes; one that is damaged or of another number is discarded (R141). -/
def State.replayLastDone (s : State) : State :=
  match s.memory.busy with
  | some ⟨.replayLast, _⟩ =>
    let c := s.memory.copies
    let s := s.freePort
    State.grant <|
      if slotHolds (s.slotBytes (c.head - 1)) (c.head - 1) then s.replayFrom c.tail
      else (s.setReplay (c.head - 1) .head).ask .replayHead
  | _ => s

def State.replayHeadEnd (s : State) (e : HeaderEnd) : State :=
  match s.memory.busy with
  | some ⟨.replayHead, _⟩ =>
    match s.headerWrites [(.head, s.memory.copies.head - 1)] e with
    | (s, true) => ((s.freePort).replayFrom s.memory.copies.tail).grant
    | (s, false) => s.memFault
  | _ => s

/-- A replay read completes: a record below head, or record head - 1 for its stamp (R141). DESIGN CHOICE (assumption
52): a whole record of another number in that last slot leaves the stamp counter as it is, as a damaged one does. -/
def State.replayReadDone (s : State) : State :=
  match s.memory.busy with
  | some ⟨.replayRead n, _⟩ =>
    let bs := s.slotBytes n
    if slotHolds bs n then ((s.freePort).replayRecord n bs).grant else s.memFault
  | some ⟨.replayStamp, _⟩ =>
    let n := s.memory.copies.head - 1
    let bs := s.slotBytes n
    ((s.freePort).replayDone (if slotHolds bs n then natAt bs 4 2 else 0)).grant
  | _ => s

/-- An upload read completes (R138, R170). -/
def State.uploadReadDone (s : State) : State :=
  match s.memory.busy with
  | some ⟨.uploadRead first count, discard⟩ =>
    let c := s.memory.copies
    let numbers := (List.range count).map (first + ·)
    if first < c.tail ∨ c.head < first + count then
      let s := s.freePort
      (if discard then s.settle else s.endSender .incomplete).grant
    else if numbers.all fun n => slotHolds (s.slotBytes n) n then
      let records := numbers.map s.slotBytes
      let s := s.freePort
      (if discard then s.settle else s.blockRead records).grant
    else s.memFault
  | _ => s

def State.snapshotEnd (s : State) (e : HeaderEnd) : State :=
  match s.memory.busy with
  | some ⟨.takeSnapshot, discard⟩ =>
    match s.headerWrites [(.snapshot, s.memory.copies.head)] e with
    | (s, true) =>
      let s := s.freePort
      (if discard then s.settle else s.snapshotTaken).grant
    | (s, false) => s.memFault
  | _ => s

/-- MOVE MARKS completes: send is written first and tail second; new marks out of order are REFUSED (R138). -/
def State.moveMarksEnd (s : State) (e : HeaderEnd) : State :=
  match s.memory.busy with
  | some ⟨.moveMarks tail send, discard⟩ =>
    let c := s.memory.copies
    if c.tail ≤ tail ∧ tail ≤ send ∧ send ≤ c.snapshot then
      match s.headerWrites [(.send, send), (.tail, tail)] e with
      | (s, true) =>
        let s := s.freePort
        (if discard then s.settle else s.marksMoved).grant
      | (s, false) => s.memFault
    else
      let s := s.freePort
      (if discard then s.settle else s.endSender .incomplete).grant
  | _ => s

end Sys2Proof.Machine
end

