-- ==== Sys2Proof/Machine/DayClock.lean ====
section
/-! DEFINITION. Machine/DayClock.lean: the day clock, the day roll and the upload one-shot (R159 to R165). -/

namespace Sys2Proof.Machine

def State.mapClock (s : State) (f : Clock → Clock) : State := { s with clock := f s.clock }

/-- The test of the one-shot: ARMED with the minute of day at or above the upload minute, it fires (R165). -/
def State.testOneShot (s : State) : State :=
  if s.clock.set && s.clock.armed && decide (s.rules.uploadMinute ≤ s.clock.minute) then
    let s := s.mapClock fun c => { c with armed := false }
    if s.uploadAble && s.upload.sender.state == .idle then s.makeCall else s
  else s

/-- The one-shot at a new day: set against the minute taken, then tested (R165). -/
def State.setOneShot (s : State) : State :=
  (s.mapClock fun c => { c with armed := decide (c.minute ≤ s.rules.uploadMinute) }).testOneShot

/-- A roll to a day, with the minute and second it takes (R164). -/
def State.rollTo (s : State) (day minute second : Nat) : State :=
  let s := s.mapClock fun c => { c with day := day, minute := minute, seconds := second, set := true }
  (s.activate.setOneShot).latch causeDayRoll

/-- The own midnight (R162). -/
def State.ownMidnight (s : State) : State :=
  let s := s.rollTo (s.clock.day + 1) 0 0
  match s.hand ⟨0, toAll, .dayRoll s.clock.day⟩ with
  | (s, true) => s.mapClock fun c => { c with rollMark := true }
  | (s, false) => s

/-- The crystal counts a second (R159). -/
def State.countSecond (s : State) : State :=
  if !s.clock.set then s
  else if s.clock.seconds < 59 then s.mapClock fun c => { c with seconds := c.seconds + 1 }
  else if s.clock.minute < 1439 then
    (s.mapClock fun c => { c with seconds := 0, minute := c.minute + 1 }).testOneShot
  else if s.clock.day < 65535 then s.ownMidnight
  else s.mapClock fun c => { c with seconds := 0 }

def isDayRoll (n : Notice) : Bool := kindCode n.body == 0x03

/-- A DAY ROLL of a peer (R162, R163). -/
def State.dayRollHeard (s : State) (day : Nat) : State :=
  let c := s.clock
  if !c.set then s.rollTo day 0 0
  else if day = c.day + 1 ∧ 1410 ≤ c.minute then s.rollTo day 0 0
  else if day = c.day then
    if c.rollMark then (s.withdraw .u isDayRoll).mapClock fun c => { c with rollMark := false } else s
  else s.mapClock fun c => { c with rollRefusals := saturatingSucc c.rollRefusals }

/-- An UNSET clock adopts the time of a PRESENCE whose clock-set flag is set (R161). -/
def State.adopt (s : State) (p : PresencePart) : State :=
  if !s.clock.set && p.clockSet then
    (s.mapClock fun c => { c with day := p.day, minute := p.minute, seconds := 0, set := true }).setOneShot
  else s

/-- SET CLOCK with values in range that do not go back a day (R160). -/
def State.takeClock (s : State) (day minute second : Nat) : State :=
  let c := s.clock
  if !c.set then
    (s.mapClock fun c => { c with day := day, minute := minute, seconds := second, set := true }).setOneShot
  else if day = c.day then
    (s.mapClock fun c => { c with minute := minute, seconds := second }).testOneShot
  else s.rollTo day minute second

end Sys2Proof.Machine
end

