-- ==== Sys2Proof/Machine/Line.lean ====
section
/-! DEFINITION. Machine/Line.lean: access to the desk line, transmission and collision, reception and the
peer table (R106 to R121). -/

namespace Sys2Proof.Machine

def State.mapLine (s : State) (f : LineCtl → LineCtl) : State := { s with line := f s.line }

/-! ## Access to the line (R111, R112) -/

/-- The class the station contends with: U, else S, else B. -/
def State.contending (s : State) : Option TxClass :=
  if !s.line.u.isEmpty then some .u
  else if !s.line.s.isEmpty then some .s
  else if !s.line.b.isEmpty then some .b
  else none

/-- Deferral of a class in slots (R111). -/
def State.deferral (s : State) : TxClass → Nat
  | .u => s.number
  | .s => 17 + s.number + if s.line.courtesyS then 16 else 0
  | .b => 34 + s.number + if s.line.courtesyB then 16 else 0

/-- The body of a PRESENCE as filled when its transmission begins (R119). -/
def State.presenceBody (s : State) : PresencePart :=
  { currentStamp := s.line.stamps
    day := if s.clock.set then s.clock.day else 0
    minute := if s.clock.set then s.clock.minute else 0
    clockSet := s.clock.set
    uplinkFitted := s.settings.strap
    heard := (List.range 16).map fun n =>
      if n = s.number then s.line.stamps
      else if (s.peer n).edition = s.edition then (s.peer n).lastStamp else 0 }

/-- The frame as it goes on the line (R108). -/
def State.fill (s : State) (n : Notice) : Notice :=
  match n.body with
  | .presence _ => { n with body := .presence s.presenceBody }
  | _ => n

/-- Transmission begins when the time since idle has reached the deferral (R111); a station that has left
listen-only waits for the next idle (R115). -/
def State.startSending (s : State) (slots : Nat) : State :=
  if s.begun && s.line.state == .idle && !s.line.listenOnly && !s.line.awaitIdle && s.line.sending.isNone then
    match s.contending with
    | none => s
    | some c =>
      match s.queueOf c with
      | [] => s
      | n :: _ =>
        if s.deferral c ≤ slots then
          s.mapLine fun x => { x with state := .carrier, sending := some ⟨c, s.number, s.edition, s.fill n, false⟩ }
        else s
  else s

/-! ## Transmission (R113) -/

/-- The record that a TRAPPED notice of this station is about. -/
def State.trapOfNotice (s : State) (n : Notice) : Option TrapRecord :=
  s.traps.find? fun t => t.station == s.number && t.isNotice n

/-- The lane in AWAIT_LINE for a BLOCK notice. -/
def State.laneOfBlock (s : State) (n : Notice) : Option (LaneId × Txn) :=
  let waits := fun (l : LaneId) => (s.lane l).txn.bind fun t =>
    if t.stage = .awaitLine ∧ isBlockNotice t.stamp n = true then some (l, t) else none
  (waits .a).or (waits .b)

/-- The hold that a TRAPPED notice names. -/
def Notice.trapHold (n : Notice) : Option (Nat × Nat) :=
  match n.body with
  | .trap p _ .trapped => some (p.title, p.rank)
  | _ => none

/-- An own TRAPPED notice has gone out, or left its queue: the HELD slip of its hold becomes READY where the record
is CONFIRMED by the own station, whichever notice of the record it was (R150). -/
def State.noticeLeft (s : State) (n : Notice) : State :=
  match n.trapHold with
  | some h => s.holdAsserted h
  | none => s

/-- The own TRAPPED notice has completed transmission (R97, R99, R150). -/
def State.trapSent (s : State) (n : Notice) : State :=
  match s.trapOfNotice n with
  | none => s.noticeLeft n
  | some t =>
    match t.state with
    | .provisional l false =>
      ((s.putTrap { t with state := .confirmed }).holdAsserted (t.title, t.rank)).returnOn l .trapped
    | .provisional _ true => (s.putTrap { t with state := .confirmed }).releaseTrap t.title t.rank t.item
    | .confirmed => s.noticeLeft n
    | .released => s

/-- The completion is reported to the block that handed the frame. -/
def State.reportSent (s : State) (n : Notice) : State :=
  match n.body with
  | .trap _ _ .trapped => s.trapSent n
  | .block _ _ _ =>
    match s.laneOfBlock n with
    | some (l, t) => s.blockTransmitted l t
    | none => s
  | .dayRoll _ => s.mapClock fun c => { c with rollMark := false }
  | .gatewayClaim day => s.claimSent day
  | .uploadBegin first count =>
    if s.upload.sender.first = first ∧ s.upload.sender.count = count then s.beginSent else s
  | _ => s

/-- The last CRC bit is sent: the frame leaves its queue, the collision count is cleared and the courtesy
mark set (R112, R113). -/
def State.sendComplete (s : State) : State :=
  match s.line.sending with
  | none => s
  | some x =>
    let s := s.setQueueOf x.cls ((s.queueOf x.cls).drop 1)
    let s := s.mapLine fun y => { y with
      sending := none, state := .gap, collisions := 0
      courtesyS := y.courtesyS || x.cls == .s, courtesyB := y.courtesyB || x.cls == .b }
    (s.reportSent x.notice).left x.cls

/-- Enter listen-only (R114). -/
def State.enterListenOnly (s : State) : State :=
  (s.mapLine fun y => { y with listenOnly := true }).latch causeStationFault

/-- A withdrawal takes effect at the end of a lost transmission: the frame has left its queue (R35, R41, R43,
R109). A renewed notice of a CONFIRMED trap that leaves its queue so lets its HELD slip become READY (R150). -/
def State.withdrawnLost (s : State) (n : Notice) : State :=
  match n.body with
  | .trap _ _ .trapped =>
    match s.trapOfNotice n with
    | none => s.noticeLeft n
    | some t =>
      match t.state with
      | .provisional l false => (s.removeTrap t.title t.rank).returnOn l .unconfirmed
      | .provisional _ true => s.removeTrap t.title t.rank
      | .confirmed => s.noticeLeft n
      | .released => s
  | .block _ _ _ =>
    match s.laneOfBlock n with
    | some (l, _) => s.endTxn l .failed .lineBusy
    | none => s
  | .dayRoll _ => s.mapClock fun c => { c with rollMark := false }
  | _ => s

/-- The line is lost: the frame stays at the head of its queue unless its withdrawal waited, and the rest of
the other frame is received (R113, R114). -/
def State.lineLost (s : State) : State :=
  match s.line.sending with
  | none => s
  | some x =>
    let count := min (s.line.collisions + 1) Config.collisionLimit
    let s := s.mapLine fun y => { y with sending := none, receiving := true, collisions := count }
    let s := if count = Config.collisionLimit then s.enterListenOnly else s
    if x.withdrawn then
      ((s.setQueueOf x.cls ((s.queueOf x.cls).drop 1)).withdrawnLost x.notice).left x.cls
    else s

/-! ## Reception (R107, R116 to R118) -/

/-- A frame is good (R107). The CRC covers bytes 1 to 7+L. -/
def RxFrame.good (f : RxFrame) : Bool :=
  let kind := natAt f.bytes 1 1
  let stamp := natAt f.bytes 3 2
  let target := natAt f.bytes 6 1
  let len := natAt f.bytes 7 1
  !f.cutShort && natAt f.bytes 0 1 == 0xA6 && kindCode f.body == kind && (codeLengths kind).contains len
    && f.bytes.length == 10 + len
    && (if codeStamped kind then decide (1 ≤ stamp) else stamp == 0)
    && decide (natAt f.bytes 2 1 < 16) && (decide (target < 16) || target == toAll)
    && (crc16 ((f.bytes.drop 1).take (7 + len))).toNat == natAt f.bytes (8 + len) 2

/-- The peer record at a good frame: PRESENT, its absence timer restarted, a new edition taken (R116). -/
def Peer.heard (p : Peer) (edition : Nat) : Peer :=
  { p with
    present := true, absenceTimer := some Config.absenceMs, edition := edition
    lastStamp := if p.edition = edition then p.lastStamp else 0 }

/-- A record has changed between ABSENT and PRESENT: PEER is latched if enabled (R120). -/
def State.peerHeard (s : State) (n edition : Nat) : State :=
  let p := s.peer n
  let s := s.setPeer n (p.heard edition)
  if p.present then s else s.latch causePeer

/-- The frame's target concerns this station (R116). -/
def State.targeted (s : State) (b : Body) (target : Nat) : Bool :=
  let mine := target == s.number || target == toAll
  match b with
  | .restateRequest _ => mine
  | .uploadReceipt _ => mine
  | .uploadRefusal _ => mine
  | _ => true

/-- The sender's edition is the station's own, and not 0 (R117). -/
def State.editionAgrees (s : State) (edition : Nat) : Bool := edition == s.edition && s.edition != 0

/-- A peer's TRAPPED notice, or a restated CONFIRMED trap of a hold whose record is not by the restating
station (R98, R100, R101). -/
def State.peerTrapped (s : State) (p : TrapPart) (sender stamp : Nat) : State :=
  match s.trap? p.title p.rank with
  | none => s.recordTrap (peerTrap p sender stamp)
  | some t =>
    match t.state with
    | .released => s.recordTrap (peerTrap p sender stamp)
    | .provisional l abandoned =>
      let s := (s.withdraw .u t.isNotice).putTrap (peerTrap p sender stamp)
      if abandoned then s else s.tryTrap l
    | .confirmed =>
      if t.station = s.number then s.trapConflict t p sender stamp
      else if t.station = sender then
        if t.stamp < stamp then s.putTrap { t with item := p.item, stamp := stamp } else s
      else if sender < t.station then s.putTrap (peerTrap p sender stamp)
      else s

/-- A TRAP STATE of the restatement walk (R102). -/
def State.restatedTrap (s : State) (p : TrapPart) (state : RestatedTrap) (sender stamp : Nat) : State :=
  let other := match state with
    | .confirmed => s.peerTrapped p sender stamp
    | .released => s
  match s.trap? p.title p.rank with
  | none => other
  | some t =>
    if t.station = sender then
      if t.stamp < stamp then s.putTrap (t.restatedBy p state stamp) else s
    else other

/-- A tally part offered live with a notice's stamp (R70). -/
def State.liveTally (s : State) (sender stamp : Nat) (t : TallyPart) (lost staff : Option StampedAction) : State :=
  s.tallyOffer ⟨t.borrower, true, sender, ⟨t.netLoans, t.netBalance, stamp⟩, lost, staff⟩

/-- A stamped notice that is applied (R118). -/
def State.applyNotice (s : State) (sender stamp : Nat) (b : Body) : State :=
  match b with
  | .loan t item basis day minute count =>
    (s.liveTally sender stamp t none none).liveItem sender stamp item basis
      (some ⟨t.borrower, day, minute, count⟩)
  | .ret t item basis => (s.liveTally sender stamp t none none).liveItem sender stamp item basis none
  | .renew t item basis day minute count =>
    (s.liveTally sender stamp t none none).liveItem sender stamp item basis
      (some ⟨t.borrower, day, minute, count⟩)
  | .payment t => s.liveTally sender stamp t none none
  | .block t action reason =>
    let a := some ⟨action, stamp⟩
    match reason with
    | .lost => s.liveTally sender stamp t a none
    | .staff => s.liveTally sender stamp t none a
  | .trap p _ .trapped => s.peerTrapped p sender stamp
  | .trap p _ .released => s.peerReleased p sender stamp
  | _ => s

/-- A frame of a stamped kind is judged by its stamp (R118). -/
def State.judgeStamp (s : State) (sender stamp : Nat) (b : Body) : State :=
  let last := (s.peer sender).lastStamp
  if stamp ≤ last then s
  else
    let s := s.setPeer sender { s.peer sender with lastStamp := stamp }
    let s := if stamp = last + 1 then s else s.requestRestate sender (last + 1)
    s.applyNotice sender stamp b

/-- A received PRESENCE (R119, R161). DESIGN CHOICE (assumption 60): R161 and the two further steps of R119 each follow
the update of the record, and the manual does not order them; an UNSET clock adopts the time first, so that an UPLOAD
CALL of its one-shot goes into S before the restatement request. -/
def State.presenceHeard (s : State) (sender edition : Nat) (p : PresencePart) : State :=
  let s := s.setPeer sender { s.peer sender with
    day := p.day, minute := p.minute, clockSet := p.clockSet, uplinkFitted := p.uplinkFitted }
  let s := s.adopt p
  if s.editionAgrees edition then
    let last := (s.peer sender).lastStamp
    let s := if last < p.currentStamp then s.requestRestate sender (last + 1) else s
    let heard := (p.heard[s.number]?).getD 0
    s.mapLine fun x => { x with stamps := max x.stamps heard }
  else s

/-- A TALLY, ITEM or TRAP STATE that passed its edition check is reported to the station state: in GATHERING
the quiet timer restarts (R122, R187). -/
def State.restatementHeard (s : State) : State :=
  if s.station = .gathering then { s with quietTimer := some Config.quietMs } else s

/-- A frame of an unstamped kind is handed on (R118). -/
def State.handOn (s : State) (sender edition target : Nat) (b : Body) : State :=
  let mine := target == s.number
  match b with
  | .tally t stamp lost staff =>
    s.restatementHeard.tallyOffer ⟨t.borrower, false, sender, ⟨t.netLoans, t.netBalance, stamp⟩, lost, staff⟩
  | .item item basis loan stamp => s.restatementHeard.restatedItem sender stamp item basis loan
  | .trapState p state stamp => s.restatementHeard.restatedTrap p state sender stamp
  | .restateRequest f => (s.engineRequest f).handPresence
  | .presence p => s.presenceHeard sender edition p
  | .dayRoll day => s.dayRollHeard day
  | .gatewayClaim day => s.claimHeard sender day
  | .uploadReceipt k => s.senderReceipt sender k
  | .uploadRefusal reason => s.senderRefusal sender reason
  | .uploadCall day => s.callHeard day
  | .uploadBegin _ count => if mine then s.gatewayBegin sender count else s
  | .uploadDone blocks => if mine then s.gatewayDone sender blocks else s
  | .uploadBlock k records => if mine then s.gatewayBlock sender k records else s
  | .uploadClosed => s.senderClosed sender
  | _ => s

/-- A dropped frame at the peer record (R117): the mismatch is counted, and while the own edition is 0 the stamp of
a stamped kind is still recorded. -/
def Peer.dropped (p : Peer) (ownEdition stamp : Nat) (b : Body) : Peer :=
  { p with
    mismatches := saturatingSucc p.mismatches
    lastStamp := if ownEdition = 0 ∧ codeStamped (kindCode b) = true then max p.lastStamp stamp else p.lastStamp }

/-- A good frame from a peer (R116 to R118). -/
def State.peerFrame (s : State) (sender stamp edition target : Nat) (b : Body) : State :=
  let s := s.peerHeard sender edition
  if !s.targeted b target then s
  else if codeEditionChecked (kindCode b) && !s.editionAgrees edition then
    s.setPeer sender ((s.peer sender).dropped s.edition stamp b)
  else if codeStamped (kindCode b) then s.judgeStamp sender stamp b
  else s.handOn sender edition target b

/-- A good frame (R112, R114): one bearing the own number takes the station to listen-only. -/
def State.goodFrame (s : State) (f : RxFrame) : State :=
  let sender := natAt f.bytes 2 1
  let s := s.mapLine fun x => { x with courtesyS := false, courtesyB := false }
  if sender = s.number then
    (s.mapLine fun x => { x with ownFrames := saturatingSucc x.ownFrames }).enterListenOnly
  else s.peerFrame sender (natAt f.bytes 3 2) (natAt f.bytes 5 1) (natAt f.bytes 6 1) f.body

/-- A frame ends on the line and is judged (R106, R107). -/
def State.frameEnded (s : State) (f : RxFrame) : State :=
  if s.begun && s.line.receiving then
    let s := s.mapLine fun x => { x with receiving := false, state := .gap }
    if RxFrame.good f then s.goodFrame f
    else s.mapLine fun x => { x with badFrames := saturatingSucc x.badFrames }
  else s

/-! ## The peer table (R120, R121) -/

def State.peerAbsent (s : State) (n : Nat) : State :=
  let p := s.peer n
  if p.absenceTimer.isNone then s
  else
    let s := s.setPeer n { p with present := false, absenceTimer := none }
    if p.present then s.latch causePeer else s

/-- The 11-byte view of READ PEER (R121). -/
def Peer.view (p : Peer) : List Byte :=
  [byteOf p.present.toNat, byteOf p.edition] ++ bytesOf 2 p.lastStamp ++ bytesOf 2 p.day ++ bytesOf 2 p.minute
    ++ [byteOf (flagByte [p.clockSet, p.uplinkFitted, p.request.isSome])] ++ bytesOf 2 p.mismatches

end Sys2Proof.Machine
end

