-- ==== Sys2Proof/Machine/Flags.lean ====
section
/-! DEFINITION. Machine/Flags.lean: the status bytes and records that the desk port clocks out: the port status
byte (R178), the result record (R44) and the answer of READ STATUS (R181). -/

namespace Sys2Proof.Machine

/-! ## Port status (R178) -/

def StationState.code : StationState → Nat
  | .starting => 0
  | .replaying => 1
  | .gathering => 2
  | .ready => 3
  | .fault => 4

/-- The port status byte as it is clocked out now. -/
def State.statusByte (s : State) : Byte :=
  byteOf (flagByte [s.port.ready, s.attention, s.port.errorLatch] + 8 * s.station.code)

/-! ## The result record (R44) -/

def LaneMode.code : LaneMode → Nat
  | .lend => 0
  | .ret => 1
  | .renew => 2
  | .inquire => 3

def Operation.code : Operation → Nat
  | .none => 0
  | .borrowerCheck => 1
  | .lend => 2
  | .ret => 3
  | .renew => 4
  | .inquire => 5
  | .block => 6
  | .lift => 7
  | .payment => 8
  | .command => 9
  | .label => 10

def ResultClass.code : ResultClass → Nat
  | .none => 0
  | .done => 1
  | .refused => 2
  | .failed => 3
  | .invalid => 4
  | .cancelled => 5

def Reason.code : Reason → Nat
  | .none => 0
  | .unknownBorrower => 1
  | .noSession => 2
  | .onLoan => 3
  | .onLoanSame => 4
  | .notForLoan => 5
  | .classNotAllowed => 6
  | .blocked => 7
  | .limit => 8
  | .cardExpired => 9
  | .noDueDay => 10
  | .cardExpiring => 11
  | .tooLate => 12
  | .closedToday => 13
  | .notOnLoan => 14
  | .notBorrowers => 15
  | .renewLimit => 16
  | .onHold => 17
  | .tableFull => 18
  | .notReady => 19
  | .noRoll => 20
  | .noClock => 21
  | .journalFull => 22
  | .stampsExhausted => 23
  | .memoryFault => 24
  | .lookupFault => 25
  | .lineBusy => 26
  | .fault => 27
  | .wrongMode => 28
  | .badKind => 29
  | .badCommand => 30
  | .nothingToCancel => 31
  | .notFound => 32

def ResultFlags.byte (f : ResultFlags) : Nat :=
  flagByte [f.warning, f.noSlip, f.notOnPad, f.holdTrapped, f.holdUnconfirmed, f.holdNotChecked]

def BlockSet.byte (b : BlockSet) : Nat := flagByte [b.lost, b.staff, b.fines, b.expired]

/-- Presence bits (byte 5). -/
def Result.presence (r : Result) : Nat :=
  flagByte [r.borrower.isSome, r.item.isSome, r.due.isSome, r.amount.isSome, r.balance.isSome, r.count.isSome,
    r.renewCount.isSome]

/-- The 36 bytes of the READ RESULT answer; an absent field's bytes are 0. -/
def Result.bytes (r : Result) : List Byte :=
  let due := r.due.getD (0, 0)
  let count := r.count.getD (0, 0)
  [byteOf (laneCode r.lane), byteOf r.operation.code, byteOf r.cls.code, byteOf r.reason.code,
    byteOf r.flags.byte, byteOf r.presence, byteOf r.mode.code, byteOf r.blocks.byte]
  ++ packNumber (r.borrower.getD 0) ++ packNumber (r.item.getD 0) ++ bytesOf 2 due.1 ++ bytesOf 2 due.2
  ++ bytesOf 4 (r.amount.getD 0) ++ bytesOfInt 4 (r.balance.getD 0) ++ bytesOfInt 2 count.1
  ++ [byteOf count.2, byteOf (r.renewCount.getD 0)]

/-! ## READ STATUS (R181) -/

def LaneState.code : LaneState → Nat
  | .closed => 0
  | .idle => 1
  | .checking => 2
  | .session => 3
  | .working => 4
  | .reporting => 5

/-- Bytes 8 and 9. -/
def LaneCtl.statusCode (c : LaneCtl) : Nat :=
  c.state.code + 16 * c.mode.code + 64 * c.slot.isSome.toNat + 128 * c.session.isSome.toNat

def PrinterState.code : PrinterState → Nat
  | .off => 0
  | .warming => 1
  | .idleWarm => 2
  | .printing => 3
  | .aligning => 4
  | .halted => 5
  | .fault => 6

def SenderState.code : SenderState → Nat
  | .idle => 0
  | .calling => 1
  | .settling => 2
  | .beginning => 3
  | .reading => 4
  | .sending => 5

def UploadOutcome.code : UploadOutcome → Nat
  | .none => 0
  | .complete => 1
  | .noGateway => 2
  | .incomplete => 3
  | .refused _ => 4
  | .fault => 5

def UploadOutcome.reason : UploadOutcome → Nat
  | .refused r => r
  | _ => 0

/-- Gateway entries whose state satisfies `p`; none are reported with no session open. -/
def State.gatewayEntries (s : State) (p : GatewayState → Bool) : Nat :=
  match s.upload.gateway with
  | none => 0
  | some g => g.entries.countP fun e => p e.state

/-- Byte 3. -/
def State.conditions (s : State) : Nat :=
  flagByte [s.clock.set, s.standing.incomplete, s.line.restateOwed, s.line.listenOnly, s.memory.faulted,
    s.settings.cycle.isSome, s.settings.lastFailed, s.settings.strap]

/-- The 37 bytes of the READ STATUS answer. -/
def State.statusBytes (s : State) : List Byte :=
  let x := s.upload.sender
  [byteOf s.station.code, byteOf s.number, byteOf s.edition, byteOf s.conditions]
  ++ bytesOf 2 s.clock.day ++ bytesOf 2 s.clock.minute
  ++ [byteOf s.laneA.statusCode, byteOf s.laneB.statusCode]
  ++ bytesOf 2 s.content ++ bytesOf 2 s.line.stamps
  ++ [byteOf (s.slips.queue.length + 16 * s.freeSlips), byteOf s.slips.printer.code,
      byteOf (s.reckoner.stagedCode + 4 * s.clock.armed.toNat),
      byteOf (x.state.code + 16 * x.outcome.code), byteOf x.outcome.reason, byteOf (x.gateway.getD 255)]
  ++ bytesOf 2 x.receipted
  ++ [byteOf s.upload.gateway.isSome.toNat, byteOf (s.gatewayEntries GatewayState.isDone),
      byteOf (s.gatewayEntries GatewayState.isGone), byteOf s.upload.lastReject]
  ++ bytesOf 2 s.port.pending.toNat ++ bytesOf 2 s.port.enabled.toNat
  ++ bytesOf 2 s.line.badFrames ++ [byteOf s.line.collisions]
  ++ bytesOf 2 s.line.ownFrames ++ bytesOf 2 s.clock.rollRefusals

end Sys2Proof.Machine
end

