-- ==== Sys2Proof/Machine/Labels.lean ====
section
/-! DEFINITION. Machine/Labels.lean: the wand front ends and the label decoder (chapter 1). -/

namespace Sys2Proof.Machine

/-! ## Front ends (R3 to R8) -/

def State.mapWand (s : State) (w : Wand) (f : FrontEnd → FrontEnd) : State := s.setWand w (f (s.wand w))

/-- A scan is over without a decode: back to QUIET with the condition given. -/
def FrontEnd.quietWith (fe : FrontEnd) (met : Bool) : FrontEnd := { fe with state := .quiet, met := met, buffer := [] }

/-- The element timer reaches the quiet-zone count on a space (R3, R5, R8). A buffer handed over while the
decoder is free is taken at once (R10). In DECODING the condition is left as it stands: MET from the
hand-over, or UNMET once a bar has begun, and a space that reached the count there does not reach it again
after the return (R8; assumption 32). -/
def State.quietZone (s : State) (w : Wand) : State :=
  let fe := { s.wand w with reached := true }
  match fe.state with
  | .quiet => s.setWand w { fe with met := true }
  | .decoding => s.setWand w fe
  | .capturing =>
    if fe.buffer.length < 7 then s.setWand w (fe.quietWith true)
    else
      let s := s.setWand w { fe with state := .decoding, met := true }
      { s with decoding := s.decoding.or (some w) }

/-- An element of `count` ticks ends in CAPTURING (R4, R6, R7). -/
def State.elementEnds (s : State) (w : Wand) (count : Nat) : State :=
  let fe := s.wand w
  if count < 3 then
    let s := s.setWand w (fe.quietWith false)
    if 7 ≤ fe.buffer.length then s.tone w .error else s
  else if Config.elementCapacity ≤ fe.buffer.length then (s.setWand w (fe.quietWith false)).tone w .error
  else s.setWand w { fe with buffer := fe.buffer ++ [count] }

/-- A bar begins (R3, R8). -/
def FrontEnd.barBegins (fe : FrontEnd) : FrontEnd :=
  match fe.state with
  | .quiet => if fe.met then { fe with state := .capturing, met := false, buffer := [] } else fe
  | .decoding => { fe with met := false }
  | .capturing => fe

def Level.other : Level → Level
  | .bar => .space
  | .space => .bar

/-- The other level is accepted `ticks` after the last change (R1). A space that has lasted the quiet-zone
count has had the effect of reaching it, now if its event has not come (assumption 32). -/
def State.levelChanges (s : State) (w : Wand) (ticks : Nat) : State :=
  let level := (s.wand w).level
  let count := min ticks Config.saturation
  let owed := level = .space ∧ s.settings.inForce.quietZone ≤ count ∧ (s.wand w).reached = false
  let s := if owed then s.quietZone w else s
  let s := s.mapWand w fun fe => { fe with level := Level.other level, reached := false }
  let s := if (s.wand w).state = .capturing then s.elementEnds w count else s
  match level with
  | .bar => s
  | .space => if (s.wand w).state = .capturing then s else s.mapWand w FrontEnd.barBegins

/-! ## Decoding a buffer (R10 to R13) -/

/-- Faults of a decode (R16). -/
inductive DecodeFault where
  | length
  | frame
  | badCharacter
  | badRatio
  | gap
  | check
  deriving DecidableEq, Repr

/-- Insert into a list in descending order. -/
def insertDesc (x : Nat) : List Nat → List Nat
  | [] => [x]
  | y :: ys => if y ≤ x then x :: y :: ys else y :: insertDesc x ys

def sortDesc (xs : List Nat) : List Nat := xs.foldr insertDesc []

/-- Element i of a buffer, counted from 1. -/
def element (counts : List Nat) (i : Nat) : Nat := (counts[i - 1]?).getD 0

/-- The five counts of character k, counted from 1 (section 1.5). -/
def characterCounts (counts : List Nat) (k : Nat) : List Nat :=
  (List.range 5).map fun j => element counts (6 * k - 1 + j)

/-- Smaller wide count and largest narrow count of a character (R11, step 1). -/
def wideNarrow (five : List Nat) : Nat × Nat :=
  let d := sortDesc five
  ((d[1]?).getD 0, (d[2]?).getD 0)

/-- The threshold of a character (R11, step 3). -/
def threshold (five : List Nat) : Nat :=
  let (wide, narrow) := wideNarrow five
  (wide + narrow + 1) / 2

/-- The digit of two wide positions, counted 1 to 5 (section 1.5). -/
def digitOf (positions : List Nat) : Nat :=
  let table := [[1, 2], [1, 3], [1, 4], [1, 5], [2, 3], [2, 4], [2, 5], [3, 4], [3, 5], [4, 5]]
  (table.findIdx? (· == positions)).getD 0

/-- One character with the gap that follows it (R11). -/
def decodeCharacter (ratio : Nat) (five : List Nat) (gap : Nat) : Except DecodeFault Nat :=
  let (wide, narrow) := wideNarrow five
  if wide = narrow then .error .badCharacter
  else if 8 * wide < ratio * narrow then .error .badRatio
  else if threshold five ≤ gap then .error .gap
  else .ok (digitOf ((List.range 5).filterMap fun j => if narrow < (five[j]?).getD 0 then some (j + 1) else none))

/-- Characters k, k+1, ... of a buffer, `n` of them. -/
def decodeCharacters (ratio : Nat) (counts : List Nat) : Nat → Nat → Except DecodeFault (List Nat)
  | 0, _ => .ok []
  | n + 1, k =>
    match decodeCharacter ratio (characterCounts counts k) (element counts (6 * k + 4)) with
    | .error f => .error f
    | .ok d =>
      match decodeCharacters ratio counts n (k + 1) with
      | .error f => .error f
      | .ok ds => .ok (d :: ds)

/-- Three elements from i on against a threshold, true for wide. -/
def pattern (counts : List Nat) (i t : Nat) : List Bool :=
  (List.range 3).map fun j => decide (t ≤ element counts (i + j))

/-- A buffer in forward order with `n` characters (R11 to R13). -/
def decodeForward (ratio n : Nat) (counts : List Nat) : Except DecodeFault (List Nat) :=
  match decodeCharacters ratio counts n 1 with
  | .error f => .error f
  | .ok ds =>
    let start := pattern counts 1 (threshold (characterCounts counts 1))
    let stop := pattern counts (counts.length - 2) (threshold (characterCounts counts n))
    if start ≠ [true, false, false] ∨ stop ≠ [true, true, false] then .error .frame
    else if checkHolds ds then .ok ds else .error .check

/-- Number of digits of a buffer of n counts (R10). -/
def digitsOfLength : Nat → Option Nat
  | 43 => some 6
  | 91 => some 14
  | _ => none

/-- A buffer of counts (R10 to R13). -/
def decodeBuffer (ratio : Nat) (counts : List Nat) : Except DecodeFault (List Nat) :=
  match digitsOfLength counts.length with
  | none => .error .length
  | some n =>
    let lead := pattern counts 1 (threshold (characterCounts counts 1))
    if lead = [true, false, false] then decodeForward ratio n counts
    else if lead = [false, true, true] then decodeForward ratio n counts.reverse
    else .error .frame

/-! ## Read agreement, acceptance and routing (R15 to R17) -/

def State.agreementOf (s : State) : Wand → Nat
  | .w0 => s.settings.inForce.agreement0
  | .w1 => s.settings.inForce.agreement1

/-- The lane a wand feeds (R17). -/
def State.laneFor (s : State) (w : Wand) : LaneId :=
  match w with
  | .w0 => .a
  | .w1 => if s.oneLane then .a else .b

/-- An accepted label: the good-read beep, and the offer (R16). -/
def State.acceptLabel (s : State) (w : Wand) (ds : List Nat) : State :=
  (s.tone w .goodRead).offer (s.laneFor w) (offerOf (.wand w) ds)

/-- A decoded label on a wand, under its read-agreement setting (R15). -/
def State.readLabel (s : State) (w : Wand) (ds : List Nat) : State :=
  if s.agreementOf w = 2 then
    if (s.wand w).agreement = some ds then
      (s.mapWand w fun fe => { fe with agreement := none, agreementTimer := none }).acceptLabel w ds
    else
      (s.mapWand w fun fe => { fe with
        agreement := some ds, agreementTimer := some Config.agreementMs }).tone w .tick
  else s.acceptLabel w ds

def otherWand : Wand → Wand
  | .w0 => .w1
  | .w1 => .w0

/-- The buffer goes back: the front end is QUIET, and a waiting buffer of the other wand is taken (R8, R10). -/
def State.returnBuffer (s : State) (w : Wand) : State :=
  let s := s.mapWand w fun fe => fe.quietWith fe.met
  { s with decoding := if (s.wand (otherWand w)).state = .decoding then some (otherWand w) else none }

/-- The decoder completes its work on a buffer (R16). -/
def State.decodeDone (s : State) : State :=
  match s.decoding with
  | none => s
  | some w =>
    let s' := s.returnBuffer w
    match decodeBuffer s.settings.inForce.ratio (s.wand w).buffer with
    | .error _ => s'.tone w .error
    | .ok ds => s'.readLabel w ds

end Sys2Proof.Machine
end

