-- ==== Sys2Proof/Machine/Start.lean ====
section
/-! DEFINITION. Machine/Start.lean: resets (R18, R45, R86, R105, R127, R143, R158, R177, R189), the writes that a
reset cuts off, the settings read of STARTING (R2, R52, R185, R187) and the header check (R130). -/

namespace Sys2Proof.Machine

/-! ## Writes cut off by a reset (R130, R143, R186) -/

/-- The header writes of an operation, in order. -/
def State.opFields (s : State) (op : MemOp) : List (HeaderField × Nat) :=
  let c := s.memory.copies
  match op with
  | .rollBeginWrite => [(.edition, 0)]
  | .editionWrite edition roll loans holds => s.editionFields edition roll loans holds
  | .takeSnapshot => [(.snapshot, c.head)]
  | .moveMarks tail send =>
    if c.tail ≤ tail ∧ tail ≤ send ∧ send ≤ c.snapshot then [(.send, send), (.tail, tail)] else []
  | .replayHead => [(.head, c.head - 1)]
  | .append r => [(.head, r.number + 1)]
  | .freshHeader =>
    [(.edition, 0), (.rollCount, 0), (.loansCount, 0), (.holdCount, 0), (.tail, 0), (.send, 0), (.snapshot, 0),
      (.head, 0), (.editionStart, 0)]
  | _ => []

/-- The memory operation in progress leaves the memory as far as it got. -/
def State.cutMemory (s : State) (c : Cut) : State :=
  match s.memory.busy with
  | none => s
  | some r =>
    let fields := s.opFields r.op
    let s := s.writeFields fields c.memWrites (decide (0 < c.memBytes))
    let past := c.memWrites - fields.length
    match r.op with
    | .append j =>
      if c.memWrites < fields.length then s
      else s.writeBytes (slotAddress j.number) (if past = 0 then j.bytes.take c.memBytes else j.bytes)
    | .chunkWrite list first entries =>
      s.writeBytes (list.base + 16 * first)
        ((chunkBytes list (entries.take c.memWrites)) ++ (chunkBytes list ((entries.drop c.memWrites).take 1)).take c.memBytes)
    | .freshHeader =>
      if 0 < past then { s with attached := { s.attached with header := { s.attached.header with formatted := true } } }
      else s
    | _ => s

/-- A cut in which no image's write has taken effect: the image being written is torn, the others stand. -/
def unfinishedCut (c : Cut) : Cut :=
  { c with imageWrites := 0, imageTorn := decide (0 < c.imageWrites) || c.imageTorn }

/-- One image's write of a cut settings cycle: whole, cut off, or not begun. -/
def cutImage {α : Type} (i : Image α) (a : α) (place : Nat) (c : Cut) : Image α :=
  if place < c.imageWrites then i.write a true
  else if place = c.imageWrites ∧ c.imageTorn = true then i.write a false
  else i

/-- A settings write cycle running is cut off (R186). The images are written in the order station, active,
staged. No image that an activation's cycle has written counts until the cycle completes, so that a reset before
starts with the former active set and the former staged set (R52). -/
def State.cutSettings (s : State) (c : Cut) : State :=
  match s.settings.cycle with
  | none => s
  | some w =>
    let c := if w.active.isSome then unfinishedCut c else c
    let st := match w.station with
      | some a => cutImage s.store.station a 0 c
      | none => s.store.station
    let n := w.station.isSome.toNat
    let ac := match w.active with
      | some a => cutImage s.store.active a n c
      | none => s.store.active
    { s with store := ⟨st, ac, cutImage s.store.staged w.staged (n + w.active.isSome.toNat) c⟩ }

/-- A reset after ROLL BEGIN starts with edition 0 whether or not its header write completed: waiting, cut off,
failed or dropped by a memory fault (R134, R142, R143), where R130 gives other fields their former value
(assumption 45). -/
def State.keepRollBegin (s : State) : State :=
  if s.memory.beginUnwritten then s.writeField .edition 0 true else s

/-! ## Resets -/

/-- Every block at its values after a reset. A warm restart keeps the clock, the faulted state and the peers'
edition-mismatch counts (R127, R142, R177); both keep the attached memory and the settings store. -/
def State.resetBlocks (s : State) (cold : Bool) (x : ResetInputs) : State :=
  let s := ((s.cutMemory x.cut).keepRollBegin).cutSettings x.cut
  { State.reset with
    pending := s.pending
    attached := s.attached
    store := s.store
    races := s.races
    wand0 := .reset x.level0
    wand1 := .reset x.level1
    clock := if cold then .reset else { s.clock with rollMark := false, rollRefusals := 0 }
    memory := if cold then .reset else { MemCtl.reset with faulted := s.memory.faulted }
    line := if cold then .reset
      else { LineCtl.reset with peers := s.line.peers.map fun p => { Peer.reset with mismatches := p.mismatches } } }

/-- The station settings in force: stored values outside their range taken as the rules give (R2, R27, R82,
R152). -/
def Settings.taken (x : Settings) : Settings :=
  { x with
    quietZone := max 500 x.quietZone
    ratio := clampNat 12 24 x.ratio
    agreement0 := if x.agreement0 = 2 then 2 else 1
    agreement1 := if x.agreement1 = 2 then 2 else 1
    idleSeconds := clampNat 30 600 x.idleSeconds
    reducedLimit := min 99 x.reducedLimit
    unloadSeconds := clampNat 1 60 x.unloadSeconds }

/-- The settings read of STARTING: the station image, the strap and the rule images; Ready is set and the
header check begins (R52, R185, R187). A controller kept faulted by a warm restart makes no access, and the
station goes to FAULT. -/
def State.settingsRead (s : State) (strap : Bool) : State :=
  let stored := s.store.station.current.getD .default
  let s := { s with
    settings := { s.settings with draft := stored, inForce := Settings.taken stored, strap := strap }
    reckoner :=
      { active := s.store.active.current.getD .default, staged := s.store.staged.current.getD none, recorded := true }
    port := { s.port with ready := true } }
  if s.memory.faulted then s.stationFault
  else s.setMemory { s.memory with busy := some ⟨.headerRead, false⟩ }

/-- A start: every block reset, then the settings read (R187, R188). -/
def State.start (s : State) (cold : Bool) (x : ResetInputs) : State := (s.resetBlocks cold x).settingsRead x.strap

/-! ## The header check (R130) -/

/-- The header has been read: blank memory gets a fresh header, a good one starts replay, and a header fault
faults the controller. -/
def State.headerDone (s : State) : State :=
  match s.memory.busy with
  | some ⟨.headerRead, _⟩ =>
    if !s.attached.header.formatted then s.setMemory { s.memory with busy := some ⟨.freshHeader, false⟩ }
    else match s.attached.header.copies? with
      | some c => ((s.setMemory { s.memory with copies := c, busy := none }).startReplay).grant
      | none => s.memFault
  | _ => s

/-- The header has been read, after the settings read if the station has not made it. -/
def State.headerRead (s : State) : State :=
  (if s.port.ready then s else s.settingsRead s.settings.strap).headerDone

/-- The fresh header has been written, the format mark last as its tenth write. -/
def State.freshHeaderEnd (s : State) (e : HeaderEnd) : State :=
  match s.memory.busy with
  | some ⟨.freshHeader, _⟩ =>
    let fields := s.opFields .freshHeader
    let n := HeaderEnd.good e (fields.length + 1)
    let s := s.writeFields fields n true
    if n = fields.length + 1 then
      let s := { s with attached := { s.attached with header := { s.attached.header with formatted := true } } }
      ((s.freePort).startReplay).grant
    else s.memFault
  | _ => s

end Sys2Proof.Machine
end

