-- ==== Sys2Proof/Machine/Port.lean ====
section
/-! DEFINITION. Machine/Port.lean: the desk port's frames and answers (R178 to R180), and the commands that the
port's own chapter and the loading, query and settings rules give it. -/

namespace Sys2Proof.Machine

/-! ## Take codes and replies (R180) -/

def accepted : Byte := 0x00
def busyCode : Byte := 0x01
def tooLate : Byte := 0x02
def refusedFor (reason : Nat) : Byte := byteOf (0x80 + reason)

/-- What a command answers: take code, answer bytes, and the clearing effect of the last answer byte. -/
structure Reply where
  code : Byte
  bytes : List Byte
  effect : ClearEffect
  deriving DecidableEq, Repr

def acceptedWith (bytes : List Byte) : Reply := ⟨accepted, bytes, .none⟩
def ok : Reply := ⟨accepted, [], .none⟩
/-- A take code other than ACCEPTED with `n` answer bytes of 0. -/
def turnedAway (code : Byte) (n : Nat) : Reply := ⟨code, bytesOf n 0, .none⟩
def refused (reason n : Nat) : Reply := turnedAway (refusedFor reason) n
def busyReply (n : Nat) : Reply := turnedAway busyCode n

/-- The port's reason code of a station-level refusal (R28, R180). -/
def stationReason : Reason → Nat
  | .fault => 2
  | .noRoll => 3
  | .noClock => 4
  | .journalFull => 5
  | .stampsExhausted => 6
  | _ => 1

/-! ## Frames (R178, R179) -/

def State.mapPort (s : State) (f : Port → Port) : State := { s with port := f s.port }

/-- A port status byte is clocked out, which clears the error latch it reports (R179). -/
def State.reportStatus (s : State) : State :=
  let b := s.statusByte
  s.mapPort fun p => { p with status := b, errorLatch := false }

/-- A command byte can be taken now: in a frame just opened, or after the last answer byte of a command. -/
def State.takesCommand (s : State) : Bool :=
  match s.port.frame with
  | .opened => true
  | .further => true
  | .answering .none => true
  | .answering _ => false
  | .closed => false
  | .error => false
  | .restarting => false

/-- The status byte of the command byte: at select for the first command of a frame, fresh for each further
one (R178). -/
def State.commandStatus (s : State) : State := if s.port.frame = .opened then s else s.reportStatus

def State.answer (s : State) (r : Reply) : State :=
  s.mapPort fun p => { p with answer := r.code :: r.bytes, frame := .answering r.effect }

/-- A command with `n` answer bytes is taken: BUSY while Ready is clear, else as its rule gives. -/
def State.take (s : State) (n : Nat) (f : State → State × Reply) : State :=
  if s.takesCommand then
    let s := s.commandStatus
    if s.port.ready then
      let (s, r) := f s
      s.answer r
    else s.answer (busyReply n)
  else s

/-- A settings command: BUSY while a settings write cycle runs (section 10.2), with the answer bytes `bytes`. -/
def settingsCommand (bytes : State → List Byte) (f : State → State × Reply) (s : State) : State × Reply :=
  if s.settings.cycle.isSome then (s, ⟨busyCode, bytes s, .none⟩) else f s

/-- A command that names its lane (R180). -/
def withLane (b : Byte) (n : Nat) (f : LaneId → State → State × Reply) (s : State) : State × Reply :=
  match laneOfByte b with
  | none => (s, refused 8 n)
  | some l => f l s

/-- A command that names a borrower or item by packed digits (R180). -/
def withNumber (x : BitVec 48) (n : Nat) (f : Nat → State → State × Reply) (s : State) : State × Reply :=
  match packedNumber x with
  | none => (s, refused 9 n)
  | some k => f k s

/-- The answer for a CLOSED lane (R20, R24, R27). DESIGN CHOICE (assumption 50): lane B that ONE_LANE excludes, at a
station that is not READY, meets both reasons, and NOT_READY is answered. -/
def State.closedReply (s : State) (n : Nat) : Reply := if s.station != .ready then refused 1 n else refused 7 n

/-- Select goes active: a frame opens and the port status goes out with its command byte. -/
def State.openFrame (s : State) : State :=
  if s.port.frame = .closed then (s.reportStatus).mapPort fun p => { p with frame := .opened } else s

/-- A command byte outside the command table (R179). -/
def State.badCommand (s : State) : State :=
  if s.takesCommand then (s.commandStatus).mapPort fun p => { p with frame := .error, errorLatch := true, answer := [] }
  else s

/-- The read of a lane's result is made (R44). -/
def State.resultRead (s : State) (l : LaneId) : State :=
  if (s.lane l).unread then
    let s := s.clearCause (causeResult l)
    let s := s.mapLane l fun c => { c with
      unread := false
      state := if c.state = .reporting then (if c.session.isSome then .session else .idle) else c.state }
    s.takeSlot l
  else s

/-- The clearing effect of the last answer byte (R178). -/
def State.clearing (s : State) (e : ClearEffect) : State :=
  match e with
  | .none => s
  | .result l => s.resultRead l
  | .attention k => s.clearCause k
  | .query => (s.setQuery { s.memory.query with buffer := none }).nextQuery

def State.answered (s : State) : State :=
  match s.port.frame with
  | .answering e => State.clearing (s.mapPort fun p => { p with frame := .further }) e
  | _ => s

/-- Select is released (R179, R188): short when no command was taken, or with a further one begun. -/
def State.release (s : State) (begun : Bool) (x : ResetInputs) : State :=
  let short := match s.port.frame with
    | .opened => true
    | .further => begun
    | .answering .none => begun
    | _ => false
  match s.port.frame with
  | .restarting => s.start false x
  | _ => s.mapPort fun p => { p with frame := .closed, errorLatch := p.errorLatch || short }

/-! ## Lane commands (chapter 2) -/

/-- A session ends by command; a lane that so enters IDLE takes its slot's offer (R22, R27). -/
def State.endSessionNow (s : State) (l : LaneId) : State := (s.endSession l).takeSlot l

def laneModeCommand (l : LaneId) (mode : Byte) (s : State) : State × Reply :=
  match modeOfByte mode with
  | none => (s, refused 9 0)
  | some m =>
    match (s.lane l).state with
    | .closed => (s, s.closedReply 0)
    | .checking => (s, busyReply 0)
    | .working => (s, busyReply 0)
    | _ => ((s.changeMode l m).takeSlot l, ok)

/-- What KEYED ENTRY answers for a valid entry, by the lane state before the offer (R24). -/
def State.keyedCode (s : State) (l : LaneId) (o : Offer) : Reply :=
  let c := s.lane l
  match c.state with
  | .closed => s.closedReply 0
  | .idle => ok
  | .session => ok
  | _ =>
    if o.kind = .deskCommand cancelCode then (if s.cancelTooLate l then turnedAway tooLate 0 else ok)
    else if c.slot.isSome then busyReply 0 else ok

def keyedEntryCommand (l : LaneId) (count : Byte) (digits : BitVec 56) (s : State) : State × Reply :=
  let n := count.toNat
  let ds := (halfBytes 14 digits.toNat).take n
  if (n = 6 ∨ n = 14) ∧ allDecimal ds = true ∧ checkHolds ds = true then
    let o := offerOf .keyed ds
    (s.offer l o, s.keyedCode l o)
  else (s, refused 9 0)

def endSessionCommand (l : LaneId) (s : State) : State × Reply :=
  match (s.lane l).state with
  | .closed => (s, s.closedReply 0)
  | .checking => (s.mapLane l fun c => { c with endPending := true }, ok)
  | .working => (s.mapLane l fun c => { c with endPending := true }, ok)
  | _ => (s.endSessionNow l, ok)

def cancelCommand (l : LaneId) (s : State) : State × Reply :=
  match (s.lane l).state with
  | .closed => (s, s.closedReply 0)
  | .idle => (s, refused 11 0)
  | .session => (s, refused 11 0)
  | _ => if s.cancelTooLate l then (s, turnedAway tooLate 0) else (s.cancelWork l, ok)

def readResultCommand (l : LaneId) (s : State) : State × Reply :=
  if (s.lane l).unread then (s, ⟨accepted, (s.lane l).result.bytes, .result l⟩) else (s, refused 12 36)

/-- The lane that a borrower operation takes (R40, step 3). -/
def State.operationLane (s : State) : Option LaneId :=
  if s.laneA.free then some .a else if s.laneB.free then some .b else none

/-- A borrower operation after its parameters: station conditions, then the choice of lane (R40). -/
def State.operationCommand (s : State) (t : Txn) : State × Reply :=
  match s.stationRefusal ⟨true, true⟩ with
  | some why => (s, refused (stationReason why) 0)
  | none =>
    match s.operationLane with
    | none => (s, busyReply 0)
    | some l => (s.startOperation l t, ok)

def blockCommand (op : Operation) (reason : Byte) (borrower : Nat) (s : State) : State × Reply :=
  match reasonOfByte reason with
  | none => (s, refused 9 0)
  | some r =>
    s.operationCommand { Txn.start op .borrower .port with borrower := some borrower, blockReason := r }

def paymentCommand (amount borrower : Nat) (s : State) : State × Reply :=
  if amount < 1 ∨ 99999 < amount then (s, refused 10 0)
  else s.operationCommand { Txn.start .payment .borrower .port with borrower := some borrower, amount := amount }

/-! ## Loading (R134 to R136) -/

/-- TRAPPED notices that the purge of ROLL BEGIN takes from U, by hold (R150). -/
def State.purgedTraps (s : State) : List (Nat × Nat) :=
  (s.waitingPart .u).filterMap fun n =>
    match n.body with
    | .trap t _ .trapped => some (t.title, t.rank)
    | _ => none

/-- A taken ROLL BEGIN: edition 0, the line purged, LOADING, and the header write asked for (R126, R134). -/
def State.beginLoad (s : State) : State :=
  let holds := s.purgedTraps
  let s := holds.foldl State.holdAsserted s.purgeLine
  let s := s.setCopy .edition 0
  (s.setMemory { s.memory with
    load := { LoadCtl.reset with loading := true }, beginUnwritten := true }).ask .rollBeginWrite

def rollBeginCommand (s : State) : State × Reply :=
  if s.station = .starting ∨ s.station = .replaying then (s, refused 1 0)
  else if s.memory.faulted then (s, refused 2 0)
  else if !s.laneFree .a || !s.laneFree .b then (s, busyReply 0)
  else if s.loadingBusy then (s, busyReply 0)
  else if s.memory.copies.head ≠ s.memory.copies.tail ∨ s.memory.requested ≠ 0 then (s, refused 16 0)
  else (s.beginLoad, ok)

def LoadCtl.list (c : LoadCtl) : ListId → LoadList
  | .roll => c.roll
  | .loans => c.loans
  | .holds => c.holds

def LoadCtl.setList (c : LoadCtl) (l : ListId) (x : LoadList) : LoadCtl :=
  match l with
  | .roll => { c with roll := x }
  | .loans => { c with loans := x }
  | .holds => { c with holds := x }

/-- One entry of a chunk compared with the last key (R135). -/
def LoadList.addKey (x : LoadList) (key : Nat × Nat) : LoadList :=
  let rises := match x.lastKey with
    | none => true
    | some k => keyLt k key
  ⟨x.next + 1, some key, if rises then x.order else x.order.or (some x.next)⟩

def chunkCommand (list : Byte) (first : Nat) (count : Byte) (given : List (List Byte)) (s : State) : State × Reply :=
  let load := s.memory.load
  let n := count.toNat
  if !load.loading then (s, refused 17 4)
  else if s.loadingBusy then (s, busyReply 4)
  else match ListId.ofCode list.toNat with
    | none => (s, refused 9 4)
    | some l =>
      let x := load.list l
      let entries := (given ++ List.replicate 4 []).take n
      if n < 1 ∨ 4 < n then (s, refused 9 4)
      else if first ≠ x.next then (s, refused 18 4)
      else if l.capacity < first + n then (s, refused 19 4)
      else if !entries.all l.inRange then (s, refused 9 4)
      else
        let x := (entries.map l.key).foldl LoadList.addKey x
        ((s.setMemory { s.memory with load := load.setList l x }).ask (.chunkWrite l first entries),
          acceptedWith (bytesOf 4 x.next))

/-- A refused ROLL END names a list and an index (R136). -/
def refusedAt (reason list index : Nat) : Reply := ⟨refusedFor reason, byteOf list :: bytesOf 4 index, .none⟩

def rollEndCommand (edition roll loans holds : Nat) (s : State) : State × Reply :=
  let c := s.memory.load
  if !c.loading then (s, refused 17 5)
  else if s.loadingBusy then (s, busyReply 5)
  else if edition = 0 then (s, refusedAt 20 0 0)
  else if roll ≠ c.roll.next then (s, refusedAt 21 1 c.roll.next)
  else if loans ≠ c.loans.next then (s, refusedAt 21 2 c.loans.next)
  else if holds ≠ c.holds.next then (s, refusedAt 21 3 c.holds.next)
  else match c.roll.order, c.loans.order, c.holds.order with
    | some i, _, _ => (s, refusedAt 22 1 i)
    | none, some i, _ => (s, refusedAt 22 2 i)
    | none, none, some i => (s, refusedAt 22 3 i)
    | none, none, none =>
      ((s.setMemory { s.memory with load := { c with loading := false } }).ask (.editionWrite edition roll loans holds),
        acceptedWith (bytesOf 5 0))

/-! ## Journal query (R139, R140) -/

def queryFieldOf : Nat → Option QueryField
  | 0 => some .borrower
  | 1 => some .item
  | 2 => some .number
  | _ => none

/-- The answer of JOURNAL QUERY, and the query it starts (R139). DESIGN CHOICE (assumption 61): the record number stands
in bytes 3 to 6, and byte 2, the most significant byte of the value, is ignored in a record-number query. -/
def journalQueryCommand (field comparison : Byte) (value : BitVec 40) (step : Byte) (s : State) : State × Reply :=
  match queryFieldOf field.toNat with
  | none => (s, refused 9 4)
  | some f =>
    if 1 < comparison.toNat then (s, refused 9 4)
    else if s.station = .starting ∨ s.station = .replaying then (s, refused 1 4)
    else if s.memory.faulted then (s, refused 2 4)
    else if step = 0 ∨ (comparison = 1 ∧ f ≠ .number) then (s, refused 23 4)
    else
      let c := s.memory.copies
      let q : Query :=
        { state := .scanning, field := f, atOrAbove := comparison == 1
          value := if f = .number then value.toNat % 2 ^ 32 else value.toNat
          step := step.toNat, position := c.tail, finish := c.head, found := 0, buffer := none }
      (((s.detachAsked MemOp.isQuery).setQuery q).nextQuery, acceptedWith (bytesOf 4 c.head))

def queryNextCommand (s : State) : State × Reply :=
  let q := s.memory.query
  match q.state, q.buffer with
  | .none, _ => (s, acceptedWith (bytesOf 33 0))
  | .scanning, some bs => (s, ⟨accepted, 1 :: bytesAt bs 0 32, .query⟩)
  | .scanning, none => (s, busyReply 33)
  | .ended, some bs => (s, ⟨accepted, 1 :: bytesAt bs 0 32, .query⟩)
  | .ended, none => (s, acceptedWith (2 :: bytesOf 32 0))

/-! ## Clock, upload and line -/

def setClockCommand (day minute second : Nat) (s : State) : State × Reply :=
  if 1439 < minute ∨ 59 < second then (s, refused 24 0)
  else if s.clock.set = true ∧ day < s.clock.day then (s, refused 24 0)
  else (s.takeClock day minute second, ok)

def uploadNowCommand (s : State) : State × Reply :=
  if s.station ≠ .ready ∧ s.station ≠ .gathering then (s, refused 1 0)
  else if s.memory.faulted then (s, refused 2 0)
  else if s.upload.sender.state ≠ .idle ∨ s.upload.gateway.isSome = true then (s, busyReply 0)
  else (s.makeCall, ok)

/-- RESUME LINE: a station that leaves listen-only contends at the next idle (R115). -/
def resumeLineCommand (s : State) : State × Reply :=
  (s.mapLine fun x => { x with
    collisions := 0, listenOnly := false, awaitIdle := x.awaitIdle || x.listenOnly }, ok)

def readPeerCommand (station : Nat) (s : State) : State × Reply :=
  if 15 < station ∨ station = s.number then (s, refused 9 11) else (s, acceptedWith (s.peer station).view)

/-! ## Status, attention and inquiries -/

def identifyCommand (s : State) : State × Reply :=
  (s, acceptedWith (bytesOf 2 3140 ++ [byteOf s.number, byteOf s.oneLane.toNat, byteOf s.settings.strap.toNat, 1]))

def readStatusCommand (s : State) : State × Reply := (s, acceptedWith s.statusBytes)

/-- The highest-priority cause that is pending and enabled, or 0 (R183). -/
def State.topCause (s : State) : Nat :=
  ((List.range 11).find? fun i => (s.port.pending &&& s.port.enabled).getLsbD i).elim 0 (· + 1)

def takeAttentionCommand (s : State) : State × Reply :=
  let k := s.topCause
  (s, ⟨accepted, [byteOf k], if k = 0 then .none else .attention k⟩)

def setEnablesCommand (enables : BitVec 16) (s : State) : State × Reply :=
  (s.mapPort fun p => { p with enabled := enables.setWidth 11 }, ok)

def inquireBorrowerCommand (b : Nat) (s : State) : State × Reply := (s, acceptedWith (s.borrowerView b))

def inquireItemCommand (n : Nat) (s : State) : State × Reply := (s, acceptedWith (s.itemView n))

/-! ## Rules and settings (R47 to R52, R185, R186, R188) -/

def State.stagedByte (s : State) : List Byte := [byteOf s.reckoner.stagedCode]

def State.setReckoner (s : State) (r : Reckoner) : State := { s with reckoner := r }

/-- A STAGE RULE part that passes its checks is staged; one that fails is BAD_RULE (R47). -/
def stagePart (f : RuleSet → Option RuleSet) (s : State) : State × Reply :=
  match f s.reckoner.base with
  | none => (s, ⟨refusedFor 13, s.stagedByte, .none⟩)
  | some rs =>
    let s := s.setReckoner (s.reckoner.stage rs)
    (s, acceptedWith s.stagedByte)

/-- STAGE RULE, with the BUSY answer of a running cycle; the answer byte is the staged state (R47). -/
def stageCommand (f : State → State × Reply) : State → State × Reply := settingsCommand State.stagedByte f

def discardStaged (s : State) : State × Reply :=
  let s := s.setReckoner { s.reckoner with staged := none, recorded := false }
  (s, acceptedWith s.stagedByte)

def holidayAdd (day : Nat) (s : State) : State × Reply :=
  let held := s.reckoner.base.holidays
  if held.contains day || decide (held.length < Config.holidayCapacity) then
    stagePart (fun rs => some { rs with holidays := insertDay day rs.holidays }) s
  else (s, ⟨refusedFor 14, s.stagedByte, .none⟩)

def applyNowCommand (s : State) : State × Reply :=
  let still := fun (c : LaneCtl) => c.state == .idle || c.state == .closed
  if !still s.laneA || !still s.laneB then (s, busyReply 0)
  else if s.reckoner.staged.isNone then (s, refused 15 0)
  else (s.activate.testOneShot, ok)

/-- Value of a setting by number (section 10.4). -/
def Settings.value (x : Settings) : Nat → Nat
  | 0 => x.stationNumber.val
  | 1 => x.lanePlan
  | 2 => x.prescaler.val
  | 3 => x.quietZone
  | 4 => x.ratio
  | 5 => x.agreement0
  | 6 => x.agreement1
  | 7 => x.idleSeconds
  | 8 => x.reducedLimit
  | _ => x.unloadSeconds

/-- The settings with one value replaced; none for a number outside 0..9 or a value out of range (R185). -/
def Settings.withValue (x : Settings) (n v : Nat) : Option Settings :=
  match n with
  | 0 => if h : v < 16 then some { x with stationNumber := ⟨v, h⟩ } else none
  | 1 => if v ≤ 2 then some { x with lanePlan := v } else none
  | 2 => if h : v < 4 then some { x with prescaler := ⟨v, h⟩ } else none
  | 3 => if 500 ≤ v ∧ v ≤ 65535 then some { x with quietZone := v } else none
  | 4 => if 12 ≤ v ∧ v ≤ 24 then some { x with ratio := v } else none
  | 5 => if 1 ≤ v ∧ v ≤ 2 then some { x with agreement0 := v } else none
  | 6 => if 1 ≤ v ∧ v ≤ 2 then some { x with agreement1 := v } else none
  | 7 => if 30 ≤ v ∧ v ≤ 600 then some { x with idleSeconds := v } else none
  | 8 => if v ≤ 99 then some { x with reducedLimit := v } else none
  | 9 => if 1 ≤ v ∧ v ≤ 60 then some { x with unloadSeconds := v } else none
  | _ => none

def readSettingCommand (n : Nat) (s : State) : State × Reply :=
  if n < 10 then
    (s, acceptedWith (bytesOf 2 (Settings.value s.settings.draft n) ++ bytesOf 2 (Settings.value s.settings.inForce n)))
  else if n = 10 then
    (s, acceptedWith (bytesOf 2 s.settings.strap.toNat ++ bytesOf 2 s.settings.strap.toNat))
  else (s, refused 9 4)

def State.mapSettings (s : State) (f : SettingsCtl → SettingsCtl) : State := { s with settings := f s.settings }

def writeSettingCommand (n v : Nat) (s : State) : State × Reply :=
  match Settings.withValue s.settings.draft n v with
  | none => (s, refused 25 0)
  | some d => (s.mapSettings fun c => { c with draft := d }, ok)

def commitSettingsCommand (s : State) : State × Reply :=
  (s.mapSettings fun c => { c with cycle := some ⟨some c.draft, none, s.reckoner.staged⟩ }, ok)

/-- A settings write cycle completes and each slot it wrote is read back (R52, R184, R186). -/
def State.cycleDone (s : State) (e : SettingsEnd) : State :=
  match s.settings.cycle with
  | none => s
  | some w =>
    let st := match w.station with
      | some a => s.store.station.write a (!e.badStation)
      | none => s.store.station
    let ac := match w.active with
      | some a => s.store.active.write a (!e.badActive)
      | none => s.store.active
    let bad := (w.station.isSome && e.badStation) || (w.active.isSome && e.badActive) || e.badStaged
    let s := { s with store := ⟨st, ac, s.store.staged.write w.staged (!e.badStaged)⟩ }
    let next := if s.settings.recordWaiting then some s.recordCycle else none
    let s := s.mapSettings fun c => { c with cycle := next, recordWaiting := false, lastFailed := bad }
    if bad then s.latch causeStationFault
    else if s.reckoner.staged = w.staged then s.setReckoner { s.reckoner with recorded := true }
    else s

/-- WARM RESTART is answered, and takes effect when select is released (R188). -/
def State.takeWarmRestart (s : State) : State :=
  if s.takesCommand then
    let s := s.commandStatus
    if !s.port.ready then s.answer (busyReply 0)
    else if s.station = .fault then s.answer (refused 2 0)
    else if s.settings.cycle.isSome then s.answer (busyReply 0)
    else (s.answer ok).mapPort fun p => { p with frame := .restarting }
  else s

end Sys2Proof.Machine
end

