-- ==== Sys2Proof/Machine/Printer.lean ====
section
/-! DEFINITION. Machine/Printer.lean: the events of the printer, its sensors and the pads (R152 to R158), and the
expiries of the lanes' timers (R27, R35, R41). -/

namespace Sys2Proof.Machine

def State.mapSlips (s : State) (f : SlipUnit → SlipUnit) : State := { s with slips := f s.slips }

/-- The warm timer expires (R152). -/
def State.warmed (s : State) : State :=
  if s.slips.printer = .warming ∧ s.slips.warmTimer.isSome = true then
    ((s.setWarmTimer none).startPrint (Config.slipRecords + 1)).settleUnload
  else s

/-- The unload timer expires (R152). -/
def State.unloaded (s : State) : State :=
  if s.slips.unloadTimer.isSome then (s.setUnloadTimer none).setPrinter .off else s

/-- The feed after a slip's last line completes (R153). -/
def State.printed (s : State) : State :=
  match s.slips.printer, s.slips.queue with
  | .printing, i :: rest =>
    (((s.setSlip i .free).setQueue rest).startPrint (Config.slipRecords + 1)).settleUnload
  | _, _ => s

/-- The printer stops what it does: timers stopped, and a slip in PRINTING READY again with its interrupted
flag set (R154). -/
def State.stopPrinter (s : State) : State :=
  let s := (s.setWarmTimer none).setUnloadTimer none
  match s.slips.printer, s.slips.queue with
  | .printing, i :: _ => s.setSlip i { s.slip i with state := .ready, interrupted := true }
  | _, _ => s

def State.align (s : State) : State := (s.setPrinter .aligning).mapSlips fun u => { u with alignSteps := 0 }

def State.halt (s : State) : State := ((s.stopPrinter).setPrinter .halted).latch causePrinter

def SlipUnit.levels (u : SlipUnit) (x : PrinterLevel) : SlipUnit :=
  match x with
  | .paper p => { u with paper := some p }
  | .lid l => { u with lid := some l }

/-- A level of the paper sensor or lid switch is accepted (R154, R158). -/
def State.sensed (s : State) (x : PrinterLevel) : State :=
  if s.begun then
    let first := s.slips.paper.isNone || s.slips.lid.isNone
    let s := s.mapSlips fun u => SlipUnit.levels u x
    match s.slips.paper, s.slips.lid with
    | some .present, some .closed =>
      if first then (s.stopPrinter).align else if s.slips.printer = .halted then s.align else s
    | some _, some _ => if s.slips.printer = .halted then s else s.halt
    | _, _ => s
  else s

/-- One motor step of a form align (R155). -/
def State.alignOne (s : State) (mark : Bool) : State :=
  if s.slips.printer = .aligning then
    let s := s.mapSlips fun u => { u with alignSteps := u.alignSteps + 1 }
    if mark then (s.setPrinter .off).settlePrinter
    else if Config.alignSteps ≤ s.slips.alignSteps then (s.setPrinter .fault).latch causePrinter
    else s
  else s

def State.padSensed (s : State) (p : PadId) (present : Bool) : State :=
  if s.begun then s.setPad p { s.pad p with present := present } else s

/-- A pulse has run its full length (R157). -/
def State.pulseEnded (s : State) (p : PadId) : State :=
  let x := s.pad p
  match x.pulsing, x.waiting with
  | none, _ => s
  | some _, [] => s.setPad p { x with pulsing := none }
  | some _, f :: rest => s.setPad p { x with pulsing := some f, waiting := rest }

/-! ## Lane timers -/

/-- The session idle timer expires (R27). -/
def State.idleExpired (s : State) (l : LaneId) : State :=
  if (s.lane l).idleTimer.isSome then
    (s.mapLane l fun c => { c with idleTimer := none }).endSessionNow l
  else s

/-- The block wait expires; with the frame on the line it takes effect when the transmission ends (R41). -/
def State.blockWaitExpired (s : State) (l : LaneId) : State :=
  match (s.lane l).blockWait, (s.lane l).txn with
  | some _, some t =>
    let s := s.mapLane l fun c => { c with blockWait := none }
    if s.sendingIs (isBlockNotice t.stamp) then
      (s.markWithdrawn (isBlockNotice t.stamp)).mapTxn l fun x => { x with waitExpired := true }
    else s.endTxn l .failed .lineBusy
  | _, _ => s

/-- The trap wait expires; with the frame on the line it takes effect when the transmission ends (R35). -/
def State.trapWaitExpired (s : State) (l : LaneId) : State :=
  match (s.lane l).trapWait, s.provisionalOf l with
  | some _, some t =>
    let s := s.mapLane l fun c => { c with trapWait := none }
    if s.sendingIs t.isNotice then
      (s.markWithdrawn t.isNotice).mapTxn l fun x => { x with waitExpired := true }
    else (s.abandonTrap l).returnOn l .unconfirmed
  | _, _ => s

/-! ## Carrier and idle (R106) -/

/-- Carrier begins a frame. -/
def State.carrierBegins (s : State) : State :=
  if s.begun && s.line.sending.isNone && s.line.state != .busy then
    s.mapLine fun x => { x with state := .carrier, receiving := true }
  else s

/-- Twelve bit times have passed with no carrier. -/
def State.lineQuiet (s : State) : State :=
  if s.begun && s.line.sending.isNone && !s.line.receiving then
    s.mapLine fun x => { x with state := .idle, awaitIdle := false }
  else s

end Sys2Proof.Machine
end

