-- ==== Sys2Proof/Machine/StartCommands.lean ====
section
/-! DEFINITION. Machine/StartCommands.lean: the meanings of starts, the header check, replay and gathering. -/

namespace Sys2Proof.Machine

/-- COLD_START: every block takes its cold-start values, the settings are read and the header check begins (R187, R188). -/
def execColdStart (inputs : ResetInputs) (s : State) :
    Host.Outcome State Fault Refusal :=
  done (s.start true inputs)

/-- HEADER_READ_COMPLETE (R130). -/
def execHeaderReadComplete (s : State) :
    Host.Outcome State Fault Refusal :=
  done (s.headerRead)

/-- FRESH_HEADER_WRITE_COMPLETE (R130). -/
def execFreshHeaderWriteComplete (result : HeaderEnd) (s : State) :
    Host.Outcome State Fault Refusal :=
  done (s.freshHeaderEnd result)

/-- REPLAY_LAST_RECORD_READ (R141). -/
def execReplayLastRecordRead (s : State) :
    Host.Outcome State Fault Refusal :=
  done (s.replayLastDone)

/-- REPLAY_HEAD_WRITE_COMPLETE (R141). -/
def execReplayHeadWriteComplete (result : HeaderEnd) (s : State) :
    Host.Outcome State Fault Refusal :=
  done (s.replayHeadEnd result)

/-- REPLAY_READ_COMPLETE (R141). -/
def execReplayReadComplete (s : State) :
    Host.Outcome State Fault Refusal :=
  done (s.replayReadDone)

/-- MINIMUM_TIMER_EXPIRY: the 5 s minimum timer of GATHERING expires (R187). -/
def execMinimumTimerExpiry (s : State) :
    Host.Outcome State Fault Refusal :=
  done (if s.minimumTimer.isSome then State.testReady { s with minimumTimer := none } else s)

/-- QUIET_TIMER_EXPIRY: the 3 s quiet timer of GATHERING expires (R187). -/
def execQuietTimerExpiry (s : State) :
    Host.Outcome State Fault Refusal :=
  done (if s.quietTimer.isSome then State.testReady { s with quietTimer := none } else s)

end Sys2Proof.Machine
end

