-- ==== Sys2Proof/Machine/LabelCommands.lean ====
section
/-! DEFINITION. Machine/LabelCommands.lean: the meanings of the events of the wands and the decoder (chapter 1). -/

namespace Sys2Proof.Machine

/-- LEVEL_CHANGE (R1, R3, R4, R6 to R8). A front end samples once the settings are read (R18). -/
def execLevelChange (wand : Wand) (ticks : Nat) (s : State) :
    Host.Outcome State Fault Refusal :=
  done (if s.port.ready then s.levelChanges wand ticks else s)

/-- QUIET_ZONE_REACHED (R3, R5, R8): the compare is made while the accepted level is space. -/
def execQuietZoneReached (wand : Wand) (s : State) :
    Host.Outcome State Fault Refusal :=
  done (if s.port.ready && (s.wand wand).level == .space then s.quietZone wand else s)

/-- DECODE_COMPLETE (R10 to R17). -/
def execDecodeComplete (s : State) :
    Host.Outcome State Fault Refusal :=
  done (s.decodeDone)

/-- AGREEMENT_TIMER_EXPIRY: the agreement memory becomes EMPTY (R15). -/
def execAgreementTimerExpiry (wand : Wand) (s : State) :
    Host.Outcome State Fault Refusal :=
  done
    (if (s.wand wand).agreementTimer.isSome then
      s.mapWand wand fun fe => { fe with agreement := none, agreementTimer := none }
    else s)

/-- TONE_END: the tone has run its full form and the beeper is SILENT (R9). -/
def execToneEnd (wand : Wand) (s : State) :
    Host.Outcome State Fault Refusal :=
  done (s.mapWand wand fun fe => { fe with tone := none })

end Sys2Proof.Machine
end

