-- ==== Sys2Proof/Machine/LaneCommands.lean ====
section
/-! DEFINITION. Machine/LaneCommands.lean: the meanings of lane commands and lane timers (chapter 2). -/

namespace Sys2Proof.Machine

/-- LANE_MODE (R20). -/
def execLaneMode (lane mode : Byte) (s : State) :
    Host.Outcome State Fault Refusal :=
  done (s.take 0 (withLane lane 0 fun l => laneModeCommand l mode))

/-- KEYED_ENTRY (R24). -/
def execKeyedEntry (lane count : Byte) (digits : BitVec 56) (s : State) :
    Host.Outcome State Fault Refusal :=
  done (s.take 0 (withLane lane 0 fun l => keyedEntryCommand l count digits))

/-- END_SESSION (R27). -/
def execEndSession (lane : Byte) (s : State) :
    Host.Outcome State Fault Refusal :=
  done (s.take 0 (withLane lane 0 endSessionCommand))

/-- SESSION_IDLE_TIMER_EXPIRY (R27). -/
def execSessionIdleTimerExpiry (lane : LaneId) (s : State) :
    Host.Outcome State Fault Refusal :=
  done (s.idleExpired lane)

/-- CANCEL (R43). -/
def execCancel (lane : Byte) (s : State) :
    Host.Outcome State Fault Refusal :=
  done (s.take 0 (withLane lane 0 cancelCommand))

/-- READ_RESULT (R44). -/
def execReadResult (lane : Byte) (s : State) :
    Host.Outcome State Fault Refusal :=
  done (s.take 36 (withLane lane 36 readResultCommand))

/-- BLOCK (R40, R41). -/
def execBlock (borrower : BitVec 48) (reason : Byte) (s : State) :
    Host.Outcome State Fault Refusal :=
  done (s.take 0 (withNumber borrower 0 fun b => blockCommand .block reason b))

/-- LIFT (R40, R41). -/
def execLift (borrower : BitVec 48) (reason : Byte) (s : State) :
    Host.Outcome State Fault Refusal :=
  done (s.take 0 (withNumber borrower 0 fun b => blockCommand .lift reason b))

/-- PAYMENT (R40, R42). -/
def execPayment (borrower : BitVec 48) (amount : BitVec 24) (s : State) :
    Host.Outcome State Fault Refusal :=
  done (s.take 0 (withNumber borrower 0 fun b => paymentCommand amount.toNat b))

/-- BLOCK_WAIT_EXPIRY (R41). -/
def execBlockWaitExpiry (lane : LaneId) (s : State) :
    Host.Outcome State Fault Refusal :=
  done (s.blockWaitExpired lane)

/-- TRAP_WAIT_EXPIRY (R35). -/
def execTrapWaitExpiry (lane : LaneId) (s : State) :
    Host.Outcome State Fault Refusal :=
  done (s.trapWaitExpired lane)

end Sys2Proof.Machine
end

