-- ==== Sys2Proof/Machine/MemoryCommands.lean ====
section
/-! DEFINITION. Machine/MemoryCommands.lean: the meanings of memory completions, loading and query commands (chapter 7). -/

namespace Sys2Proof.Machine

/-- ROLL_LOOKUP_COMPLETE (R67, R132). -/
def execRollLookupComplete (s : State) :
    Host.Outcome State Fault Refusal :=
  done (s.rollLookupDone)

/-- LOANS_LIST_LOOKUP_COMPLETE (R88, R132). -/
def execLoansListLookupComplete (s : State) :
    Host.Outcome State Fault Refusal :=
  done (s.loansLookupDone)

/-- HOLD_LOOKUP_COMPLETE (R133). -/
def execHoldLookupComplete (s : State) :
    Host.Outcome State Fault Refusal :=
  done (s.holdLookupDone)

/-- APPEND_COMPLETE (R137). -/
def execAppendComplete (result : AppendEnd) (s : State) :
    Host.Outcome State Fault Refusal :=
  done (s.appendEnd result)

/-- ROLL_BEGIN (R134). -/
def execRollBegin (s : State) :
    Host.Outcome State Fault Refusal :=
  done (s.take 0 rollBeginCommand)

/-- ROLL_BEGIN_WRITE_COMPLETE (R134). -/
def execRollBeginWriteComplete (result : HeaderEnd) (s : State) :
    Host.Outcome State Fault Refusal :=
  done (s.rollBeginEnd result)

/-- ROLL_CHUNK (R135). -/
def execRollChunk (list : Byte) (first : BitVec 32) (count : Byte) (entries : List (List Byte)) (s : State) :
    Host.Outcome State Fault Refusal :=
  done (s.take 4 (chunkCommand list first.toNat count entries))

/-- CHUNK_WRITE_COMPLETE (R135). -/
def execChunkWriteComplete (result : BytesEnd) (s : State) :
    Host.Outcome State Fault Refusal :=
  done (s.chunkEnd result)

/-- ROLL_END (R136). -/
def execRollEnd (edition : Byte) (roll loans holds : BitVec 32) (s : State) :
    Host.Outcome State Fault Refusal :=
  done (s.take 5 (rollEndCommand edition.toNat roll.toNat loans.toNat holds.toNat))

/-- EDITION_WRITE_COMPLETE (R136). -/
def execEditionWriteComplete (result : HeaderEnd) (s : State) :
    Host.Outcome State Fault Refusal :=
  done (s.editionEnd result)

/-- JOURNAL_QUERY (R139). -/
def execJournalQuery (field comparison : Byte) (value : BitVec 40) (step : Byte) (s : State) :
    Host.Outcome State Fault Refusal :=
  done (s.take 4 (journalQueryCommand field comparison value step))

/-- QUERY_READ_COMPLETE (R139). -/
def execQueryReadComplete (s : State) :
    Host.Outcome State Fault Refusal :=
  done (s.queryReadDone)

/-- QUERY_NEXT (R140). -/
def execQueryNext (s : State) :
    Host.Outcome State Fault Refusal :=
  done (s.take 33 queryNextCommand)

/-- UPLOAD_READ_COMPLETE (R138, R170). -/
def execUploadReadComplete (s : State) :
    Host.Outcome State Fault Refusal :=
  done (s.uploadReadDone)

/-- TAKE_SNAPSHOT_COMPLETE (R138, R169). -/
def execTakeSnapshotComplete (result : HeaderEnd) (s : State) :
    Host.Outcome State Fault Refusal :=
  done (s.snapshotEnd result)

/-- MOVE_MARKS_COMPLETE (R138, R169, R171). -/
def execMoveMarksComplete (result : HeaderEnd) (s : State) :
    Host.Outcome State Fault Refusal :=
  done (s.moveMarksEnd result)

end Sys2Proof.Machine
end

