-- ==== Sys2Proof/Machine/LineCommands.lean ====
section
/-! DEFINITION. Machine/LineCommands.lean: the meanings of the events of the desk line and its commands (chapter 6). -/

namespace Sys2Proof.Machine

/-- FRAME_START (R106). -/
def execFrameStart (s : State) :
    Host.Outcome State Fault Refusal :=
  done (s.carrierBegins)

/-- LINE_IDLE (R106). -/
def execLineIdle (s : State) :
    Host.Outcome State Fault Refusal :=
  done (s.lineQuiet)

/-- TRANSMIT_START (R111). -/
def execTransmitStart (slots : Nat) (s : State) :
    Host.Outcome State Fault Refusal :=
  done (s.startSending slots)

/-- LINE_LOST (R113, R114). -/
def execLineLost (s : State) :
    Host.Outcome State Fault Refusal :=
  done (s.lineLost)

/-- TRANSMIT_COMPLETE (R113). -/
def execTransmitComplete (s : State) :
    Host.Outcome State Fault Refusal :=
  done (s.sendComplete)

/-- FRAME_END (R107, R112, R114, R116 to R119). -/
def execFrameEnd (frame : RxFrame) (s : State) :
    Host.Outcome State Fault Refusal :=
  done (s.frameEnded frame)

/-- PRESENCE_TIMER_EXPIRY (R119). -/
def execPresenceTimerExpiry (s : State) :
    Host.Outcome State Fault Refusal :=
  done
    (if s.line.presenceTimer.isSome then
      (s.mapLine fun x => { x with presenceTimer := some Config.presenceMs }).handPresence
    else s)

/-- ABSENCE_TIMER_EXPIRY (R120). -/
def execAbsenceTimerExpiry (station : Fin 16) (s : State) :
    Host.Outcome State Fault Refusal :=
  done (s.peerAbsent station.val)

/-- RESUME_LINE (R115). -/
def execResumeLine (s : State) :
    Host.Outcome State Fault Refusal :=
  done (s.take 0 resumeLineCommand)

/-- READ_PEER (R121). -/
def execReadPeer (station : Byte) (s : State) :
    Host.Outcome State Fault Refusal :=
  done (s.take 11 (readPeerCommand station.toNat))

end Sys2Proof.Machine
end

