-- ==== Sys2Proof/Machine/ClockCommands.lean ====
section
/-! DEFINITION. Machine/ClockCommands.lean: the meanings of the events of the day clock, the upload and the uplink (chapter 9). -/

namespace Sys2Proof.Machine

/-- SECOND_TICK (R159, R162, R165). -/
def execSecondTick (s : State) :
    Host.Outcome State Fault Refusal :=
  done (s.countSecond)

/-- SET_CLOCK (R160). -/
def execSetClock (day minute : BitVec 16) (second : Byte) (s : State) :
    Host.Outcome State Fault Refusal :=
  done (s.take 0 (setClockCommand day.toNat minute.toNat second.toNat))

/-- UPLOAD_NOW (R167). -/
def execUploadNow (s : State) :
    Host.Outcome State Fault Refusal :=
  done (s.take 0 uploadNowCommand)

/-- CALL_TIMER_EXPIRY (R167). -/
def execCallTimerExpiry (s : State) :
    Host.Outcome State Fault Refusal :=
  done (s.callExpiry)

/-- SENDER_BEGIN_TIMER_EXPIRY (R170). -/
def execSenderBeginTimerExpiry (s : State) :
    Host.Outcome State Fault Refusal :=
  done (s.senderBeginExpiry)

/-- RECEIPT_TIMER_EXPIRY (R171). -/
def execReceiptTimerExpiry (s : State) :
    Host.Outcome State Fault Refusal :=
  done (s.receiptExpiry)

/-- HAND_AGAIN_TIMER_EXPIRY (R166). -/
def execHandAgainTimerExpiry (s : State) :
    Host.Outcome State Fault Refusal :=
  done (s.handAgain)

/-- GATEWAY_BEGIN_TIMER_EXPIRY (R172). -/
def execGatewayBeginTimerExpiry (s : State) :
    Host.Outcome State Fault Refusal :=
  done (s.gatewayBeginExpiry)

/-- SILENCE_TIMER_EXPIRY (R172). -/
def execSilenceTimerExpiry (station : Fin 16) (s : State) :
    Host.Outcome State Fault Refusal :=
  done (s.gatewaySilence station.val)

/-- UPLINK_SEND_COMPLETE (R174). -/
def execUplinkSendComplete (s : State) :
    Host.Outcome State Fault Refusal :=
  done (s.uplinkSent)

/-- UPLINK_MESSAGE_RECEIVED (R174). -/
def execUplinkMessageReceived (bytes : List Byte) (s : State) :
    Host.Outcome State Fault Refusal :=
  done (s.uplinkReceived bytes)

/-- ANSWER_TIMER_EXPIRY (R174). -/
def execAnswerTimerExpiry (s : State) :
    Host.Outcome State Fault Refusal :=
  done (s.answerExpiry)

end Sys2Proof.Machine
end

