-- ==== Sys2Proof/Machine/SlipCommands.lean ====
section
/-! DEFINITION. Machine/SlipCommands.lean: the meanings of the events of the printer and the pads (chapter 8). -/

namespace Sys2Proof.Machine

/-- WARM_TIMER_EXPIRY (R152, R153). -/
def execWarmTimerExpiry (s : State) :
    Host.Outcome State Fault Refusal :=
  done (s.warmed)

/-- UNLOAD_TIMER_EXPIRY (R152). -/
def execUnloadTimerExpiry (s : State) :
    Host.Outcome State Fault Refusal :=
  done (s.unloaded)

/-- PRINT_COMPLETE (R153). -/
def execPrintComplete (s : State) :
    Host.Outcome State Fault Refusal :=
  done (s.printed)

/-- PRINTER_SENSOR_ACCEPTED (R154, R155, R158). -/
def execPrinterSensorAccepted (level : PrinterLevel) (s : State) :
    Host.Outcome State Fault Refusal :=
  done (s.sensed level)

/-- ALIGN_STEP (R155). -/
def execAlignStep (mark : Bool) (s : State) :
    Host.Outcome State Fault Refusal :=
  done (s.alignOne mark)

/-- PAD_SENSOR_ACCEPTED (R156). -/
def execPadSensorAccepted (pad : PadId) (present : Bool) (s : State) :
    Host.Outcome State Fault Refusal :=
  done (s.padSensed pad present)

/-- PAD_PULSE_END (R157). -/
def execPadPulseEnd (pad : PadId) (s : State) :
    Host.Outcome State Fault Refusal :=
  done (s.pulseEnded pad)

end Sys2Proof.Machine
end

