-- ==== Sys2Proof/Machine/PortCommands.lean ====
section
/-! DEFINITION. Machine/PortCommands.lean: the meanings of frames, status, attention, rules and settings (chapters 3 and 10). -/

namespace Sys2Proof.Machine

/-- SELECT_ACTIVE (R178). -/
def execSelectActive (s : State) :
    Host.Outcome State Fault Refusal :=
  done (s.openFrame)

/-- ERROR_STATE (R179): a command byte inside the command table is no such event. -/
def execErrorState (command : Byte) (s : State) :
    Host.Outcome State Fault Refusal :=
  done (if command = 0 ∨ 0x1D < command.toNat then s.badCommand else s)

/-- ANSWER_COMPLETE (R178). -/
def execAnswerComplete (s : State) :
    Host.Outcome State Fault Refusal :=
  done (s.answered)

/-- SELECT_RELEASE (R179, R188). -/
def execSelectRelease (begun : Bool) (inputs : ResetInputs) (s : State) :
    Host.Outcome State Fault Refusal :=
  done (s.release begun inputs)

/-- IDENTIFY (R181). -/
def execIdentify (s : State) :
    Host.Outcome State Fault Refusal :=
  done (s.take 6 identifyCommand)

/-- READ_STATUS (R181). -/
def execReadStatus (s : State) :
    Host.Outcome State Fault Refusal :=
  done (s.take 37 readStatusCommand)

/-- TAKE_ATTENTION (R183). -/
def execTakeAttention (s : State) :
    Host.Outcome State Fault Refusal :=
  done (s.take 1 takeAttentionCommand)

/-- SET_ENABLES (R183). -/
def execSetEnables (enables : BitVec 16) (s : State) :
    Host.Outcome State Fault Refusal :=
  done (s.take 0 (setEnablesCommand enables))

/-- INQUIRE_BORROWER (R84). -/
def execInquireBorrower (borrower : BitVec 48) (s : State) :
    Host.Outcome State Fault Refusal :=
  done (s.take 37 (withNumber borrower 37 inquireBorrowerCommand))

/-- INQUIRE_ITEM (R104). -/
def execInquireItem (item : BitVec 48) (s : State) :
    Host.Outcome State Fault Refusal :=
  done (s.take 27 (withNumber item 27 inquireItemCommand))

/-- STAGE_RULE, part DISCARD (R47). -/
def execStageRuleDiscard (s : State) :
    Host.Outcome State Fault Refusal :=
  done (s.take 1 (stageCommand discardStaged))

/-- STAGE_RULE, part CLASS (R47). -/
def execStageRuleClass (cls unit period : Byte) (rate cap : BitVec 16) (grace renewLimit : Byte) (s : State) :
    Host.Outcome State Fault Refusal :=
  done
    (s.take 1 (stageCommand (stagePart fun rs =>
      if cls.toNat ≤ 9 then
        (stagedClassRule unit.toNat period.toNat rate.toNat cap.toNat grace.toNat renewLimit.toNat).map fun r =>
          { rs with classes := rs.classes.set cls.toNat r }
      else none)))

/-- STAGE_RULE, part CATEGORY (R47): mask bits 10 to 15 are ignored. -/
def execStageRuleCategory (category limit : Byte) (mask : BitVec 16) (s : State) :
    Host.Outcome State Fault Refusal :=
  done
    (s.take 1 (stageCommand (stagePart fun rs =>
      if category.toNat ≤ 7 ∧ limit.toNat ≤ 99 then
        some { rs with categories := rs.categories.set category.toNat ⟨limit.toNat, mask.setWidth 10⟩ }
      else none)))

/-- STAGE_RULE, part HOURS (R47). -/
def execStageRuleHours (weekday : Byte) (opening closing : BitVec 16) (s : State) :
    Host.Outcome State Fault Refusal :=
  done
    (s.take 1 (stageCommand (stagePart fun rs =>
      if weekday.toNat ≤ 6 ∧ closing.toNat ≤ 1439 ∧ opening.toNat < closing.toNat then
        some { rs with hours := rs.hours.set weekday.toNat ⟨opening.toNat, closing.toNat⟩ }
      else none)))

/-- STAGE_RULE, part CLOSURE (R47): bit 7 is ignored. -/
def execStageRuleClosure (mask : Byte) (s : State) :
    Host.Outcome State Fault Refusal :=
  done (s.take 1 (stageCommand (stagePart fun rs => some { rs with closure := mask.setWidth 7 })))

/-- STAGE_RULE, part HOLIDAY ADD (R48). -/
def execStageRuleHolidayAdd (day : BitVec 16) (s : State) :
    Host.Outcome State Fault Refusal :=
  done (s.take 1 (stageCommand (holidayAdd day.toNat)))

/-- STAGE_RULE, part HOLIDAY REMOVE (R48). -/
def execStageRuleHolidayRemove (day : BitVec 16) (s : State) :
    Host.Outcome State Fault Refusal :=
  done
    (s.take 1 (stageCommand (stagePart fun rs =>
      some { rs with holidays := rs.holidays.filter (· != day.toNat) })))

/-- STAGE_RULE, part WINDOW (R49). -/
def execStageRuleWindow (warning blocking : BitVec 16) (s : State) :
    Host.Outcome State Fault Refusal :=
  done (s.take 1 (stageCommand (stagePart fun rs => some (rs.withWindow warning.toNat blocking.toNat))))

/-- STAGE_RULE, part UPLOAD MINUTE (R47). -/
def execStageRuleUploadMinute (minute : BitVec 16) (s : State) :
    Host.Outcome State Fault Refusal :=
  done
    (s.take 1 (stageCommand (stagePart fun rs =>
      if minute.toNat ≤ 1439 then some { rs with uploadMinute := minute.toNat } else none)))

/-- STAGE_RULE with a part code outside 0 to 8: BAD_RULE (R47). A code inside is no such command. -/
def execStageRuleBadPartCode (code : Byte) (s : State) :
    Host.Outcome State Fault Refusal :=
  done (if 8 < code.toNat then s.take 1 (stageCommand (stagePart fun _ => none)) else s)

/-- APPLY_NOW (R51). -/
def execApplyNow (s : State) :
    Host.Outcome State Fault Refusal :=
  done (s.take 0 (settingsCommand (fun _ => []) applyNowCommand))

/-- READ_SETTING (R185). -/
def execReadSetting (number : Byte) (s : State) :
    Host.Outcome State Fault Refusal :=
  done (s.take 4 (settingsCommand (fun _ => bytesOf 4 0) (readSettingCommand number.toNat)))

/-- WRITE_SETTING (R185). -/
def execWriteSetting (number : Byte) (value : BitVec 16) (s : State) :
    Host.Outcome State Fault Refusal :=
  done (s.take 0 (settingsCommand (fun _ => []) (writeSettingCommand number.toNat value.toNat)))

/-- COMMIT_SETTINGS (R186). -/
def execCommitSettings (s : State) :
    Host.Outcome State Fault Refusal :=
  done (s.take 0 (settingsCommand (fun _ => []) commitSettingsCommand))

/-- SETTINGS_WRITE_COMPLETE (R186). -/
def execSettingsWriteComplete (result : SettingsEnd) (s : State) :
    Host.Outcome State Fault Refusal :=
  done (s.cycleDone result)

/-- WARM_RESTART (R188). -/
def execWarmRestart (s : State) :
    Host.Outcome State Fault Refusal :=
  done (s.takeWarmRestart)

end Sys2Proof.Machine
end

