-- ==== Sys2Proof/Machine/Dispatch.lean ====
section
/-! DEFINITION. Machine/Dispatch.lean: one arm per command. -/

namespace Sys2Proof.Machine

def exec (i : Instr) (s : State) : Host.Outcome State Fault Refusal :=
  match i with
  | .coldStart inputs => Sys2Proof.Machine.execColdStart inputs s
  | .headerReadComplete => Sys2Proof.Machine.execHeaderReadComplete s
  | .freshHeaderWriteComplete result => Sys2Proof.Machine.execFreshHeaderWriteComplete result s
  | .levelChange wand ticks => Sys2Proof.Machine.execLevelChange wand ticks s
  | .quietZoneReached wand => Sys2Proof.Machine.execQuietZoneReached wand s
  | .decodeComplete => Sys2Proof.Machine.execDecodeComplete s
  | .agreementTimerExpiry wand => Sys2Proof.Machine.execAgreementTimerExpiry wand s
  | .toneEnd wand => Sys2Proof.Machine.execToneEnd wand s
  | .laneMode lane mode => Sys2Proof.Machine.execLaneMode lane mode s
  | .keyedEntry lane count digits => Sys2Proof.Machine.execKeyedEntry lane count digits s
  | .endSession lane => Sys2Proof.Machine.execEndSession lane s
  | .sessionIdleTimerExpiry lane => Sys2Proof.Machine.execSessionIdleTimerExpiry lane s
  | .cancel lane => Sys2Proof.Machine.execCancel lane s
  | .readResult lane => Sys2Proof.Machine.execReadResult lane s
  | .block borrower reason => Sys2Proof.Machine.execBlock borrower reason s
  | .lift borrower reason => Sys2Proof.Machine.execLift borrower reason s
  | .payment borrower amount => Sys2Proof.Machine.execPayment borrower amount s
  | .blockWaitExpiry lane => Sys2Proof.Machine.execBlockWaitExpiry lane s
  | .trapWaitExpiry lane => Sys2Proof.Machine.execTrapWaitExpiry lane s
  | .rollLookupComplete => Sys2Proof.Machine.execRollLookupComplete s
  | .loansListLookupComplete => Sys2Proof.Machine.execLoansListLookupComplete s
  | .holdLookupComplete => Sys2Proof.Machine.execHoldLookupComplete s
  | .appendComplete result => Sys2Proof.Machine.execAppendComplete result s
  | .rollBegin => Sys2Proof.Machine.execRollBegin s
  | .rollBeginWriteComplete result => Sys2Proof.Machine.execRollBeginWriteComplete result s
  | .rollChunk list first count entries => Sys2Proof.Machine.execRollChunk list first count entries s
  | .chunkWriteComplete result => Sys2Proof.Machine.execChunkWriteComplete result s
  | .rollEnd edition roll loans holds => Sys2Proof.Machine.execRollEnd edition roll loans holds s
  | .editionWriteComplete result => Sys2Proof.Machine.execEditionWriteComplete result s
  | .journalQuery field comparison value step => Sys2Proof.Machine.execJournalQuery field comparison value step s
  | .queryReadComplete => Sys2Proof.Machine.execQueryReadComplete s
  | .queryNext => Sys2Proof.Machine.execQueryNext s
  | .replayLastRecordRead => Sys2Proof.Machine.execReplayLastRecordRead s
  | .replayHeadWriteComplete result => Sys2Proof.Machine.execReplayHeadWriteComplete result s
  | .replayReadComplete => Sys2Proof.Machine.execReplayReadComplete s
  | .minimumTimerExpiry => Sys2Proof.Machine.execMinimumTimerExpiry s
  | .quietTimerExpiry => Sys2Proof.Machine.execQuietTimerExpiry s
  | .uploadReadComplete => Sys2Proof.Machine.execUploadReadComplete s
  | .takeSnapshotComplete result => Sys2Proof.Machine.execTakeSnapshotComplete result s
  | .moveMarksComplete result => Sys2Proof.Machine.execMoveMarksComplete result s
  | .frameStart => Sys2Proof.Machine.execFrameStart s
  | .lineIdle => Sys2Proof.Machine.execLineIdle s
  | .transmitStart slots => Sys2Proof.Machine.execTransmitStart slots s
  | .lineLost => Sys2Proof.Machine.execLineLost s
  | .transmitComplete => Sys2Proof.Machine.execTransmitComplete s
  | .frameEnd frame => Sys2Proof.Machine.execFrameEnd frame s
  | .presenceTimerExpiry => Sys2Proof.Machine.execPresenceTimerExpiry s
  | .absenceTimerExpiry station => Sys2Proof.Machine.execAbsenceTimerExpiry station s
  | .resumeLine => Sys2Proof.Machine.execResumeLine s
  | .readPeer station => Sys2Proof.Machine.execReadPeer station s
  | .secondTick => Sys2Proof.Machine.execSecondTick s
  | .setClock day minute second => Sys2Proof.Machine.execSetClock day minute second s
  | .uploadNow => Sys2Proof.Machine.execUploadNow s
  | .callTimerExpiry => Sys2Proof.Machine.execCallTimerExpiry s
  | .senderBeginTimerExpiry => Sys2Proof.Machine.execSenderBeginTimerExpiry s
  | .receiptTimerExpiry => Sys2Proof.Machine.execReceiptTimerExpiry s
  | .handAgainTimerExpiry => Sys2Proof.Machine.execHandAgainTimerExpiry s
  | .gatewayBeginTimerExpiry => Sys2Proof.Machine.execGatewayBeginTimerExpiry s
  | .silenceTimerExpiry station => Sys2Proof.Machine.execSilenceTimerExpiry station s
  | .uplinkSendComplete => Sys2Proof.Machine.execUplinkSendComplete s
  | .uplinkMessageReceived bytes => Sys2Proof.Machine.execUplinkMessageReceived bytes s
  | .answerTimerExpiry => Sys2Proof.Machine.execAnswerTimerExpiry s
  | .warmTimerExpiry => Sys2Proof.Machine.execWarmTimerExpiry s
  | .unloadTimerExpiry => Sys2Proof.Machine.execUnloadTimerExpiry s
  | .printComplete => Sys2Proof.Machine.execPrintComplete s
  | .printerSensorAccepted level => Sys2Proof.Machine.execPrinterSensorAccepted level s
  | .alignStep mark => Sys2Proof.Machine.execAlignStep mark s
  | .padSensorAccepted pad present => Sys2Proof.Machine.execPadSensorAccepted pad present s
  | .padPulseEnd pad => Sys2Proof.Machine.execPadPulseEnd pad s
  | .selectActive => Sys2Proof.Machine.execSelectActive s
  | .errorState command => Sys2Proof.Machine.execErrorState command s
  | .answerComplete => Sys2Proof.Machine.execAnswerComplete s
  | .selectRelease begun inputs => Sys2Proof.Machine.execSelectRelease begun inputs s
  | .identify => Sys2Proof.Machine.execIdentify s
  | .readStatus => Sys2Proof.Machine.execReadStatus s
  | .takeAttention => Sys2Proof.Machine.execTakeAttention s
  | .setEnables enables => Sys2Proof.Machine.execSetEnables enables s
  | .inquireBorrower borrower => Sys2Proof.Machine.execInquireBorrower borrower s
  | .inquireItem item => Sys2Proof.Machine.execInquireItem item s
  | .stageRuleDiscard => Sys2Proof.Machine.execStageRuleDiscard s
  | .stageRuleClass cls unit period rate cap grace renewLimit => Sys2Proof.Machine.execStageRuleClass cls unit period rate cap grace renewLimit s
  | .stageRuleCategory category limit mask => Sys2Proof.Machine.execStageRuleCategory category limit mask s
  | .stageRuleHours weekday opening closing => Sys2Proof.Machine.execStageRuleHours weekday opening closing s
  | .stageRuleClosure mask => Sys2Proof.Machine.execStageRuleClosure mask s
  | .stageRuleHolidayAdd day => Sys2Proof.Machine.execStageRuleHolidayAdd day s
  | .stageRuleHolidayRemove day => Sys2Proof.Machine.execStageRuleHolidayRemove day s
  | .stageRuleWindow warning blocking => Sys2Proof.Machine.execStageRuleWindow warning blocking s
  | .stageRuleUploadMinute minute => Sys2Proof.Machine.execStageRuleUploadMinute minute s
  | .applyNow => Sys2Proof.Machine.execApplyNow s
  | .readSetting number => Sys2Proof.Machine.execReadSetting number s
  | .writeSetting number value => Sys2Proof.Machine.execWriteSetting number value s
  | .commitSettings => Sys2Proof.Machine.execCommitSettings s
  | .settingsWriteComplete result => Sys2Proof.Machine.execSettingsWriteComplete result s
  | .warmRestart => Sys2Proof.Machine.execWarmRestart s
  | .stageRuleBadPartCode code => Sys2Proof.Machine.execStageRuleBadPartCode code s

end Sys2Proof.Machine
end

