-- ==== Sys2Proof/Safety.lean ====
section
/-! DEFINITION. Safety.lean: the properties of a state that statements about the machine use: the canonical form of
the attached memory, what the memory port is writing, what completed work leaves in the slip unit, the capacities of tables, queues and counters, and what a taken port command leaves in
the port. -/

namespace Sys2Proof.Machine

/-- The attached memory's byte list has its canonical form. -/
def State.memoryCanonical (s : State) : Prop := Memory.wf s.attached.cells = true

/-- The line controller: its three queues within their depths (R108), 16 places of peer records (section 6.7), at
most 8 collisions counted (R114), and its saturating counters within 16 bits (R107, R114). -/
structure LineCtl.within (x : LineCtl) : Prop where
  u : x.u.length ≤ Config.depthU
  s : x.s.length ≤ Config.depthS
  b : x.b.length ≤ Config.depthB
  peers : x.peers.length = 16
  collisions : x.collisions ≤ Config.collisionLimit
  bad : x.badFrames ≤ Config.saturation
  own : x.ownFrames ≤ Config.saturation

/-- The standing table: 4,096 entries (R66) and 32 parked records (R72). -/
structure Standing.within (x : Standing) : Prop where
  entries : x.entries.length ≤ Config.standingCapacity
  parked : x.parked.length ≤ Config.parkedCapacity

/-- The slip unit: exactly 8 slip records (R144) and at most 3 waiting pulses on each pad (R156). -/
structure SlipUnit.within (x : SlipUnit) : Prop where
  slips : x.slips.length = Config.slipRecords
  pad0 : x.pad0.waiting.length ≤ Config.padWaiting
  pad1 : x.pad1.waiting.length ≤ Config.padWaiting

/-- The uplink queue of an open gateway session holds at most 4 blocks (R173). -/
def Upload.within (x : Upload) : Prop := ∀ g, x.gateway = some g → g.queue.length ≤ Config.uplinkDepth

/-- The line controller, the standing table, the trap table (512 records, R96), the slip unit, the uplink queue, the
element buffers of the two wands (96 counts, R7) and the item overlay (8,192 places of entries and set-aside rooms,
R87, R89) are within their capacities. -/
structure State.within (s : State) : Prop where
  line : s.line.within
  standing : s.standing.within
  traps : s.traps.length ≤ Config.trapCapacity
  slips : s.slips.within
  upload : s.upload.within
  wand0 : s.wand0.buffer.length ≤ Config.elementCapacity
  wand1 : s.wand1.buffer.length ≤ Config.elementCapacity
  overlay : s.overlay.used ≤ Config.overlayCapacity

/-- The port can take a command, and answers it by its rule and not BUSY (R178, R179). -/
def State.serves (s : State) : Bool := s.takesCommand && s.port.ready

/-- The port after a taken command: its status byte and error latch as the command byte left them, the take code
with the answer bytes, and the clearing effect that the last answer byte will make (R178, R180). -/
def State.portAfter (s : State) (answer : List Byte) (effect : ClearEffect) : Port :=
  { s.commandStatus.port with answer := answer, frame := .answering effect }

/-- A state with the answer of a taken command in its port: take code and answer bytes, and the clearing effect of the
last answer byte (R178, R180). -/
def State.replied (s : State) (answer : List Byte) (effect : ClearEffect) : State :=
  { s with port := { s.port with answer := answer, frame := .answering effect } }

/-- An operation that writes nothing into the attached memory: a lookup or a read (section 7.4, R130, R141). -/
def MemOp.reads : MemOp → Bool
  | .rollLookup _ _ => true
  | .loansLookup _ _ => true
  | .holdLookup _ _ => true
  | .uploadRead _ _ => true
  | .replayLast => true
  | .replayRead _ => true
  | .replayStamp => true
  | .queryRead => true
  | .headerRead => true
  | .append _ => false
  | .chunkWrite _ _ _ => false
  | .rollBeginWrite => false
  | .editionWrite _ _ _ _ => false
  | .takeSnapshot => false
  | .moveMarks _ _ => false
  | .replayHead => false
  | .freshHeader => false

/-- The operation in progress, if there is one, writes nothing. -/
def State.writesNothing (s : State) : Bool := s.memory.busy.all fun r => r.op.reads

/-- The state after a lane has reported `r` for an offer or operation from `src`, from a state with no transaction and no
end of session pending (R44): REPORTING with the result unread, RESULT latched, the session idle timer at its full
period where a session is open, and a wand's tone by the class. -/
def State.reporting (s : State) (l : LaneId) (src : Source) (r : Result) : State :=
  let t := { s.mapLane l fun c => { c with
      state := .reporting, txn := none, result := r, unread := true, trapWait := none, blockWait := none
      idleTimer := if c.session.isSome then some (s.settings.inForce.idleSeconds * 1000) else none } with
    port := { s.port with pending := s.port.pending ||| causeBit (causeResult l) } }
  match src, r.cls with
  | .wand w, .refused => t.setWand w { t.wand w with tone := some .refusal }
  | .wand w, .invalid => t.setWand w { t.wand w with tone := some .refusal }
  | .wand w, .failed => t.setWand w { t.wand w with tone := some .error }
  | _, _ => t

/-- The lane's item work for borrower `b`, whose entry is `e`, has ended otherwise than DONE, from `s` to `t` (R43, R44):
it is reported with the block reason set, and with count and limit where the reason is LIMIT; the reservation and the
room are given back; and no other table, queue or memory is changed. That a return so ended reports no HOLD flag is the
model's choice (assumption 59). -/
def State.endsWork (s t : State) (l : LaneId) (op : Operation) (c : ResultClass) (b : Nat) (e : Entry) (why : Reason) :
    Prop :=
  (t.lane l).state = .reporting ∧ (t.lane l).txn = none ∧ (t.lane l).unread = true ∧
    (t.lane l).session = (s.lane l).session ∧
    (t.lane l).result = { Result.blank l with
      operation := op, cls := c, reason := why, mode := (s.lane l).mode, blocks := e.blockSet s.clock.day
      count := if why = .limit then some (e.count, s.limitInForce e.roll.category) else none
      flags := { ResultFlags.clear with warning := why == .limit && s.standing.incomplete } } ∧
    (∃ e', t.entry? b = some e' ∧ e'.reserved l = false ∧ e'.reserved (otherLane l) = e.reserved (otherLane l) ∧
      e'.count = e.count ∧ e'.balance = e.balance) ∧
    t.overlay.room l = false ∧ t.overlay.entries = s.overlay.entries ∧ t.memory = { s.memory with busy := none } ∧
    t.attached = s.attached ∧ t.line = s.line ∧ t.traps = s.traps ∧ t.lane (otherLane l) = s.lane (otherLane l)

/-- Finding room for item `n` succeeds and leaves the entries `left` in the overlay (R89, R90): all of them where the
item has an entry or a place is free, and else all but the earliest-changed one that is IN with basis TODAY. -/
def State.roomLeaves (s : State) (n : Nat) (left : List ItemEntry) : Prop :=
  (((s.item? n).isSome = true ∨ s.overlay.used < 8192) ∧ left = s.overlay.entries) ∨
    (s.item? n = none ∧ 8192 ≤ s.overlay.used ∧ ∃ before i after, s.overlay.entries = before ++ i :: after ∧
      (i.basis = .today ∧ i.loan = none) ∧ (∀ k ∈ before, k.basis = .roll ∨ k.loan.isSome = true) ∧
      left = before ++ after)

/-- No room can be found for item `n` (R89, R90). -/
def State.noRoomFor (s : State) (n : Nat) : Prop :=
  s.item? n = none ∧ 8192 ≤ s.overlay.used ∧ ∀ k ∈ s.overlay.entries, k.basis = .roll ∨ k.loan.isSome = true

/-- The lane's transaction `x` on item `n` of borrower `b` is committed, from `s` to `t` (R30, R89, R110, R137): its record
with the next stamp is requested at the journal, and room for the item is set aside, leaving the entries `left`. -/
def State.commits (s t : State) (l : LaneId) (x : Txn) (kind : RecordKind) (b n : Nat) (due : Nat × Nat) (amount : Nat)
    (left : List ItemEntry) : Prop :=
  let stamp := s.line.stamps + 1
  t.line = { s.line with stamps := stamp } ∧
    t.memory = { s.memory with
      requested := s.memory.requested + 1
      busy := some ⟨.append
        { number := s.memory.copies.head + s.memory.requested, stamp := stamp, kind := kind, lane := l
          day := s.clock.day, minute := s.clock.minute, borrower := b, item := n, dueDay := due.1, dueMinute := due.2
          holdBorrower := 0, amount := amount, outcome := if kind = .ret then x.trap.code else 0
          edition := s.edition }, false⟩ } ∧
    (t.lane l).txn = some { x with stage := .commit, committed := true, stamp := stamp } ∧
    t.overlay = { (if (s.item? n).isSome then s.overlay else s.overlay.setRoom l true) with entries := left } ∧
    t.attached = s.attached ∧ t.traps = s.traps ∧ t.lane (otherLane l) = s.lane (otherLane l)

/-- What an ITEM DUE line of item `n` leaves, from `s` to `t`, in the slip store, the print queue, the reference of the
lane's session and the mark NO_SLIP of its result (R145 to R147). A slip that becomes READY at a warm printer with
nothing queued is printed at once (R152). -/
def State.itemDueLeaves (s t : State) (l : LaneId) (n : Nat) (due : Nat × Nat) : Prop :=
  let line := SlipLine.itemDue n (dateOf due.1) (timeOf due.2)
  let kind := if (s.lane l).mode = .renew then SlipKind.renew else .loan
  let opened := fun (b : Nat) =>
    ({ state := .opened, kind := some kind, lane := some l
       lines := [.header kind s.number l (dateOf s.clock.day) (timeOf s.clock.minute), .borrower (b % 10000), line]
       hold := none, interrupted := false } : Slip)
  let leaves := fun (records : List Slip) (queue : List Nat) (b : Nat) (slip : Option Nat) (noSlip : Bool) =>
    t.slips.slips = records ∧ t.slips.queue = queue ∧ (t.lane l).session = some ⟨b, slip⟩ ∧
      (t.lane l).result.flags.noSlip = noSlip
  (∀ b, (s.lane l).session = some ⟨b, none⟩ →
    (∀ k, s.freeSlip = some k → leaves (s.slips.slips.set k (opened b)) s.slips.queue b (some k) false) ∧
    (s.freeSlip = none → leaves s.slips.slips s.slips.queue b none true)) ∧
  (∀ b i x, (s.lane l).session = some ⟨b, some i⟩ → s.slips.slips[i]? = some x →
    (x.itemCount < 12 →
      leaves (s.slips.slips.set i { x with lines := x.lines ++ [line] }) s.slips.queue b (some i) false) ∧
    (x.itemCount = 12 → x.state = .opened → x.hold = none → (s.slips.printer = .idleWarm → s.slips.queue = []) →
      let full := { x with
        state := if s.slips.printer = .idleWarm then .printing else .ready, lines := x.lines ++ [.continued 12] }
      (∀ k, s.freeSlip = some k →
        leaves ((s.slips.slips.set i full).set k (opened b)) (s.slips.queue ++ [i]) b (some k) false) ∧
      (s.freeSlip = none → leaves (s.slips.slips.set i full) (s.slips.queue ++ [i]) b none true)))

/-- What the FINE slip and the HOLD slip of a completed return leave, from `s` to `t`, in the slip store, the print queue
and the mark NO_SLIP (R145, R149, R150): `x` is the return, of item `n` by borrower `b`. The HOLD slip is due while
the trap is CONFIRMED by the own station for this copy; it is HELD while an own TRAPPED notice of its hold is queued. -/
def State.returnSlipsLeave (s t : State) (l : LaneId) (x : Txn) (n b : Nat) : Prop :=
  let header := fun (k : SlipKind) => SlipLine.header k s.number l (dateOf s.clock.day) (timeOf s.clock.minute)
  let started := if s.slips.printer = .idleWarm then SlipState.printing else .ready
  let fine := fun (e : Entry) =>
    ({ state := started, kind := some .fine, lane := some l
       lines := [header .fine, .borrower (b % 10000), .fine n (dateOf x.due.1) x.fine,
         .total e.count e.balance (s.rules.warningMark e.balance)]
       hold := none, interrupted := false } : Slip)
  let hold := fun (state : SlipState) (h : Hold) =>
    ({ state := state, kind := some .hold, lane := some l
       lines := [header .hold, .hold (itemTitle n) h.rank (itemCopy n), .borrower (h.borrower % 10000)]
       hold := some (itemTitle n, h.rank), interrupted := false } : Slip)
  let stands := fun (h : Hold) (y : TrapRecord) => x.trap = .trapped ∧ x.hold = some h ∧
    s.trap? (itemTitle n) h.rank = some y ∧ y.state = .confirmed ∧ y.station = s.number ∧ y.item = n
  let queued := fun (h : Hold) => ∃ q ∈ s.line.u, ∃ p by_, q.body = .trap p by_ .trapped ∧ p.title = itemTitle n ∧
    p.rank = h.rank
  let leaves := fun (records : List Slip) (queue : List Nat) (noSlip : Bool) =>
    t.slips.slips = records ∧ t.slips.queue = queue ∧ (t.lane l).result.flags.noSlip = noSlip
  ∀ e, t.entry? b = some e → (s.slips.printer = .idleWarm → s.slips.queue = []) →
    ((∀ h y, ¬stands h y) →
      (x.fine = 0 → leaves s.slips.slips s.slips.queue false) ∧
      (x.fine ≠ 0 → s.freeSlip = none → leaves s.slips.slips s.slips.queue true) ∧
      (x.fine ≠ 0 → ∀ i, s.freeSlip = some i →
        leaves (s.slips.slips.set i (fine e)) (s.slips.queue ++ [i]) false)) ∧
    (∀ h y, stands h y →
      (s.freeSlip = none → leaves s.slips.slips s.slips.queue true) ∧
      (x.fine = 0 → ∀ i, s.freeSlip = some i →
        (queued h → leaves (s.slips.slips.set i (hold .held h)) s.slips.queue false) ∧
        (¬queued h → leaves (s.slips.slips.set i (hold started h)) (s.slips.queue ++ [i]) false)) ∧
      (x.fine ≠ 0 → ∀ i, s.freeSlip = some i →
        let records := s.slips.slips.set i (fine e)
        (records.findIdx? (·.state == .free) = none → leaves records (s.slips.queue ++ [i]) true) ∧
        (∀ k, records.findIdx? (·.state == .free) = some k →
          (queued h → leaves (records.set k (hold .held h)) (s.slips.queue ++ [i]) false) ∧
          (¬queued h → leaves (records.set k (hold .ready h)) (s.slips.queue ++ [i, k]) false))))

/-- What the request for a pulse leaves, from `s` to `t`, at the pad of the source and in the mark NOT_ON_PAD of the
lane's result; the other pad stands (R33, R156). -/
def State.pulseLeaves (s t : State) (l : LaneId) (source : Source) (form : Pulse) : Prop :=
  let p := padOf source l
  let x := s.pad p
  let leaves := fun (y : Pad) (off : Bool) =>
    t.pad p = y ∧ (t.lane l).result.flags.notOnPad = off ∧ ∀ q, q ≠ p → t.pad q = s.pad q
  (x.present = false → leaves x true) ∧
  (x.present = true →
    (x.pulsing = none → leaves { x with pulsing := some form } false) ∧
    (∀ running, x.pulsing = some running →
      (x.waiting.length < 3 → leaves { x with waiting := x.waiting ++ [form] } false) ∧
      (3 ≤ x.waiting.length → leaves x true)))

/-- The entries of a list stand undamaged in the memory with strictly rising keys (section 7.2, R132). -/
structure State.listSound (s : State) (l : ListId) : Prop where
  undamaged : ∀ i < s.listCount l, unitGood (s.entryBytes l i) = true
  rising : ∀ i j, i < j → j < s.listCount l → keyLt (l.key (s.entryBytes l i)) (l.key (s.entryBytes l j)) = true

/-- A journal record whose fields fit the record's bytes (section 7.6), a field that its kind does not carry
being 0. -/
structure JournalRecord.fits (r : JournalRecord) : Prop where
  number : r.number < 2 ^ 32
  stamp : r.stamp < 65536
  day : r.day < 65536
  minute : r.minute < 65536
  borrower : r.borrower < 2 ^ 40
  item : r.item < 2 ^ 40
  dueDay : r.dueDay < 65536
  dueMinute : r.dueMinute < 65536
  holdBorrower : r.holdBorrower < 2 ^ 40
  amount : r.amount < 2 ^ 24
  outcome : r.outcome < 256
  edition : r.edition < 256
  noLoan : r.kind ≠ .loan → r.kind ≠ .renew → r.dueDay = 0 ∧ r.dueMinute = 0
  noHold : r.kind ≠ .ret → r.holdBorrower = 0

end Sys2Proof.Machine
end

