-- ==== Sys2Proof/Laws/State.lean ====
section
/-! SUPPORT. Laws/State.lean: what each update of a state leaves in each field. -/

namespace Sys2Proof.Machine

/-! ## Lanes and wands by name -/

@[simp] theorem State.lane_setLane (s : State) (l : LaneId) (c : LaneCtl) : (s.setLane l c).lane l = c := by
  cases l <;> rfl

@[simp] theorem State.lane_mapLane (s : State) (l : LaneId) (f : LaneCtl → LaneCtl) :
    (s.mapLane l f).lane l = f (s.lane l) := by
  cases l <;> rfl

theorem State.lane_setLane_other (s : State) (l m : LaneId) (c : LaneCtl) (h : m ≠ l) :
    (s.setLane l c).lane m = s.lane m := by
  cases l <;> cases m <;> first | rfl | exact absurd rfl h

@[simp] theorem State.wand_setWand (s : State) (w : Wand) (x : FrontEnd) : (s.setWand w x).wand w = x := by
  cases w <;> rfl

theorem State.wand_setWand_other (s : State) (w v : Wand) (x : FrontEnd) (h : v ≠ w) :
    (s.setWand w x).wand v = s.wand v := by
  cases w <;> cases v <;> first | rfl | exact absurd rfl h

@[simp] theorem State.lane_setWand (s : State) (w : Wand) (x : FrontEnd) (l : LaneId) : (s.setWand w x).lane l = s.lane l := by
  cases w <;> cases l <;> rfl

@[simp] theorem State.wand_setLane (s : State) (l : LaneId) (c : LaneCtl) (w : Wand) : (s.setLane l c).wand w = s.wand w := by
  cases w <;> cases l <;> rfl

/-! ## `State.setLane` -/

@[simp] theorem State.setLane_pending (s : State) (l : LaneId) (c : LaneCtl) : (s.setLane l c).pending = s.pending := by cases l <;> rfl
@[simp] theorem State.setLane_station (s : State) (l : LaneId) (c : LaneCtl) : (s.setLane l c).station = s.station := by cases l <;> rfl
@[simp] theorem State.setLane_minimumTimer (s : State) (l : LaneId) (c : LaneCtl) : (s.setLane l c).minimumTimer = s.minimumTimer := by cases l <;> rfl
@[simp] theorem State.setLane_quietTimer (s : State) (l : LaneId) (c : LaneCtl) : (s.setLane l c).quietTimer = s.quietTimer := by cases l <;> rfl
@[simp] theorem State.setLane_wand0 (s : State) (l : LaneId) (c : LaneCtl) : (s.setLane l c).wand0 = s.wand0 := by cases l <;> rfl
@[simp] theorem State.setLane_wand1 (s : State) (l : LaneId) (c : LaneCtl) : (s.setLane l c).wand1 = s.wand1 := by cases l <;> rfl
@[simp] theorem State.setLane_decoding (s : State) (l : LaneId) (c : LaneCtl) : (s.setLane l c).decoding = s.decoding := by cases l <;> rfl
@[simp] theorem State.setLane_reckoner (s : State) (l : LaneId) (c : LaneCtl) : (s.setLane l c).reckoner = s.reckoner := by cases l <;> rfl
@[simp] theorem State.setLane_standing (s : State) (l : LaneId) (c : LaneCtl) : (s.setLane l c).standing = s.standing := by cases l <;> rfl
@[simp] theorem State.setLane_overlay (s : State) (l : LaneId) (c : LaneCtl) : (s.setLane l c).overlay = s.overlay := by cases l <;> rfl
@[simp] theorem State.setLane_traps (s : State) (l : LaneId) (c : LaneCtl) : (s.setLane l c).traps = s.traps := by cases l <;> rfl
@[simp] theorem State.setLane_line (s : State) (l : LaneId) (c : LaneCtl) : (s.setLane l c).line = s.line := by cases l <;> rfl
@[simp] theorem State.setLane_memory (s : State) (l : LaneId) (c : LaneCtl) : (s.setLane l c).memory = s.memory := by cases l <;> rfl
@[simp] theorem State.setLane_attached (s : State) (l : LaneId) (c : LaneCtl) : (s.setLane l c).attached = s.attached := by cases l <;> rfl
@[simp] theorem State.setLane_slips (s : State) (l : LaneId) (c : LaneCtl) : (s.setLane l c).slips = s.slips := by cases l <;> rfl
@[simp] theorem State.setLane_clock (s : State) (l : LaneId) (c : LaneCtl) : (s.setLane l c).clock = s.clock := by cases l <;> rfl
@[simp] theorem State.setLane_upload (s : State) (l : LaneId) (c : LaneCtl) : (s.setLane l c).upload = s.upload := by cases l <;> rfl
@[simp] theorem State.setLane_port (s : State) (l : LaneId) (c : LaneCtl) : (s.setLane l c).port = s.port := by cases l <;> rfl
@[simp] theorem State.setLane_settings (s : State) (l : LaneId) (c : LaneCtl) : (s.setLane l c).settings = s.settings := by cases l <;> rfl
@[simp] theorem State.setLane_store (s : State) (l : LaneId) (c : LaneCtl) : (s.setLane l c).store = s.store := by cases l <;> rfl
@[simp] theorem State.setLane_races (s : State) (l : LaneId) (c : LaneCtl) : (s.setLane l c).races = s.races := by cases l <;> rfl

/-! ## `State.mapLane` -/

@[simp] theorem State.mapLane_pending (s : State) (l : LaneId) (f : LaneCtl → LaneCtl) : (s.mapLane l f).pending = s.pending := by cases l <;> rfl
@[simp] theorem State.mapLane_station (s : State) (l : LaneId) (f : LaneCtl → LaneCtl) : (s.mapLane l f).station = s.station := by cases l <;> rfl
@[simp] theorem State.mapLane_minimumTimer (s : State) (l : LaneId) (f : LaneCtl → LaneCtl) : (s.mapLane l f).minimumTimer = s.minimumTimer := by cases l <;> rfl
@[simp] theorem State.mapLane_quietTimer (s : State) (l : LaneId) (f : LaneCtl → LaneCtl) : (s.mapLane l f).quietTimer = s.quietTimer := by cases l <;> rfl
@[simp] theorem State.mapLane_wand0 (s : State) (l : LaneId) (f : LaneCtl → LaneCtl) : (s.mapLane l f).wand0 = s.wand0 := by cases l <;> rfl
@[simp] theorem State.mapLane_wand1 (s : State) (l : LaneId) (f : LaneCtl → LaneCtl) : (s.mapLane l f).wand1 = s.wand1 := by cases l <;> rfl
@[simp] theorem State.mapLane_decoding (s : State) (l : LaneId) (f : LaneCtl → LaneCtl) : (s.mapLane l f).decoding = s.decoding := by cases l <;> rfl
@[simp] theorem State.mapLane_reckoner (s : State) (l : LaneId) (f : LaneCtl → LaneCtl) : (s.mapLane l f).reckoner = s.reckoner := by cases l <;> rfl
@[simp] theorem State.mapLane_standing (s : State) (l : LaneId) (f : LaneCtl → LaneCtl) : (s.mapLane l f).standing = s.standing := by cases l <;> rfl
@[simp] theorem State.mapLane_overlay (s : State) (l : LaneId) (f : LaneCtl → LaneCtl) : (s.mapLane l f).overlay = s.overlay := by cases l <;> rfl
@[simp] theorem State.mapLane_traps (s : State) (l : LaneId) (f : LaneCtl → LaneCtl) : (s.mapLane l f).traps = s.traps := by cases l <;> rfl
@[simp] theorem State.mapLane_line (s : State) (l : LaneId) (f : LaneCtl → LaneCtl) : (s.mapLane l f).line = s.line := by cases l <;> rfl
@[simp] theorem State.mapLane_memory (s : State) (l : LaneId) (f : LaneCtl → LaneCtl) : (s.mapLane l f).memory = s.memory := by cases l <;> rfl
@[simp] theorem State.mapLane_attached (s : State) (l : LaneId) (f : LaneCtl → LaneCtl) : (s.mapLane l f).attached = s.attached := by cases l <;> rfl
@[simp] theorem State.mapLane_slips (s : State) (l : LaneId) (f : LaneCtl → LaneCtl) : (s.mapLane l f).slips = s.slips := by cases l <;> rfl
@[simp] theorem State.mapLane_clock (s : State) (l : LaneId) (f : LaneCtl → LaneCtl) : (s.mapLane l f).clock = s.clock := by cases l <;> rfl
@[simp] theorem State.mapLane_upload (s : State) (l : LaneId) (f : LaneCtl → LaneCtl) : (s.mapLane l f).upload = s.upload := by cases l <;> rfl
@[simp] theorem State.mapLane_port (s : State) (l : LaneId) (f : LaneCtl → LaneCtl) : (s.mapLane l f).port = s.port := by cases l <;> rfl
@[simp] theorem State.mapLane_settings (s : State) (l : LaneId) (f : LaneCtl → LaneCtl) : (s.mapLane l f).settings = s.settings := by cases l <;> rfl
@[simp] theorem State.mapLane_store (s : State) (l : LaneId) (f : LaneCtl → LaneCtl) : (s.mapLane l f).store = s.store := by cases l <;> rfl
@[simp] theorem State.mapLane_races (s : State) (l : LaneId) (f : LaneCtl → LaneCtl) : (s.mapLane l f).races = s.races := by cases l <;> rfl

/-! ## `State.mapTxn` -/

@[simp] theorem State.mapTxn_pending (s : State) (l : LaneId) (f : Txn → Txn) : (s.mapTxn l f).pending = s.pending := by cases l <;> rfl
@[simp] theorem State.mapTxn_station (s : State) (l : LaneId) (f : Txn → Txn) : (s.mapTxn l f).station = s.station := by cases l <;> rfl
@[simp] theorem State.mapTxn_minimumTimer (s : State) (l : LaneId) (f : Txn → Txn) : (s.mapTxn l f).minimumTimer = s.minimumTimer := by cases l <;> rfl
@[simp] theorem State.mapTxn_quietTimer (s : State) (l : LaneId) (f : Txn → Txn) : (s.mapTxn l f).quietTimer = s.quietTimer := by cases l <;> rfl
@[simp] theorem State.mapTxn_wand0 (s : State) (l : LaneId) (f : Txn → Txn) : (s.mapTxn l f).wand0 = s.wand0 := by cases l <;> rfl
@[simp] theorem State.mapTxn_wand1 (s : State) (l : LaneId) (f : Txn → Txn) : (s.mapTxn l f).wand1 = s.wand1 := by cases l <;> rfl
@[simp] theorem State.mapTxn_decoding (s : State) (l : LaneId) (f : Txn → Txn) : (s.mapTxn l f).decoding = s.decoding := by cases l <;> rfl
@[simp] theorem State.mapTxn_reckoner (s : State) (l : LaneId) (f : Txn → Txn) : (s.mapTxn l f).reckoner = s.reckoner := by cases l <;> rfl
@[simp] theorem State.mapTxn_standing (s : State) (l : LaneId) (f : Txn → Txn) : (s.mapTxn l f).standing = s.standing := by cases l <;> rfl
@[simp] theorem State.mapTxn_overlay (s : State) (l : LaneId) (f : Txn → Txn) : (s.mapTxn l f).overlay = s.overlay := by cases l <;> rfl
@[simp] theorem State.mapTxn_traps (s : State) (l : LaneId) (f : Txn → Txn) : (s.mapTxn l f).traps = s.traps := by cases l <;> rfl
@[simp] theorem State.mapTxn_line (s : State) (l : LaneId) (f : Txn → Txn) : (s.mapTxn l f).line = s.line := by cases l <;> rfl
@[simp] theorem State.mapTxn_memory (s : State) (l : LaneId) (f : Txn → Txn) : (s.mapTxn l f).memory = s.memory := by cases l <;> rfl
@[simp] theorem State.mapTxn_attached (s : State) (l : LaneId) (f : Txn → Txn) : (s.mapTxn l f).attached = s.attached := by cases l <;> rfl
@[simp] theorem State.mapTxn_slips (s : State) (l : LaneId) (f : Txn → Txn) : (s.mapTxn l f).slips = s.slips := by cases l <;> rfl
@[simp] theorem State.mapTxn_clock (s : State) (l : LaneId) (f : Txn → Txn) : (s.mapTxn l f).clock = s.clock := by cases l <;> rfl
@[simp] theorem State.mapTxn_upload (s : State) (l : LaneId) (f : Txn → Txn) : (s.mapTxn l f).upload = s.upload := by cases l <;> rfl
@[simp] theorem State.mapTxn_port (s : State) (l : LaneId) (f : Txn → Txn) : (s.mapTxn l f).port = s.port := by cases l <;> rfl
@[simp] theorem State.mapTxn_settings (s : State) (l : LaneId) (f : Txn → Txn) : (s.mapTxn l f).settings = s.settings := by cases l <;> rfl
@[simp] theorem State.mapTxn_store (s : State) (l : LaneId) (f : Txn → Txn) : (s.mapTxn l f).store = s.store := by cases l <;> rfl
@[simp] theorem State.mapTxn_races (s : State) (l : LaneId) (f : Txn → Txn) : (s.mapTxn l f).races = s.races := by cases l <;> rfl

/-! ## `State.setWand` -/

@[simp] theorem State.setWand_pending (s : State) (w : Wand) (x : FrontEnd) : (s.setWand w x).pending = s.pending := by cases w <;> rfl
@[simp] theorem State.setWand_station (s : State) (w : Wand) (x : FrontEnd) : (s.setWand w x).station = s.station := by cases w <;> rfl
@[simp] theorem State.setWand_minimumTimer (s : State) (w : Wand) (x : FrontEnd) : (s.setWand w x).minimumTimer = s.minimumTimer := by cases w <;> rfl
@[simp] theorem State.setWand_quietTimer (s : State) (w : Wand) (x : FrontEnd) : (s.setWand w x).quietTimer = s.quietTimer := by cases w <;> rfl
@[simp] theorem State.setWand_decoding (s : State) (w : Wand) (x : FrontEnd) : (s.setWand w x).decoding = s.decoding := by cases w <;> rfl
@[simp] theorem State.setWand_laneA (s : State) (w : Wand) (x : FrontEnd) : (s.setWand w x).laneA = s.laneA := by cases w <;> rfl
@[simp] theorem State.setWand_laneB (s : State) (w : Wand) (x : FrontEnd) : (s.setWand w x).laneB = s.laneB := by cases w <;> rfl
@[simp] theorem State.setWand_reckoner (s : State) (w : Wand) (x : FrontEnd) : (s.setWand w x).reckoner = s.reckoner := by cases w <;> rfl
@[simp] theorem State.setWand_standing (s : State) (w : Wand) (x : FrontEnd) : (s.setWand w x).standing = s.standing := by cases w <;> rfl
@[simp] theorem State.setWand_overlay (s : State) (w : Wand) (x : FrontEnd) : (s.setWand w x).overlay = s.overlay := by cases w <;> rfl
@[simp] theorem State.setWand_traps (s : State) (w : Wand) (x : FrontEnd) : (s.setWand w x).traps = s.traps := by cases w <;> rfl
@[simp] theorem State.setWand_line (s : State) (w : Wand) (x : FrontEnd) : (s.setWand w x).line = s.line := by cases w <;> rfl
@[simp] theorem State.setWand_memory (s : State) (w : Wand) (x : FrontEnd) : (s.setWand w x).memory = s.memory := by cases w <;> rfl
@[simp] theorem State.setWand_attached (s : State) (w : Wand) (x : FrontEnd) : (s.setWand w x).attached = s.attached := by cases w <;> rfl
@[simp] theorem State.setWand_slips (s : State) (w : Wand) (x : FrontEnd) : (s.setWand w x).slips = s.slips := by cases w <;> rfl
@[simp] theorem State.setWand_clock (s : State) (w : Wand) (x : FrontEnd) : (s.setWand w x).clock = s.clock := by cases w <;> rfl
@[simp] theorem State.setWand_upload (s : State) (w : Wand) (x : FrontEnd) : (s.setWand w x).upload = s.upload := by cases w <;> rfl
@[simp] theorem State.setWand_port (s : State) (w : Wand) (x : FrontEnd) : (s.setWand w x).port = s.port := by cases w <;> rfl
@[simp] theorem State.setWand_settings (s : State) (w : Wand) (x : FrontEnd) : (s.setWand w x).settings = s.settings := by cases w <;> rfl
@[simp] theorem State.setWand_store (s : State) (w : Wand) (x : FrontEnd) : (s.setWand w x).store = s.store := by cases w <;> rfl
@[simp] theorem State.setWand_races (s : State) (w : Wand) (x : FrontEnd) : (s.setWand w x).races = s.races := by cases w <;> rfl

/-! ## `State.mapWand` -/

@[simp] theorem State.mapWand_pending (s : State) (w : Wand) (f : FrontEnd → FrontEnd) : (s.mapWand w f).pending = s.pending := by cases w <;> rfl
@[simp] theorem State.mapWand_station (s : State) (w : Wand) (f : FrontEnd → FrontEnd) : (s.mapWand w f).station = s.station := by cases w <;> rfl
@[simp] theorem State.mapWand_minimumTimer (s : State) (w : Wand) (f : FrontEnd → FrontEnd) : (s.mapWand w f).minimumTimer = s.minimumTimer := by cases w <;> rfl
@[simp] theorem State.mapWand_quietTimer (s : State) (w : Wand) (f : FrontEnd → FrontEnd) : (s.mapWand w f).quietTimer = s.quietTimer := by cases w <;> rfl
@[simp] theorem State.mapWand_decoding (s : State) (w : Wand) (f : FrontEnd → FrontEnd) : (s.mapWand w f).decoding = s.decoding := by cases w <;> rfl
@[simp] theorem State.mapWand_laneA (s : State) (w : Wand) (f : FrontEnd → FrontEnd) : (s.mapWand w f).laneA = s.laneA := by cases w <;> rfl
@[simp] theorem State.mapWand_laneB (s : State) (w : Wand) (f : FrontEnd → FrontEnd) : (s.mapWand w f).laneB = s.laneB := by cases w <;> rfl
@[simp] theorem State.mapWand_reckoner (s : State) (w : Wand) (f : FrontEnd → FrontEnd) : (s.mapWand w f).reckoner = s.reckoner := by cases w <;> rfl
@[simp] theorem State.mapWand_standing (s : State) (w : Wand) (f : FrontEnd → FrontEnd) : (s.mapWand w f).standing = s.standing := by cases w <;> rfl
@[simp] theorem State.mapWand_overlay (s : State) (w : Wand) (f : FrontEnd → FrontEnd) : (s.mapWand w f).overlay = s.overlay := by cases w <;> rfl
@[simp] theorem State.mapWand_traps (s : State) (w : Wand) (f : FrontEnd → FrontEnd) : (s.mapWand w f).traps = s.traps := by cases w <;> rfl
@[simp] theorem State.mapWand_line (s : State) (w : Wand) (f : FrontEnd → FrontEnd) : (s.mapWand w f).line = s.line := by cases w <;> rfl
@[simp] theorem State.mapWand_memory (s : State) (w : Wand) (f : FrontEnd → FrontEnd) : (s.mapWand w f).memory = s.memory := by cases w <;> rfl
@[simp] theorem State.mapWand_attached (s : State) (w : Wand) (f : FrontEnd → FrontEnd) : (s.mapWand w f).attached = s.attached := by cases w <;> rfl
@[simp] theorem State.mapWand_slips (s : State) (w : Wand) (f : FrontEnd → FrontEnd) : (s.mapWand w f).slips = s.slips := by cases w <;> rfl
@[simp] theorem State.mapWand_clock (s : State) (w : Wand) (f : FrontEnd → FrontEnd) : (s.mapWand w f).clock = s.clock := by cases w <;> rfl
@[simp] theorem State.mapWand_upload (s : State) (w : Wand) (f : FrontEnd → FrontEnd) : (s.mapWand w f).upload = s.upload := by cases w <;> rfl
@[simp] theorem State.mapWand_port (s : State) (w : Wand) (f : FrontEnd → FrontEnd) : (s.mapWand w f).port = s.port := by cases w <;> rfl
@[simp] theorem State.mapWand_settings (s : State) (w : Wand) (f : FrontEnd → FrontEnd) : (s.mapWand w f).settings = s.settings := by cases w <;> rfl
@[simp] theorem State.mapWand_store (s : State) (w : Wand) (f : FrontEnd → FrontEnd) : (s.mapWand w f).store = s.store := by cases w <;> rfl
@[simp] theorem State.mapWand_races (s : State) (w : Wand) (f : FrontEnd → FrontEnd) : (s.mapWand w f).races = s.races := by cases w <;> rfl

/-! ## `State.tone` -/

@[simp] theorem State.tone_pending (s : State) (w : Wand) (x : Tone) : (s.tone w x).pending = s.pending := by cases w <;> rfl
@[simp] theorem State.tone_station (s : State) (w : Wand) (x : Tone) : (s.tone w x).station = s.station := by cases w <;> rfl
@[simp] theorem State.tone_minimumTimer (s : State) (w : Wand) (x : Tone) : (s.tone w x).minimumTimer = s.minimumTimer := by cases w <;> rfl
@[simp] theorem State.tone_quietTimer (s : State) (w : Wand) (x : Tone) : (s.tone w x).quietTimer = s.quietTimer := by cases w <;> rfl
@[simp] theorem State.tone_decoding (s : State) (w : Wand) (x : Tone) : (s.tone w x).decoding = s.decoding := by cases w <;> rfl
@[simp] theorem State.tone_laneA (s : State) (w : Wand) (x : Tone) : (s.tone w x).laneA = s.laneA := by cases w <;> rfl
@[simp] theorem State.tone_laneB (s : State) (w : Wand) (x : Tone) : (s.tone w x).laneB = s.laneB := by cases w <;> rfl
@[simp] theorem State.tone_reckoner (s : State) (w : Wand) (x : Tone) : (s.tone w x).reckoner = s.reckoner := by cases w <;> rfl
@[simp] theorem State.tone_standing (s : State) (w : Wand) (x : Tone) : (s.tone w x).standing = s.standing := by cases w <;> rfl
@[simp] theorem State.tone_overlay (s : State) (w : Wand) (x : Tone) : (s.tone w x).overlay = s.overlay := by cases w <;> rfl
@[simp] theorem State.tone_traps (s : State) (w : Wand) (x : Tone) : (s.tone w x).traps = s.traps := by cases w <;> rfl
@[simp] theorem State.tone_line (s : State) (w : Wand) (x : Tone) : (s.tone w x).line = s.line := by cases w <;> rfl
@[simp] theorem State.tone_memory (s : State) (w : Wand) (x : Tone) : (s.tone w x).memory = s.memory := by cases w <;> rfl
@[simp] theorem State.tone_attached (s : State) (w : Wand) (x : Tone) : (s.tone w x).attached = s.attached := by cases w <;> rfl
@[simp] theorem State.tone_slips (s : State) (w : Wand) (x : Tone) : (s.tone w x).slips = s.slips := by cases w <;> rfl
@[simp] theorem State.tone_clock (s : State) (w : Wand) (x : Tone) : (s.tone w x).clock = s.clock := by cases w <;> rfl
@[simp] theorem State.tone_upload (s : State) (w : Wand) (x : Tone) : (s.tone w x).upload = s.upload := by cases w <;> rfl
@[simp] theorem State.tone_port (s : State) (w : Wand) (x : Tone) : (s.tone w x).port = s.port := by cases w <;> rfl
@[simp] theorem State.tone_settings (s : State) (w : Wand) (x : Tone) : (s.tone w x).settings = s.settings := by cases w <;> rfl
@[simp] theorem State.tone_store (s : State) (w : Wand) (x : Tone) : (s.tone w x).store = s.store := by cases w <;> rfl
@[simp] theorem State.tone_races (s : State) (w : Wand) (x : Tone) : (s.tone w x).races = s.races := by cases w <;> rfl

/-! ## `State.setMemory` -/

@[simp] theorem State.setMemory_pending (s : State) (x : MemCtl) : (s.setMemory x).pending = s.pending := rfl
@[simp] theorem State.setMemory_station (s : State) (x : MemCtl) : (s.setMemory x).station = s.station := rfl
@[simp] theorem State.setMemory_minimumTimer (s : State) (x : MemCtl) : (s.setMemory x).minimumTimer = s.minimumTimer := rfl
@[simp] theorem State.setMemory_quietTimer (s : State) (x : MemCtl) : (s.setMemory x).quietTimer = s.quietTimer := rfl
@[simp] theorem State.setMemory_wand0 (s : State) (x : MemCtl) : (s.setMemory x).wand0 = s.wand0 := rfl
@[simp] theorem State.setMemory_wand1 (s : State) (x : MemCtl) : (s.setMemory x).wand1 = s.wand1 := rfl
@[simp] theorem State.setMemory_decoding (s : State) (x : MemCtl) : (s.setMemory x).decoding = s.decoding := rfl
@[simp] theorem State.setMemory_laneA (s : State) (x : MemCtl) : (s.setMemory x).laneA = s.laneA := rfl
@[simp] theorem State.setMemory_laneB (s : State) (x : MemCtl) : (s.setMemory x).laneB = s.laneB := rfl
@[simp] theorem State.setMemory_reckoner (s : State) (x : MemCtl) : (s.setMemory x).reckoner = s.reckoner := rfl
@[simp] theorem State.setMemory_standing (s : State) (x : MemCtl) : (s.setMemory x).standing = s.standing := rfl
@[simp] theorem State.setMemory_overlay (s : State) (x : MemCtl) : (s.setMemory x).overlay = s.overlay := rfl
@[simp] theorem State.setMemory_traps (s : State) (x : MemCtl) : (s.setMemory x).traps = s.traps := rfl
@[simp] theorem State.setMemory_line (s : State) (x : MemCtl) : (s.setMemory x).line = s.line := rfl
@[simp] theorem State.setMemory_memory (s : State) (x : MemCtl) : (s.setMemory x).memory = x := rfl
@[simp] theorem State.setMemory_attached (s : State) (x : MemCtl) : (s.setMemory x).attached = s.attached := rfl
@[simp] theorem State.setMemory_slips (s : State) (x : MemCtl) : (s.setMemory x).slips = s.slips := rfl
@[simp] theorem State.setMemory_clock (s : State) (x : MemCtl) : (s.setMemory x).clock = s.clock := rfl
@[simp] theorem State.setMemory_upload (s : State) (x : MemCtl) : (s.setMemory x).upload = s.upload := rfl
@[simp] theorem State.setMemory_port (s : State) (x : MemCtl) : (s.setMemory x).port = s.port := rfl
@[simp] theorem State.setMemory_settings (s : State) (x : MemCtl) : (s.setMemory x).settings = s.settings := rfl
@[simp] theorem State.setMemory_store (s : State) (x : MemCtl) : (s.setMemory x).store = s.store := rfl
@[simp] theorem State.setMemory_races (s : State) (x : MemCtl) : (s.setMemory x).races = s.races := rfl

/-! ## `State.setStanding` -/

@[simp] theorem State.setStanding_pending (s : State) (x : Standing) : (s.setStanding x).pending = s.pending := rfl
@[simp] theorem State.setStanding_station (s : State) (x : Standing) : (s.setStanding x).station = s.station := rfl
@[simp] theorem State.setStanding_minimumTimer (s : State) (x : Standing) : (s.setStanding x).minimumTimer = s.minimumTimer := rfl
@[simp] theorem State.setStanding_quietTimer (s : State) (x : Standing) : (s.setStanding x).quietTimer = s.quietTimer := rfl
@[simp] theorem State.setStanding_wand0 (s : State) (x : Standing) : (s.setStanding x).wand0 = s.wand0 := rfl
@[simp] theorem State.setStanding_wand1 (s : State) (x : Standing) : (s.setStanding x).wand1 = s.wand1 := rfl
@[simp] theorem State.setStanding_decoding (s : State) (x : Standing) : (s.setStanding x).decoding = s.decoding := rfl
@[simp] theorem State.setStanding_laneA (s : State) (x : Standing) : (s.setStanding x).laneA = s.laneA := rfl
@[simp] theorem State.setStanding_laneB (s : State) (x : Standing) : (s.setStanding x).laneB = s.laneB := rfl
@[simp] theorem State.setStanding_reckoner (s : State) (x : Standing) : (s.setStanding x).reckoner = s.reckoner := rfl
@[simp] theorem State.setStanding_standing (s : State) (x : Standing) : (s.setStanding x).standing = x := rfl
@[simp] theorem State.setStanding_overlay (s : State) (x : Standing) : (s.setStanding x).overlay = s.overlay := rfl
@[simp] theorem State.setStanding_traps (s : State) (x : Standing) : (s.setStanding x).traps = s.traps := rfl
@[simp] theorem State.setStanding_line (s : State) (x : Standing) : (s.setStanding x).line = s.line := rfl
@[simp] theorem State.setStanding_memory (s : State) (x : Standing) : (s.setStanding x).memory = s.memory := rfl
@[simp] theorem State.setStanding_attached (s : State) (x : Standing) : (s.setStanding x).attached = s.attached := rfl
@[simp] theorem State.setStanding_slips (s : State) (x : Standing) : (s.setStanding x).slips = s.slips := rfl
@[simp] theorem State.setStanding_clock (s : State) (x : Standing) : (s.setStanding x).clock = s.clock := rfl
@[simp] theorem State.setStanding_upload (s : State) (x : Standing) : (s.setStanding x).upload = s.upload := rfl
@[simp] theorem State.setStanding_port (s : State) (x : Standing) : (s.setStanding x).port = s.port := rfl
@[simp] theorem State.setStanding_settings (s : State) (x : Standing) : (s.setStanding x).settings = s.settings := rfl
@[simp] theorem State.setStanding_store (s : State) (x : Standing) : (s.setStanding x).store = s.store := rfl
@[simp] theorem State.setStanding_races (s : State) (x : Standing) : (s.setStanding x).races = s.races := rfl

/-! ## `State.setOverlay` -/

@[simp] theorem State.setOverlay_pending (s : State) (x : Overlay) : (s.setOverlay x).pending = s.pending := rfl
@[simp] theorem State.setOverlay_station (s : State) (x : Overlay) : (s.setOverlay x).station = s.station := rfl
@[simp] theorem State.setOverlay_minimumTimer (s : State) (x : Overlay) : (s.setOverlay x).minimumTimer = s.minimumTimer := rfl
@[simp] theorem State.setOverlay_quietTimer (s : State) (x : Overlay) : (s.setOverlay x).quietTimer = s.quietTimer := rfl
@[simp] theorem State.setOverlay_wand0 (s : State) (x : Overlay) : (s.setOverlay x).wand0 = s.wand0 := rfl
@[simp] theorem State.setOverlay_wand1 (s : State) (x : Overlay) : (s.setOverlay x).wand1 = s.wand1 := rfl
@[simp] theorem State.setOverlay_decoding (s : State) (x : Overlay) : (s.setOverlay x).decoding = s.decoding := rfl
@[simp] theorem State.setOverlay_laneA (s : State) (x : Overlay) : (s.setOverlay x).laneA = s.laneA := rfl
@[simp] theorem State.setOverlay_laneB (s : State) (x : Overlay) : (s.setOverlay x).laneB = s.laneB := rfl
@[simp] theorem State.setOverlay_reckoner (s : State) (x : Overlay) : (s.setOverlay x).reckoner = s.reckoner := rfl
@[simp] theorem State.setOverlay_standing (s : State) (x : Overlay) : (s.setOverlay x).standing = s.standing := rfl
@[simp] theorem State.setOverlay_overlay (s : State) (x : Overlay) : (s.setOverlay x).overlay = x := rfl
@[simp] theorem State.setOverlay_traps (s : State) (x : Overlay) : (s.setOverlay x).traps = s.traps := rfl
@[simp] theorem State.setOverlay_line (s : State) (x : Overlay) : (s.setOverlay x).line = s.line := rfl
@[simp] theorem State.setOverlay_memory (s : State) (x : Overlay) : (s.setOverlay x).memory = s.memory := rfl
@[simp] theorem State.setOverlay_attached (s : State) (x : Overlay) : (s.setOverlay x).attached = s.attached := rfl
@[simp] theorem State.setOverlay_slips (s : State) (x : Overlay) : (s.setOverlay x).slips = s.slips := rfl
@[simp] theorem State.setOverlay_clock (s : State) (x : Overlay) : (s.setOverlay x).clock = s.clock := rfl
@[simp] theorem State.setOverlay_upload (s : State) (x : Overlay) : (s.setOverlay x).upload = s.upload := rfl
@[simp] theorem State.setOverlay_port (s : State) (x : Overlay) : (s.setOverlay x).port = s.port := rfl
@[simp] theorem State.setOverlay_settings (s : State) (x : Overlay) : (s.setOverlay x).settings = s.settings := rfl
@[simp] theorem State.setOverlay_store (s : State) (x : Overlay) : (s.setOverlay x).store = s.store := rfl
@[simp] theorem State.setOverlay_races (s : State) (x : Overlay) : (s.setOverlay x).races = s.races := rfl

/-! ## `State.setTraps` -/

@[simp] theorem State.setTraps_pending (s : State) (x : List TrapRecord) : (s.setTraps x).pending = s.pending := rfl
@[simp] theorem State.setTraps_station (s : State) (x : List TrapRecord) : (s.setTraps x).station = s.station := rfl
@[simp] theorem State.setTraps_minimumTimer (s : State) (x : List TrapRecord) : (s.setTraps x).minimumTimer = s.minimumTimer := rfl
@[simp] theorem State.setTraps_quietTimer (s : State) (x : List TrapRecord) : (s.setTraps x).quietTimer = s.quietTimer := rfl
@[simp] theorem State.setTraps_wand0 (s : State) (x : List TrapRecord) : (s.setTraps x).wand0 = s.wand0 := rfl
@[simp] theorem State.setTraps_wand1 (s : State) (x : List TrapRecord) : (s.setTraps x).wand1 = s.wand1 := rfl
@[simp] theorem State.setTraps_decoding (s : State) (x : List TrapRecord) : (s.setTraps x).decoding = s.decoding := rfl
@[simp] theorem State.setTraps_laneA (s : State) (x : List TrapRecord) : (s.setTraps x).laneA = s.laneA := rfl
@[simp] theorem State.setTraps_laneB (s : State) (x : List TrapRecord) : (s.setTraps x).laneB = s.laneB := rfl
@[simp] theorem State.setTraps_reckoner (s : State) (x : List TrapRecord) : (s.setTraps x).reckoner = s.reckoner := rfl
@[simp] theorem State.setTraps_standing (s : State) (x : List TrapRecord) : (s.setTraps x).standing = s.standing := rfl
@[simp] theorem State.setTraps_overlay (s : State) (x : List TrapRecord) : (s.setTraps x).overlay = s.overlay := rfl
@[simp] theorem State.setTraps_traps (s : State) (x : List TrapRecord) : (s.setTraps x).traps = x := rfl
@[simp] theorem State.setTraps_line (s : State) (x : List TrapRecord) : (s.setTraps x).line = s.line := rfl
@[simp] theorem State.setTraps_memory (s : State) (x : List TrapRecord) : (s.setTraps x).memory = s.memory := rfl
@[simp] theorem State.setTraps_attached (s : State) (x : List TrapRecord) : (s.setTraps x).attached = s.attached := rfl
@[simp] theorem State.setTraps_slips (s : State) (x : List TrapRecord) : (s.setTraps x).slips = s.slips := rfl
@[simp] theorem State.setTraps_clock (s : State) (x : List TrapRecord) : (s.setTraps x).clock = s.clock := rfl
@[simp] theorem State.setTraps_upload (s : State) (x : List TrapRecord) : (s.setTraps x).upload = s.upload := rfl
@[simp] theorem State.setTraps_port (s : State) (x : List TrapRecord) : (s.setTraps x).port = s.port := rfl
@[simp] theorem State.setTraps_settings (s : State) (x : List TrapRecord) : (s.setTraps x).settings = s.settings := rfl
@[simp] theorem State.setTraps_store (s : State) (x : List TrapRecord) : (s.setTraps x).store = s.store := rfl
@[simp] theorem State.setTraps_races (s : State) (x : List TrapRecord) : (s.setTraps x).races = s.races := rfl

/-! ## `State.setUpload` -/

@[simp] theorem State.setUpload_pending (s : State) (x : Upload) : (s.setUpload x).pending = s.pending := rfl
@[simp] theorem State.setUpload_station (s : State) (x : Upload) : (s.setUpload x).station = s.station := rfl
@[simp] theorem State.setUpload_minimumTimer (s : State) (x : Upload) : (s.setUpload x).minimumTimer = s.minimumTimer := rfl
@[simp] theorem State.setUpload_quietTimer (s : State) (x : Upload) : (s.setUpload x).quietTimer = s.quietTimer := rfl
@[simp] theorem State.setUpload_wand0 (s : State) (x : Upload) : (s.setUpload x).wand0 = s.wand0 := rfl
@[simp] theorem State.setUpload_wand1 (s : State) (x : Upload) : (s.setUpload x).wand1 = s.wand1 := rfl
@[simp] theorem State.setUpload_decoding (s : State) (x : Upload) : (s.setUpload x).decoding = s.decoding := rfl
@[simp] theorem State.setUpload_laneA (s : State) (x : Upload) : (s.setUpload x).laneA = s.laneA := rfl
@[simp] theorem State.setUpload_laneB (s : State) (x : Upload) : (s.setUpload x).laneB = s.laneB := rfl
@[simp] theorem State.setUpload_reckoner (s : State) (x : Upload) : (s.setUpload x).reckoner = s.reckoner := rfl
@[simp] theorem State.setUpload_standing (s : State) (x : Upload) : (s.setUpload x).standing = s.standing := rfl
@[simp] theorem State.setUpload_overlay (s : State) (x : Upload) : (s.setUpload x).overlay = s.overlay := rfl
@[simp] theorem State.setUpload_traps (s : State) (x : Upload) : (s.setUpload x).traps = s.traps := rfl
@[simp] theorem State.setUpload_line (s : State) (x : Upload) : (s.setUpload x).line = s.line := rfl
@[simp] theorem State.setUpload_memory (s : State) (x : Upload) : (s.setUpload x).memory = s.memory := rfl
@[simp] theorem State.setUpload_attached (s : State) (x : Upload) : (s.setUpload x).attached = s.attached := rfl
@[simp] theorem State.setUpload_slips (s : State) (x : Upload) : (s.setUpload x).slips = s.slips := rfl
@[simp] theorem State.setUpload_clock (s : State) (x : Upload) : (s.setUpload x).clock = s.clock := rfl
@[simp] theorem State.setUpload_upload (s : State) (x : Upload) : (s.setUpload x).upload = x := rfl
@[simp] theorem State.setUpload_port (s : State) (x : Upload) : (s.setUpload x).port = s.port := rfl
@[simp] theorem State.setUpload_settings (s : State) (x : Upload) : (s.setUpload x).settings = s.settings := rfl
@[simp] theorem State.setUpload_store (s : State) (x : Upload) : (s.setUpload x).store = s.store := rfl
@[simp] theorem State.setUpload_races (s : State) (x : Upload) : (s.setUpload x).races = s.races := rfl

/-! ## `State.setReckoner` -/

@[simp] theorem State.setReckoner_pending (s : State) (x : Reckoner) : (s.setReckoner x).pending = s.pending := rfl
@[simp] theorem State.setReckoner_station (s : State) (x : Reckoner) : (s.setReckoner x).station = s.station := rfl
@[simp] theorem State.setReckoner_minimumTimer (s : State) (x : Reckoner) : (s.setReckoner x).minimumTimer = s.minimumTimer := rfl
@[simp] theorem State.setReckoner_quietTimer (s : State) (x : Reckoner) : (s.setReckoner x).quietTimer = s.quietTimer := rfl
@[simp] theorem State.setReckoner_wand0 (s : State) (x : Reckoner) : (s.setReckoner x).wand0 = s.wand0 := rfl
@[simp] theorem State.setReckoner_wand1 (s : State) (x : Reckoner) : (s.setReckoner x).wand1 = s.wand1 := rfl
@[simp] theorem State.setReckoner_decoding (s : State) (x : Reckoner) : (s.setReckoner x).decoding = s.decoding := rfl
@[simp] theorem State.setReckoner_laneA (s : State) (x : Reckoner) : (s.setReckoner x).laneA = s.laneA := rfl
@[simp] theorem State.setReckoner_laneB (s : State) (x : Reckoner) : (s.setReckoner x).laneB = s.laneB := rfl
@[simp] theorem State.setReckoner_reckoner (s : State) (x : Reckoner) : (s.setReckoner x).reckoner = x := rfl
@[simp] theorem State.setReckoner_standing (s : State) (x : Reckoner) : (s.setReckoner x).standing = s.standing := rfl
@[simp] theorem State.setReckoner_overlay (s : State) (x : Reckoner) : (s.setReckoner x).overlay = s.overlay := rfl
@[simp] theorem State.setReckoner_traps (s : State) (x : Reckoner) : (s.setReckoner x).traps = s.traps := rfl
@[simp] theorem State.setReckoner_line (s : State) (x : Reckoner) : (s.setReckoner x).line = s.line := rfl
@[simp] theorem State.setReckoner_memory (s : State) (x : Reckoner) : (s.setReckoner x).memory = s.memory := rfl
@[simp] theorem State.setReckoner_attached (s : State) (x : Reckoner) : (s.setReckoner x).attached = s.attached := rfl
@[simp] theorem State.setReckoner_slips (s : State) (x : Reckoner) : (s.setReckoner x).slips = s.slips := rfl
@[simp] theorem State.setReckoner_clock (s : State) (x : Reckoner) : (s.setReckoner x).clock = s.clock := rfl
@[simp] theorem State.setReckoner_upload (s : State) (x : Reckoner) : (s.setReckoner x).upload = s.upload := rfl
@[simp] theorem State.setReckoner_port (s : State) (x : Reckoner) : (s.setReckoner x).port = s.port := rfl
@[simp] theorem State.setReckoner_settings (s : State) (x : Reckoner) : (s.setReckoner x).settings = s.settings := rfl
@[simp] theorem State.setReckoner_store (s : State) (x : Reckoner) : (s.setReckoner x).store = s.store := rfl
@[simp] theorem State.setReckoner_races (s : State) (x : Reckoner) : (s.setReckoner x).races = s.races := rfl

/-! ## `State.mapLine` -/

@[simp] theorem State.mapLine_pending (s : State) (f : LineCtl → LineCtl) : (s.mapLine f).pending = s.pending := rfl
@[simp] theorem State.mapLine_station (s : State) (f : LineCtl → LineCtl) : (s.mapLine f).station = s.station := rfl
@[simp] theorem State.mapLine_minimumTimer (s : State) (f : LineCtl → LineCtl) : (s.mapLine f).minimumTimer = s.minimumTimer := rfl
@[simp] theorem State.mapLine_quietTimer (s : State) (f : LineCtl → LineCtl) : (s.mapLine f).quietTimer = s.quietTimer := rfl
@[simp] theorem State.mapLine_wand0 (s : State) (f : LineCtl → LineCtl) : (s.mapLine f).wand0 = s.wand0 := rfl
@[simp] theorem State.mapLine_wand1 (s : State) (f : LineCtl → LineCtl) : (s.mapLine f).wand1 = s.wand1 := rfl
@[simp] theorem State.mapLine_decoding (s : State) (f : LineCtl → LineCtl) : (s.mapLine f).decoding = s.decoding := rfl
@[simp] theorem State.mapLine_laneA (s : State) (f : LineCtl → LineCtl) : (s.mapLine f).laneA = s.laneA := rfl
@[simp] theorem State.mapLine_laneB (s : State) (f : LineCtl → LineCtl) : (s.mapLine f).laneB = s.laneB := rfl
@[simp] theorem State.mapLine_reckoner (s : State) (f : LineCtl → LineCtl) : (s.mapLine f).reckoner = s.reckoner := rfl
@[simp] theorem State.mapLine_standing (s : State) (f : LineCtl → LineCtl) : (s.mapLine f).standing = s.standing := rfl
@[simp] theorem State.mapLine_overlay (s : State) (f : LineCtl → LineCtl) : (s.mapLine f).overlay = s.overlay := rfl
@[simp] theorem State.mapLine_traps (s : State) (f : LineCtl → LineCtl) : (s.mapLine f).traps = s.traps := rfl
@[simp] theorem State.mapLine_line (s : State) (f : LineCtl → LineCtl) : (s.mapLine f).line = f s.line := rfl
@[simp] theorem State.mapLine_memory (s : State) (f : LineCtl → LineCtl) : (s.mapLine f).memory = s.memory := rfl
@[simp] theorem State.mapLine_attached (s : State) (f : LineCtl → LineCtl) : (s.mapLine f).attached = s.attached := rfl
@[simp] theorem State.mapLine_slips (s : State) (f : LineCtl → LineCtl) : (s.mapLine f).slips = s.slips := rfl
@[simp] theorem State.mapLine_clock (s : State) (f : LineCtl → LineCtl) : (s.mapLine f).clock = s.clock := rfl
@[simp] theorem State.mapLine_upload (s : State) (f : LineCtl → LineCtl) : (s.mapLine f).upload = s.upload := rfl
@[simp] theorem State.mapLine_port (s : State) (f : LineCtl → LineCtl) : (s.mapLine f).port = s.port := rfl
@[simp] theorem State.mapLine_settings (s : State) (f : LineCtl → LineCtl) : (s.mapLine f).settings = s.settings := rfl
@[simp] theorem State.mapLine_store (s : State) (f : LineCtl → LineCtl) : (s.mapLine f).store = s.store := rfl
@[simp] theorem State.mapLine_races (s : State) (f : LineCtl → LineCtl) : (s.mapLine f).races = s.races := rfl

/-! ## `State.mapPort` -/

@[simp] theorem State.mapPort_pending (s : State) (f : Port → Port) : (s.mapPort f).pending = s.pending := rfl
@[simp] theorem State.mapPort_station (s : State) (f : Port → Port) : (s.mapPort f).station = s.station := rfl
@[simp] theorem State.mapPort_minimumTimer (s : State) (f : Port → Port) : (s.mapPort f).minimumTimer = s.minimumTimer := rfl
@[simp] theorem State.mapPort_quietTimer (s : State) (f : Port → Port) : (s.mapPort f).quietTimer = s.quietTimer := rfl
@[simp] theorem State.mapPort_wand0 (s : State) (f : Port → Port) : (s.mapPort f).wand0 = s.wand0 := rfl
@[simp] theorem State.mapPort_wand1 (s : State) (f : Port → Port) : (s.mapPort f).wand1 = s.wand1 := rfl
@[simp] theorem State.mapPort_decoding (s : State) (f : Port → Port) : (s.mapPort f).decoding = s.decoding := rfl
@[simp] theorem State.mapPort_laneA (s : State) (f : Port → Port) : (s.mapPort f).laneA = s.laneA := rfl
@[simp] theorem State.mapPort_laneB (s : State) (f : Port → Port) : (s.mapPort f).laneB = s.laneB := rfl
@[simp] theorem State.mapPort_reckoner (s : State) (f : Port → Port) : (s.mapPort f).reckoner = s.reckoner := rfl
@[simp] theorem State.mapPort_standing (s : State) (f : Port → Port) : (s.mapPort f).standing = s.standing := rfl
@[simp] theorem State.mapPort_overlay (s : State) (f : Port → Port) : (s.mapPort f).overlay = s.overlay := rfl
@[simp] theorem State.mapPort_traps (s : State) (f : Port → Port) : (s.mapPort f).traps = s.traps := rfl
@[simp] theorem State.mapPort_line (s : State) (f : Port → Port) : (s.mapPort f).line = s.line := rfl
@[simp] theorem State.mapPort_memory (s : State) (f : Port → Port) : (s.mapPort f).memory = s.memory := rfl
@[simp] theorem State.mapPort_attached (s : State) (f : Port → Port) : (s.mapPort f).attached = s.attached := rfl
@[simp] theorem State.mapPort_slips (s : State) (f : Port → Port) : (s.mapPort f).slips = s.slips := rfl
@[simp] theorem State.mapPort_clock (s : State) (f : Port → Port) : (s.mapPort f).clock = s.clock := rfl
@[simp] theorem State.mapPort_upload (s : State) (f : Port → Port) : (s.mapPort f).upload = s.upload := rfl
@[simp] theorem State.mapPort_port (s : State) (f : Port → Port) : (s.mapPort f).port = f s.port := rfl
@[simp] theorem State.mapPort_settings (s : State) (f : Port → Port) : (s.mapPort f).settings = s.settings := rfl
@[simp] theorem State.mapPort_store (s : State) (f : Port → Port) : (s.mapPort f).store = s.store := rfl
@[simp] theorem State.mapPort_races (s : State) (f : Port → Port) : (s.mapPort f).races = s.races := rfl

/-! ## `State.mapClock` -/

@[simp] theorem State.mapClock_pending (s : State) (f : Clock → Clock) : (s.mapClock f).pending = s.pending := rfl
@[simp] theorem State.mapClock_station (s : State) (f : Clock → Clock) : (s.mapClock f).station = s.station := rfl
@[simp] theorem State.mapClock_minimumTimer (s : State) (f : Clock → Clock) : (s.mapClock f).minimumTimer = s.minimumTimer := rfl
@[simp] theorem State.mapClock_quietTimer (s : State) (f : Clock → Clock) : (s.mapClock f).quietTimer = s.quietTimer := rfl
@[simp] theorem State.mapClock_wand0 (s : State) (f : Clock → Clock) : (s.mapClock f).wand0 = s.wand0 := rfl
@[simp] theorem State.mapClock_wand1 (s : State) (f : Clock → Clock) : (s.mapClock f).wand1 = s.wand1 := rfl
@[simp] theorem State.mapClock_decoding (s : State) (f : Clock → Clock) : (s.mapClock f).decoding = s.decoding := rfl
@[simp] theorem State.mapClock_laneA (s : State) (f : Clock → Clock) : (s.mapClock f).laneA = s.laneA := rfl
@[simp] theorem State.mapClock_laneB (s : State) (f : Clock → Clock) : (s.mapClock f).laneB = s.laneB := rfl
@[simp] theorem State.mapClock_reckoner (s : State) (f : Clock → Clock) : (s.mapClock f).reckoner = s.reckoner := rfl
@[simp] theorem State.mapClock_standing (s : State) (f : Clock → Clock) : (s.mapClock f).standing = s.standing := rfl
@[simp] theorem State.mapClock_overlay (s : State) (f : Clock → Clock) : (s.mapClock f).overlay = s.overlay := rfl
@[simp] theorem State.mapClock_traps (s : State) (f : Clock → Clock) : (s.mapClock f).traps = s.traps := rfl
@[simp] theorem State.mapClock_line (s : State) (f : Clock → Clock) : (s.mapClock f).line = s.line := rfl
@[simp] theorem State.mapClock_memory (s : State) (f : Clock → Clock) : (s.mapClock f).memory = s.memory := rfl
@[simp] theorem State.mapClock_attached (s : State) (f : Clock → Clock) : (s.mapClock f).attached = s.attached := rfl
@[simp] theorem State.mapClock_slips (s : State) (f : Clock → Clock) : (s.mapClock f).slips = s.slips := rfl
@[simp] theorem State.mapClock_clock (s : State) (f : Clock → Clock) : (s.mapClock f).clock = f s.clock := rfl
@[simp] theorem State.mapClock_upload (s : State) (f : Clock → Clock) : (s.mapClock f).upload = s.upload := rfl
@[simp] theorem State.mapClock_port (s : State) (f : Clock → Clock) : (s.mapClock f).port = s.port := rfl
@[simp] theorem State.mapClock_settings (s : State) (f : Clock → Clock) : (s.mapClock f).settings = s.settings := rfl
@[simp] theorem State.mapClock_store (s : State) (f : Clock → Clock) : (s.mapClock f).store = s.store := rfl
@[simp] theorem State.mapClock_races (s : State) (f : Clock → Clock) : (s.mapClock f).races = s.races := rfl

/-! ## `State.mapSlips` -/

@[simp] theorem State.mapSlips_pending (s : State) (f : SlipUnit → SlipUnit) : (s.mapSlips f).pending = s.pending := rfl
@[simp] theorem State.mapSlips_station (s : State) (f : SlipUnit → SlipUnit) : (s.mapSlips f).station = s.station := rfl
@[simp] theorem State.mapSlips_minimumTimer (s : State) (f : SlipUnit → SlipUnit) : (s.mapSlips f).minimumTimer = s.minimumTimer := rfl
@[simp] theorem State.mapSlips_quietTimer (s : State) (f : SlipUnit → SlipUnit) : (s.mapSlips f).quietTimer = s.quietTimer := rfl
@[simp] theorem State.mapSlips_wand0 (s : State) (f : SlipUnit → SlipUnit) : (s.mapSlips f).wand0 = s.wand0 := rfl
@[simp] theorem State.mapSlips_wand1 (s : State) (f : SlipUnit → SlipUnit) : (s.mapSlips f).wand1 = s.wand1 := rfl
@[simp] theorem State.mapSlips_decoding (s : State) (f : SlipUnit → SlipUnit) : (s.mapSlips f).decoding = s.decoding := rfl
@[simp] theorem State.mapSlips_laneA (s : State) (f : SlipUnit → SlipUnit) : (s.mapSlips f).laneA = s.laneA := rfl
@[simp] theorem State.mapSlips_laneB (s : State) (f : SlipUnit → SlipUnit) : (s.mapSlips f).laneB = s.laneB := rfl
@[simp] theorem State.mapSlips_reckoner (s : State) (f : SlipUnit → SlipUnit) : (s.mapSlips f).reckoner = s.reckoner := rfl
@[simp] theorem State.mapSlips_standing (s : State) (f : SlipUnit → SlipUnit) : (s.mapSlips f).standing = s.standing := rfl
@[simp] theorem State.mapSlips_overlay (s : State) (f : SlipUnit → SlipUnit) : (s.mapSlips f).overlay = s.overlay := rfl
@[simp] theorem State.mapSlips_traps (s : State) (f : SlipUnit → SlipUnit) : (s.mapSlips f).traps = s.traps := rfl
@[simp] theorem State.mapSlips_line (s : State) (f : SlipUnit → SlipUnit) : (s.mapSlips f).line = s.line := rfl
@[simp] theorem State.mapSlips_memory (s : State) (f : SlipUnit → SlipUnit) : (s.mapSlips f).memory = s.memory := rfl
@[simp] theorem State.mapSlips_attached (s : State) (f : SlipUnit → SlipUnit) : (s.mapSlips f).attached = s.attached := rfl
@[simp] theorem State.mapSlips_slips (s : State) (f : SlipUnit → SlipUnit) : (s.mapSlips f).slips = f s.slips := rfl
@[simp] theorem State.mapSlips_clock (s : State) (f : SlipUnit → SlipUnit) : (s.mapSlips f).clock = s.clock := rfl
@[simp] theorem State.mapSlips_upload (s : State) (f : SlipUnit → SlipUnit) : (s.mapSlips f).upload = s.upload := rfl
@[simp] theorem State.mapSlips_port (s : State) (f : SlipUnit → SlipUnit) : (s.mapSlips f).port = s.port := rfl
@[simp] theorem State.mapSlips_settings (s : State) (f : SlipUnit → SlipUnit) : (s.mapSlips f).settings = s.settings := rfl
@[simp] theorem State.mapSlips_store (s : State) (f : SlipUnit → SlipUnit) : (s.mapSlips f).store = s.store := rfl
@[simp] theorem State.mapSlips_races (s : State) (f : SlipUnit → SlipUnit) : (s.mapSlips f).races = s.races := rfl

/-! ## `State.mapSettings` -/

@[simp] theorem State.mapSettings_pending (s : State) (f : SettingsCtl → SettingsCtl) : (s.mapSettings f).pending = s.pending := rfl
@[simp] theorem State.mapSettings_station (s : State) (f : SettingsCtl → SettingsCtl) : (s.mapSettings f).station = s.station := rfl
@[simp] theorem State.mapSettings_minimumTimer (s : State) (f : SettingsCtl → SettingsCtl) : (s.mapSettings f).minimumTimer = s.minimumTimer := rfl
@[simp] theorem State.mapSettings_quietTimer (s : State) (f : SettingsCtl → SettingsCtl) : (s.mapSettings f).quietTimer = s.quietTimer := rfl
@[simp] theorem State.mapSettings_wand0 (s : State) (f : SettingsCtl → SettingsCtl) : (s.mapSettings f).wand0 = s.wand0 := rfl
@[simp] theorem State.mapSettings_wand1 (s : State) (f : SettingsCtl → SettingsCtl) : (s.mapSettings f).wand1 = s.wand1 := rfl
@[simp] theorem State.mapSettings_decoding (s : State) (f : SettingsCtl → SettingsCtl) : (s.mapSettings f).decoding = s.decoding := rfl
@[simp] theorem State.mapSettings_laneA (s : State) (f : SettingsCtl → SettingsCtl) : (s.mapSettings f).laneA = s.laneA := rfl
@[simp] theorem State.mapSettings_laneB (s : State) (f : SettingsCtl → SettingsCtl) : (s.mapSettings f).laneB = s.laneB := rfl
@[simp] theorem State.mapSettings_reckoner (s : State) (f : SettingsCtl → SettingsCtl) : (s.mapSettings f).reckoner = s.reckoner := rfl
@[simp] theorem State.mapSettings_standing (s : State) (f : SettingsCtl → SettingsCtl) : (s.mapSettings f).standing = s.standing := rfl
@[simp] theorem State.mapSettings_overlay (s : State) (f : SettingsCtl → SettingsCtl) : (s.mapSettings f).overlay = s.overlay := rfl
@[simp] theorem State.mapSettings_traps (s : State) (f : SettingsCtl → SettingsCtl) : (s.mapSettings f).traps = s.traps := rfl
@[simp] theorem State.mapSettings_line (s : State) (f : SettingsCtl → SettingsCtl) : (s.mapSettings f).line = s.line := rfl
@[simp] theorem State.mapSettings_memory (s : State) (f : SettingsCtl → SettingsCtl) : (s.mapSettings f).memory = s.memory := rfl
@[simp] theorem State.mapSettings_attached (s : State) (f : SettingsCtl → SettingsCtl) : (s.mapSettings f).attached = s.attached := rfl
@[simp] theorem State.mapSettings_slips (s : State) (f : SettingsCtl → SettingsCtl) : (s.mapSettings f).slips = s.slips := rfl
@[simp] theorem State.mapSettings_clock (s : State) (f : SettingsCtl → SettingsCtl) : (s.mapSettings f).clock = s.clock := rfl
@[simp] theorem State.mapSettings_upload (s : State) (f : SettingsCtl → SettingsCtl) : (s.mapSettings f).upload = s.upload := rfl
@[simp] theorem State.mapSettings_port (s : State) (f : SettingsCtl → SettingsCtl) : (s.mapSettings f).port = s.port := rfl
@[simp] theorem State.mapSettings_settings (s : State) (f : SettingsCtl → SettingsCtl) : (s.mapSettings f).settings = f s.settings := rfl
@[simp] theorem State.mapSettings_store (s : State) (f : SettingsCtl → SettingsCtl) : (s.mapSettings f).store = s.store := rfl
@[simp] theorem State.mapSettings_races (s : State) (f : SettingsCtl → SettingsCtl) : (s.mapSettings f).races = s.races := rfl

/-! ## `State.answer` -/

@[simp] theorem State.answer_pending (s : State) (r : Reply) : (s.answer r).pending = s.pending := rfl
@[simp] theorem State.answer_station (s : State) (r : Reply) : (s.answer r).station = s.station := rfl
@[simp] theorem State.answer_minimumTimer (s : State) (r : Reply) : (s.answer r).minimumTimer = s.minimumTimer := rfl
@[simp] theorem State.answer_quietTimer (s : State) (r : Reply) : (s.answer r).quietTimer = s.quietTimer := rfl
@[simp] theorem State.answer_wand0 (s : State) (r : Reply) : (s.answer r).wand0 = s.wand0 := rfl
@[simp] theorem State.answer_wand1 (s : State) (r : Reply) : (s.answer r).wand1 = s.wand1 := rfl
@[simp] theorem State.answer_decoding (s : State) (r : Reply) : (s.answer r).decoding = s.decoding := rfl
@[simp] theorem State.answer_laneA (s : State) (r : Reply) : (s.answer r).laneA = s.laneA := rfl
@[simp] theorem State.answer_laneB (s : State) (r : Reply) : (s.answer r).laneB = s.laneB := rfl
@[simp] theorem State.answer_reckoner (s : State) (r : Reply) : (s.answer r).reckoner = s.reckoner := rfl
@[simp] theorem State.answer_standing (s : State) (r : Reply) : (s.answer r).standing = s.standing := rfl
@[simp] theorem State.answer_overlay (s : State) (r : Reply) : (s.answer r).overlay = s.overlay := rfl
@[simp] theorem State.answer_traps (s : State) (r : Reply) : (s.answer r).traps = s.traps := rfl
@[simp] theorem State.answer_line (s : State) (r : Reply) : (s.answer r).line = s.line := rfl
@[simp] theorem State.answer_memory (s : State) (r : Reply) : (s.answer r).memory = s.memory := rfl
@[simp] theorem State.answer_attached (s : State) (r : Reply) : (s.answer r).attached = s.attached := rfl
@[simp] theorem State.answer_slips (s : State) (r : Reply) : (s.answer r).slips = s.slips := rfl
@[simp] theorem State.answer_clock (s : State) (r : Reply) : (s.answer r).clock = s.clock := rfl
@[simp] theorem State.answer_upload (s : State) (r : Reply) : (s.answer r).upload = s.upload := rfl
@[simp] theorem State.answer_port (s : State) (r : Reply) : (s.answer r).port = { s.port with answer := r.code :: r.bytes, frame := .answering r.effect } := rfl
@[simp] theorem State.answer_settings (s : State) (r : Reply) : (s.answer r).settings = s.settings := rfl
@[simp] theorem State.answer_store (s : State) (r : Reply) : (s.answer r).store = s.store := rfl
@[simp] theorem State.answer_races (s : State) (r : Reply) : (s.answer r).races = s.races := rfl

/-! ## `State.clearCause` -/

@[simp] theorem State.clearCause_pending (s : State) (k : Nat) : (s.clearCause k).pending = s.pending := rfl
@[simp] theorem State.clearCause_station (s : State) (k : Nat) : (s.clearCause k).station = s.station := rfl
@[simp] theorem State.clearCause_minimumTimer (s : State) (k : Nat) : (s.clearCause k).minimumTimer = s.minimumTimer := rfl
@[simp] theorem State.clearCause_quietTimer (s : State) (k : Nat) : (s.clearCause k).quietTimer = s.quietTimer := rfl
@[simp] theorem State.clearCause_wand0 (s : State) (k : Nat) : (s.clearCause k).wand0 = s.wand0 := rfl
@[simp] theorem State.clearCause_wand1 (s : State) (k : Nat) : (s.clearCause k).wand1 = s.wand1 := rfl
@[simp] theorem State.clearCause_decoding (s : State) (k : Nat) : (s.clearCause k).decoding = s.decoding := rfl
@[simp] theorem State.clearCause_laneA (s : State) (k : Nat) : (s.clearCause k).laneA = s.laneA := rfl
@[simp] theorem State.clearCause_laneB (s : State) (k : Nat) : (s.clearCause k).laneB = s.laneB := rfl
@[simp] theorem State.clearCause_reckoner (s : State) (k : Nat) : (s.clearCause k).reckoner = s.reckoner := rfl
@[simp] theorem State.clearCause_standing (s : State) (k : Nat) : (s.clearCause k).standing = s.standing := rfl
@[simp] theorem State.clearCause_overlay (s : State) (k : Nat) : (s.clearCause k).overlay = s.overlay := rfl
@[simp] theorem State.clearCause_traps (s : State) (k : Nat) : (s.clearCause k).traps = s.traps := rfl
@[simp] theorem State.clearCause_line (s : State) (k : Nat) : (s.clearCause k).line = s.line := rfl
@[simp] theorem State.clearCause_memory (s : State) (k : Nat) : (s.clearCause k).memory = s.memory := rfl
@[simp] theorem State.clearCause_attached (s : State) (k : Nat) : (s.clearCause k).attached = s.attached := rfl
@[simp] theorem State.clearCause_slips (s : State) (k : Nat) : (s.clearCause k).slips = s.slips := rfl
@[simp] theorem State.clearCause_clock (s : State) (k : Nat) : (s.clearCause k).clock = s.clock := rfl
@[simp] theorem State.clearCause_upload (s : State) (k : Nat) : (s.clearCause k).upload = s.upload := rfl
@[simp] theorem State.clearCause_port (s : State) (k : Nat) : (s.clearCause k).port = { s.port with pending := s.port.pending &&& ~~~ causeBit k } := rfl
@[simp] theorem State.clearCause_settings (s : State) (k : Nat) : (s.clearCause k).settings = s.settings := rfl
@[simp] theorem State.clearCause_store (s : State) (k : Nat) : (s.clearCause k).store = s.store := rfl
@[simp] theorem State.clearCause_races (s : State) (k : Nat) : (s.clearCause k).races = s.races := rfl

/-! ## `State.latch` changes the pending causes alone (R182) -/

@[simp] theorem State.latch_pending (s : State) (k : Nat) : (s.latch k).pending = s.pending := by unfold State.latch; split <;> rfl
@[simp] theorem State.latch_station (s : State) (k : Nat) : (s.latch k).station = s.station := by unfold State.latch; split <;> rfl
@[simp] theorem State.latch_minimumTimer (s : State) (k : Nat) : (s.latch k).minimumTimer = s.minimumTimer := by unfold State.latch; split <;> rfl
@[simp] theorem State.latch_quietTimer (s : State) (k : Nat) : (s.latch k).quietTimer = s.quietTimer := by unfold State.latch; split <;> rfl
@[simp] theorem State.latch_wand0 (s : State) (k : Nat) : (s.latch k).wand0 = s.wand0 := by unfold State.latch; split <;> rfl
@[simp] theorem State.latch_wand1 (s : State) (k : Nat) : (s.latch k).wand1 = s.wand1 := by unfold State.latch; split <;> rfl
@[simp] theorem State.latch_decoding (s : State) (k : Nat) : (s.latch k).decoding = s.decoding := by unfold State.latch; split <;> rfl
@[simp] theorem State.latch_laneA (s : State) (k : Nat) : (s.latch k).laneA = s.laneA := by unfold State.latch; split <;> rfl
@[simp] theorem State.latch_laneB (s : State) (k : Nat) : (s.latch k).laneB = s.laneB := by unfold State.latch; split <;> rfl
@[simp] theorem State.latch_reckoner (s : State) (k : Nat) : (s.latch k).reckoner = s.reckoner := by unfold State.latch; split <;> rfl
@[simp] theorem State.latch_standing (s : State) (k : Nat) : (s.latch k).standing = s.standing := by unfold State.latch; split <;> rfl
@[simp] theorem State.latch_overlay (s : State) (k : Nat) : (s.latch k).overlay = s.overlay := by unfold State.latch; split <;> rfl
@[simp] theorem State.latch_traps (s : State) (k : Nat) : (s.latch k).traps = s.traps := by unfold State.latch; split <;> rfl
@[simp] theorem State.latch_line (s : State) (k : Nat) : (s.latch k).line = s.line := by unfold State.latch; split <;> rfl
@[simp] theorem State.latch_memory (s : State) (k : Nat) : (s.latch k).memory = s.memory := by unfold State.latch; split <;> rfl
@[simp] theorem State.latch_attached (s : State) (k : Nat) : (s.latch k).attached = s.attached := by unfold State.latch; split <;> rfl
@[simp] theorem State.latch_slips (s : State) (k : Nat) : (s.latch k).slips = s.slips := by unfold State.latch; split <;> rfl
@[simp] theorem State.latch_clock (s : State) (k : Nat) : (s.latch k).clock = s.clock := by unfold State.latch; split <;> rfl
@[simp] theorem State.latch_upload (s : State) (k : Nat) : (s.latch k).upload = s.upload := by unfold State.latch; split <;> rfl
@[simp] theorem State.latch_settings (s : State) (k : Nat) : (s.latch k).settings = s.settings := by unfold State.latch; split <;> rfl
@[simp] theorem State.latch_store (s : State) (k : Nat) : (s.latch k).store = s.store := by unfold State.latch; split <;> rfl
@[simp] theorem State.latch_races (s : State) (k : Nat) : (s.latch k).races = s.races := by unfold State.latch; split <;> rfl

/-- Latching a cause other than PEER sets its bit and changes nothing else in the port. -/
theorem State.latch_port (s : State) (k : Nat) (h : k ≠ causePeer) :
    (s.latch k).port = { s.port with pending := s.port.pending ||| causeBit k } := by
  unfold State.latch; simp [h]

/-! ## Block records -/

@[simp] theorem BlockRecord.overheard_state (r : BlockRecord) : r.overheard.state = r.state := rfl

@[simp] theorem BlockRecord.live_state (r : BlockRecord) (a : BlockAction) (station stamp : Nat) :
    (r.live a station stamp).state = BlockAction.state a station stamp := rfl

@[simp] theorem BlockRecord.live_awaiting (r : BlockRecord) (a : BlockAction) (station stamp : Nat) :
    (r.live a station stamp).awaiting = r.overheard.awaiting := rfl

theorem BlockState.stampOf_eq (own k : Nat) (x : BlockState) :
    x.stampOf own = some k ↔ x = .raised own k ∨ x = .lifted own k := by
  cases x <;> simp [BlockState.stampOf, eq_comm]

/-- A record shows an unsent own action just where the own action it shows has its BLOCK notice in queue U (R78). -/
theorem State.showsUnsent_iff (s : State) (b : Nat) (reason : BlockReason) (r : BlockRecord) :
    s.showsUnsent b reason r = true ↔ ∃ n ∈ s.line.u,
      (r.state = .raised s.number n.stamp ∨ r.state = .lifted s.number n.stamp) ∧
        Notice.isBlockOf b reason n.stamp n = true := by
  have hk : ∀ k n, Notice.isBlockOf b reason k n = true → n.stamp = k := by
    intro k n h; unfold Notice.isBlockOf at h; split at h <;> simp_all
  unfold State.showsUnsent
  split
  · next h => simp only [← BlockState.stampOf_eq, h]; simp
  · next k h =>
    simp only [← BlockState.stampOf_eq, h, State.queued, State.queueOf, List.any_eq_true]
    constructor
    · rintro ⟨n, hn, hb⟩; exact ⟨n, hn, by rw [hk k n hb], by rw [hk k n hb]; exact hb⟩
    · rintro ⟨n, hn, hs, hb⟩; exact ⟨n, hn, by simp_all⟩

/-- All that a live action of a peer can do to a record (R77, R78). -/
theorem State.heardAction_cases (s : State) (b : Nat) (reason : BlockReason) (r : BlockRecord) (a : BlockAction)
    (station stamp : Nat) :
    (s.showsUnsent b reason r = true ∧ s.heardAction b reason r a station stamp = r.overheard) ∨
      (s.showsUnsent b reason r = false ∧ s.heardAction b reason r a station stamp = r.live a station stamp) := by
  unfold State.heardAction; split <;> simp_all

/-! ## Results of work that ends otherwise than DONE -/

/-- The flags of work that ends otherwise than DONE: WARNING alone, for a LIMIT refusal or a borrower check while
INCOMPLETE (R63; assumption 59). -/
theorem State.endedResult_flags (s : State) (l : LaneId) (t : Txn) (c : ResultClass) (why : Reason) :
    (s.endedResult l t c why).flags = { ResultFlags.clear with
      warning := (why == .limit || t.operation == .borrowerCheck) && s.standing.incomplete } := by
  unfold State.endedResult State.plainResult
  by_cases h : why = .limit
  · simp [h]
  · have hb : (why == .limit) = false := beq_false_of_ne h
    simp [h, hb]

/-! ## Header copies -/

@[simp] theorem Copies.get_set (c : Copies) (f : HeaderField) (v : Nat) : (c.set f v).get f = v := by cases f <;> rfl

theorem Copies.get_set_other (c : Copies) (f g : HeaderField) (v : Nat) (h : g ≠ f) : (c.set f v).get g = c.get g := by
  cases f <;> cases g <;> first | rfl | exact absurd rfl h

@[simp] theorem Header.pair_setPair (h : Header) (f : HeaderField) (p : CellPair) : (h.setPair f p).pair f = p := by
  cases f <;> rfl

theorem Header.pair_setPair_other (h : Header) (f g : HeaderField) (p : CellPair) (hg : g ≠ f) :
    (h.setPair f p).pair g = h.pair g := by
  cases f <;> cases g <;> first | rfl | exact absurd rfl hg

end Sys2Proof.Machine
end

