-- ==== Sys2Proof/Laws/Memory.lean ====
section
/-! SUPPORT. Laws/Memory.lean: every operation on the attached memory's bytes keeps the canonical form, a byte written is
read back, and every other byte reads as before. -/

namespace Sys2Proof.Machine

/-- Every address of a canonical list is above `a`. -/

def Memory.above (a : Nat) (m : List Host.Cell) : Prop := ∀ c ∈ m, a < c.1

theorem Memory.wf_cons (b : Nat) (y : Byte) (m : List Host.Cell) :
    Memory.wf ((b, y) :: m) = true ↔
      y ≠ Memory.blankByte ∧ b < Config.memorySize ∧ Memory.above b m ∧ Memory.wf m = true := by
  induction m generalizing b y with
  | nil => simp [Memory.wf, Memory.above]
  | cons c rest ih =>
    obtain ⟨d, z⟩ := c
    have h := ih d z
    simp only [Memory.wf, Bool.and_eq_true, bne_iff_ne, ne_eq, decide_eq_true_eq]
    constructor
    · rintro ⟨⟨hy, hlt⟩, hw⟩
      have h' := h.1 hw
      refine ⟨hy, by omega, ?_, hw⟩
      intro x hx
      rcases List.mem_cons.1 hx with rfl | hx
      · exact hlt
      · exact lt_trans hlt (h'.2.2.1 x hx)
    · rintro ⟨hy, hb, ha, hw⟩
      exact ⟨⟨hy, ha _ (List.mem_cons_self ..)⟩, hw⟩

theorem Memory.above_put (a b : Nat) (x : Byte) (m : List Host.Cell) (hab : b < a) (h : Memory.above b m) :
    Memory.above b (Memory.put m a x) := by
  induction m with
  | nil => intro c hc; simp only [Memory.put] at hc; split at hc <;> simp_all
  | cons c rest ih =>
    obtain ⟨d, y⟩ := c
    have hd : b < d := h _ (List.mem_cons_self ..)
    have hr : Memory.above b rest := fun c hc => h c (List.mem_cons_of_mem _ hc)
    have hi := ih hr
    intro e he
    simp only [Memory.put] at he
    split at he
    · split at he
      · exact h e he
      · rcases List.mem_cons.1 he with rfl | he
        · exact hab
        · exact h e he
    · split at he
      · split at he
        · exact hr e he
        · rcases List.mem_cons.1 he with rfl | he
          · exact hab
          · exact hr e he
      · rcases List.mem_cons.1 he with rfl | he
        · exact hd
        · exact hi e he

/-- Putting a byte keeps the canonical form. -/

theorem Memory.put_wf (m : List Host.Cell) (a : Nat) (x : Byte) (ha : a < Config.memorySize) (h : Memory.wf m = true) :
    Memory.wf (Memory.put m a x) = true := by
  induction m with
  | nil =>
    simp only [Memory.put]
    split
    · rfl
    · exact (Memory.wf_cons _ _ _).2 ⟨by assumption, ha, by simp [Memory.above], rfl⟩
  | cons c rest ih =>
    obtain ⟨b, y⟩ := c
    obtain ⟨hy, hb, habove, hw⟩ := (Memory.wf_cons _ _ _).1 h
    simp only [Memory.put]
    split
    · split
      · exact h
      · refine (Memory.wf_cons _ _ _).2 ⟨by assumption, ha, ?_, h⟩
        intro e he
        rcases List.mem_cons.1 he with rfl | he
        · assumption
        · have := habove e he; omega
    · split
      · subst a
        split
        · exact hw
        · exact (Memory.wf_cons _ _ _).2 ⟨by assumption, hb, habove, hw⟩
      · exact (Memory.wf_cons _ _ _).2 ⟨hy, hb, Memory.above_put _ _ _ _ (by omega) habove, ih hw⟩

/-- Writing a byte keeps the canonical form. -/

theorem Memory.write_wf (m : List Host.Cell) (a : Nat) (x : Byte) (h : Memory.wf m = true) :
    Memory.wf (Memory.write m a x) = true := by
  unfold Memory.write
  split
  · exact Memory.put_wf m a x (by assumption) h
  · exact h

/-- Writing bytes keeps the canonical form. -/

theorem Memory.writeBytes_wf (m : List Host.Cell) (a : Nat) (xs : List Byte) (h : Memory.wf m = true) :
    Memory.wf (Memory.writeBytes m a xs) = true := by
  induction xs generalizing m a with
  | nil => exact h
  | cons x xs ih => exact ih _ _ (Memory.write_wf m a x h)

/-- Below every listed address a byte reads as blank. -/

theorem Memory.read_above (m : List Host.Cell) (b : Nat) (h : Memory.above b m) : Memory.read m b = Memory.blankByte := by
  cases m with
  | nil => rfl
  | cons c rest =>
    obtain ⟨d, y⟩ := c
    have hd : b < d := h _ (List.mem_cons_self ..)
    simp only [Memory.read]
    split
    · omega
    · simp

/-- The byte put is read back, and no other byte changes. -/

theorem Memory.read_put (m : List Host.Cell) (a b : Nat) (x : Byte) (h : Memory.wf m = true) :
    Memory.read (Memory.put m a x) b = if b = a then x else Memory.read m b := by
  induction m with
  | nil => grind [Memory.put, Memory.read]
  | cons c rest ih =>
    obtain ⟨d, y⟩ := c
    obtain ⟨hy, hb, habove, hw⟩ := (Memory.wf_cons _ _ _).1 h
    have hi := ih hw
    have hr := Memory.read_above rest d habove
    have hra : b < d → Memory.read rest b = Memory.blankByte := fun hbd =>
      Memory.read_above rest b (fun c hc => lt_trans hbd (habove c hc))
    simp only [Memory.put]
    grind [Memory.read]

/-- The byte written is read back, and no other byte changes. -/

theorem Memory.read_write (m : List Host.Cell) (a b : Nat) (x : Byte) (h : Memory.wf m = true)
    (ha : a < Config.memorySize) :
    Memory.read (Memory.write m a x) b = if b = a then x else Memory.read m b := by
  unfold Memory.write
  rw [if_pos ha]
  exact Memory.read_put m a b x h

/-- Bytes written are read back from their places; every other byte reads as before. -/

theorem Memory.read_writeBytes (m : List Host.Cell) (a b : Nat) (xs : List Byte) (h : Memory.wf m = true)
    (ha : a + xs.length ≤ Config.memorySize) :
    Memory.read (Memory.writeBytes m a xs) b =
      if a ≤ b ∧ b < a + xs.length then (xs[b - a]?).getD 0 else Memory.read m b := by
  induction xs generalizing m a with
  | nil => simp only [Memory.writeBytes, List.length_nil]; rw [if_neg (by omega)]
  | cons x xs ih =>
    simp only [List.length_cons] at ha
    have ha' : a < Config.memorySize := by omega
    simp only [Memory.writeBytes, List.length_cons]
    rw [ih _ _ (Memory.write_wf m a x h) (by omega), Memory.read_write m a b x h ha']
    by_cases hb : b = a
    · subst hb; simp
    · rcases Nat.lt_or_ge b a with hlt | hge
      · rw [if_neg (by omega), if_neg hb, if_neg (by omega)]
      · by_cases hin : b < a + 1 + xs.length
        · rw [if_pos (by omega), if_pos (by omega)]
          obtain ⟨k, rfl⟩ : ∃ k, b = a + 1 + k := ⟨b - a - 1, by omega⟩
          have : a + 1 + k - a = k + 1 := by omega
          rw [this]; simp
        · rw [if_neg (by omega), if_neg hb, if_neg (by omega)]

/-- Bytes written are read back in order. -/

theorem Memory.readBytes_writeBytes (m : List Host.Cell) (a : Nat) (xs : List Byte) (h : Memory.wf m = true)
    (ha : a + xs.length ≤ Config.memorySize) :
    Memory.readBytes (Memory.writeBytes m a xs) a xs.length = xs := by
  apply List.ext_getElem
  · simp [Memory.readBytes]
  · intro i h1 h2
    simp only [Memory.readBytes, List.getElem_map, List.getElem_range]
    rw [Memory.read_writeBytes m a (a + i) xs h ha, if_pos (by omega)]
    simp [List.getElem?_eq_getElem h2]

theorem State.reset_memory_wf : Memory.wf State.reset.attached.cells = true := rfl

end Sys2Proof.Machine
end

