-- ==== Sys2Proof/Laws/Frame.lean ====
section
/-! SUPPORT. Laws/Frame.lean: the frame of every operation up to the upload engine: each leaves `State.base` as it is. A
lemma whose name ends in `_of` says so of the state that an operation with a second answer gives. -/

namespace Sys2Proof.Machine

/-- The parts of a state that no operation of the lanes, tables, queues, slips or the upload engine changes: the attached
memory, the command queue, the settings store, the station state, the header copies, the faulted mark, the settings in
force, the strap, the clock and the rule sets. -/

def State.base (s : State) :=
  (s.attached, s.pending, s.store, s.station, s.memory.copies, s.memory.faulted, s.settings.inForce, s.settings.strap, s.clock, s.reckoner)

theorem State.base_line (s : State) (x) : State.base { s with line := x } = s.base := rfl

theorem State.base_laneA (s : State) (x) : State.base { s with laneA := x } = s.base := rfl

theorem State.base_laneB (s : State) (x) : State.base { s with laneB := x } = s.base := rfl

theorem State.base_wand0 (s : State) (x) : State.base { s with wand0 := x } = s.base := rfl

theorem State.base_wand1 (s : State) (x) : State.base { s with wand1 := x } = s.base := rfl

theorem State.base_decoding (s : State) (x) : State.base { s with decoding := x } = s.base := rfl

theorem State.base_standing (s : State) (x) : State.base { s with standing := x } = s.base := rfl

theorem State.base_overlay (s : State) (x) : State.base { s with overlay := x } = s.base := rfl

theorem State.base_traps (s : State) (x) : State.base { s with traps := x } = s.base := rfl

theorem State.base_slips (s : State) (x) : State.base { s with slips := x } = s.base := rfl

theorem State.base_upload (s : State) (x) : State.base { s with upload := x } = s.base := rfl

theorem State.base_port (s : State) (x) : State.base { s with port := x } = s.base := rfl

theorem State.base_minimumTimer (s : State) (x) : State.base { s with minimumTimer := x } = s.base := rfl

theorem State.base_quietTimer (s : State) (x) : State.base { s with quietTimer := x } = s.base := rfl

theorem State.base_races (s : State) (x) : State.base { s with races := x } = s.base := rfl

theorem State.base_foldl {α : Type} (f : State → α → State) (h : ∀ s x, (f s x).base = s.base) (xs : List α) (s : State) :
    (xs.foldl f s).base = s.base := by
  induction xs generalizing s <;> simp_all

theorem State.setLane_base (s : State) (l : LaneId) (c : LaneCtl) : (s.setLane l c).base = s.base := by
  cases l <;> rfl

theorem State.mapLane_base (s : State) (l : LaneId) (f : LaneCtl → LaneCtl) : (State.mapLane s l f).base = s.base := by
  unfold State.mapLane; grind [State.setLane_base]

theorem State.mapTxn_base (s : State) (l : LaneId) (f : Txn → Txn) : (State.mapTxn s l f).base = s.base := by
  unfold State.mapTxn; grind [State.mapLane_base]

theorem State.setWand_base (s : State) (l : Wand) (c : FrontEnd) : (s.setWand l c).base = s.base := by
  cases l <;> rfl

theorem State.latch_base (s : State) (k : Nat) : (State.latch s k).base = s.base := by
  unfold State.latch; grind [State.base_port]

theorem State.clearCause_base (s : State) (k : Nat) : (State.clearCause s k).base = s.base := by
  unfold State.clearCause; grind [State.base_port]

theorem State.tone_base (s : State) (w : Wand) (t : Tone) : (State.tone s w t).base = s.base := by
  unfold State.tone; grind [State.setWand_base]

theorem State.sourceTone_base (s : State) (src : Source) (t : Tone) : (State.sourceTone s src t).base = s.base := by
  unfold State.sourceTone; grind [State.tone_base]

theorem State.setSlip_base (s : State) (i : Nat) (x : Slip) : (State.setSlip s i x).base = s.base := by
  unfold State.setSlip; grind [State.base_slips]

theorem State.setQueue_base (s : State) (q : List Nat) : (State.setQueue s q).base = s.base := by
  unfold State.setQueue; grind [State.base_slips]

theorem State.setPrinter_base (s : State) (p : PrinterState) : (State.setPrinter s p).base = s.base := by
  unfold State.setPrinter; grind [State.base_slips]

theorem State.setWarmTimer_base (s : State) (t : Timer) : (State.setWarmTimer s t).base = s.base := by
  unfold State.setWarmTimer; grind [State.base_slips]

theorem State.setUnloadTimer_base (s : State) (t : Timer) : (State.setUnloadTimer s t).base = s.base := by
  unfold State.setUnloadTimer; grind [State.base_slips]

theorem State.startPrint_base (n : Nat) (s : State) : (State.startPrint n s).base = s.base := by
  induction n generalizing s <;> grind [State.startPrint, State.setSlip_base, State.setQueue_base, State.setPrinter_base]

theorem State.settleUnload_base (s : State) : (State.settleUnload s).base = s.base := by
  unfold State.settleUnload; grind [State.setUnloadTimer_base]

theorem State.settlePrinter_base (s : State) : (State.settlePrinter s).base = s.base := by
  unfold State.settlePrinter; grind [State.setPrinter_base, State.setWarmTimer_base, State.startPrint_base, State.settleUnload_base]

theorem State.joinQueue_base (s : State) (i : Nat) : (State.joinQueue s i).base = s.base := by
  unfold State.joinQueue; grind [State.setSlip_base, State.setQueue_base, State.settlePrinter_base]

theorem State.giveUpSlip_base (s : State) (i : Nat) : (State.giveUpSlip s i).base = s.base := by
  unfold State.giveUpSlip; grind [State.setSlip_base, State.setQueue_base, State.settlePrinter_base]

theorem State.addLine_base (s : State) (i : Nat) (line : SlipLine) : (State.addLine s i line).base = s.base := by
  unfold State.addLine; grind [State.setSlip_base]

theorem State.setSessionSlip_base (s : State) (l : LaneId) (i : Option Nat) : (State.setSessionSlip s l i).base = s.base := by
  unfold State.setSessionSlip; grind [State.mapLane_base]

theorem State.openSlip_base (s : State) (l : LaneId) (borrower : Nat) (line : SlipLine) : (State.openSlip s l borrower line).1.base = s.base := by
  unfold State.openSlip; grind [State.setSlip_base, State.setSessionSlip_base]

theorem State.openSlip_base_of (s : State) (l : LaneId) (borrower : Nat) (line : SlipLine) (u) (ub) (h : State.openSlip s l borrower line = (u, ub)) : u.base = s.base := by
  have h' := State.openSlip_base s l borrower line
  rw [h] at h'
  exact h'

theorem State.itemDueLine_base (s : State) (l : LaneId) (item dueDay dueMinute : Nat) : (State.itemDueLine s l item dueDay dueMinute).1.base = s.base := by
  unfold State.itemDueLine; grind [State.joinQueue_base, State.addLine_base, State.setSessionSlip_base, State.openSlip_base, State.openSlip_base_of]

theorem State.itemDueLine_base_of (s : State) (l : LaneId) (item dueDay dueMinute : Nat) (u) (ub) (h : State.itemDueLine s l item dueDay dueMinute = (u, ub)) : u.base = s.base := by
  have h' := State.itemDueLine_base s l item dueDay dueMinute
  rw [h] at h'
  exact h'

theorem State.completeSlip_base (s : State) (l : LaneId) (count balance : Int) (warning : Bool) : (State.completeSlip s l count balance warning).base = s.base := by
  unfold State.completeSlip; grind [State.joinQueue_base, State.addLine_base, State.setSessionSlip_base]

theorem State.fineSlip_base (s : State) (l : LaneId) (borrower item dueDay cents : Nat) (count balance : Int) (warning : Bool) : (State.fineSlip s l borrower item dueDay cents count balance warning).1.base = s.base := by
  unfold State.fineSlip; grind [State.setSlip_base, State.joinQueue_base]

theorem State.fineSlip_base_of (s : State) (l : LaneId) (borrower item dueDay cents : Nat) (count balance : Int) (warning : Bool) (u) (ub) (h : State.fineSlip s l borrower item dueDay cents count balance warning = (u, ub)) : u.base = s.base := by
  have h' := State.fineSlip_base s l borrower item dueDay cents count balance warning
  rw [h] at h'
  exact h'

theorem State.holdSlip_base (s : State) (l : LaneId) (title rank holdBorrower item : Nat) : (State.holdSlip s l title rank holdBorrower item).1.base = s.base := by
  unfold State.holdSlip; grind [State.setSlip_base, State.joinQueue_base]

theorem State.holdSlip_base_of (s : State) (l : LaneId) (title rank holdBorrower item : Nat) (u) (ub) (h : State.holdSlip s l title rank holdBorrower item = (u, ub)) : u.base = s.base := by
  have h' := State.holdSlip_base s l title rank holdBorrower item
  rw [h] at h'
  exact h'

theorem State.holdAsserted_base (s : State) (hold : Nat × Nat) : (s.holdAsserted hold).base = s.base := by
  unfold State.holdAsserted; split
  · exact State.base_foldl _ State.joinQueue_base _ _
  · rfl

theorem State.holdLost_base (s : State) (hold : Nat × Nat) : (s.holdLost hold).base = s.base :=
  State.base_foldl _ State.giveUpSlip_base _ _

theorem State.setPad_base (s : State) (l : PadId) (c : Pad) : (s.setPad l c).base = s.base := by
  cases l <;> rfl

theorem State.padPulse_base (s : State) (p : PadId) (form : Pulse) : (State.padPulse s p form).1.base = s.base := by
  unfold State.padPulse; grind [State.setPad_base]

theorem State.padPulse_base_of (s : State) (p : PadId) (form : Pulse) (u) (ub) (h : State.padPulse s p form = (u, ub)) : u.base = s.base := by
  have h' := State.padPulse_base s p form
  rw [h] at h'
  exact h'

theorem State.setQueueOf_base (s : State) (c : TxClass) (q : List Notice) : (s.setQueueOf c q).base = s.base := by
  cases c <;> rfl

theorem State.hand_base (s : State) (n : Notice) : (State.hand s n).1.base = s.base := by
  unfold State.hand; grind [State.setQueueOf_base]

theorem State.hand_base_of (s : State) (n : Notice) (u) (ub) (h : State.hand s n = (u, ub)) : u.base = s.base := by
  have h' := State.hand_base s n
  rw [h] at h'
  exact h'

theorem State.takeStamp_base (s : State) : (State.takeStamp s).base = s.base := by
  unfold State.takeStamp; grind [State.base_line]

theorem State.handStamped_base (s : State) (body : Body) : (State.handStamped s body).1.base = s.base := by
  unfold State.handStamped; grind [State.setQueueOf_base, State.takeStamp_base]

theorem State.handStamped_base_of (s : State) (body : Body) (u) (ub) (h : State.handStamped s body = (u, ub)) : u.base = s.base := by
  have h' := State.handStamped_base s body
  rw [h] at h'
  exact h'

theorem State.markWithdrawn_base (s : State) (p : Notice → Bool) : (State.markWithdrawn s p).base = s.base := by
  unfold State.markWithdrawn; grind [State.base_line]

theorem State.setEngine_base (s : State) (e : Engine) : (State.setEngine s e).base = s.base := by
  unfold State.setEngine; grind [State.base_line]

theorem State.walk_base (n : Nat) (s : State) : (State.walk n s).base = s.base := by
  induction n generalizing s <;> grind [State.walk, State.hand_base, State.setEngine_base]

theorem State.runWalk_base (s : State) : (State.runWalk s).base = s.base := by
  unfold State.runWalk; grind [State.walk_base]

theorem State.engineRequest_base (s : State) (f : Nat) : (State.engineRequest s f).base = s.base := by
  unfold State.engineRequest; grind [State.setEngine_base, State.runWalk_base]

theorem State.releaseEngine_base (s : State) : (State.releaseEngine s).base = s.base := by
  unfold State.releaseEngine; grind [State.setEngine_base, State.runWalk_base]

theorem State.leftB_base (s : State) : (State.leftB s).base = s.base := by
  unfold State.leftB; grind [State.setEngine_base, State.runWalk_base]

theorem State.testOwed_base (s : State) : (State.testOwed s).base = s.base := by
  unfold State.testOwed; grind [State.engineRequest_base, State.base_line]

theorem State.setOwed_base (s : State) : (State.setOwed s).base = s.base := by
  unfold State.setOwed; grind [State.testOwed_base, State.base_line]

theorem State.handChange_base (s : State) (n : Notice) : (State.handChange s n).base = s.base := by
  unfold State.handChange; grind [State.hand_base, State.hand_base_of, State.setOwed_base]

theorem State.handPresence_base (s : State) : (State.handPresence s).base = s.base := by
  unfold State.handPresence; grind [State.hand_base, State.hand_base_of]

theorem State.setPeer_base (s : State) (n : Nat) (p : Peer) : (State.setPeer s n p).base = s.base := by
  unfold State.setPeer; grind [State.base_line]

theorem State.pushRequest_base (s : State) (n : Nat) : (State.pushRequest s n).base = s.base := by
  unfold State.pushRequest; grind [State.setQueueOf_base, State.hand_base, State.hand_base_of, State.setPeer_base]

theorem State.requestRestate_base (s : State) (n f : Nat) : (State.requestRestate s n f).base = s.base := by
  unfold State.requestRestate; grind [State.setPeer_base, State.pushRequest_base]

theorem State.pushBroadcast_base (s : State) : (State.pushBroadcast s).base = s.base := by
  unfold State.pushBroadcast; grind [State.hand_base, State.hand_base_of, State.base_line]

theorem State.leftS_base (s : State) : s.leftS.base = s.base := by
  unfold State.leftS; simp only []; rw [State.base_foldl _ State.pushRequest_base]; grind [State.testOwed_base, State.pushBroadcast_base]

theorem State.left_base (s : State) (x0 : TxClass) : (State.left s x0).base = s.base := by
  unfold State.left; grind [State.leftB_base, State.leftS_base]

theorem State.withdraw_base (s : State) (c : TxClass) (p : Notice → Bool) : (State.withdraw s c p).base = s.base := by
  unfold State.withdraw; grind [State.setQueueOf_base, State.markWithdrawn_base, State.left_base]

theorem State.purgeLine_base (s : State) : s.purgeLine.base = s.base := by
  unfold State.purgeLine; rw [State.base_line]; simp only [State.markWithdrawn_base, State.setQueueOf_base]

theorem State.setMemory_base (s : State) (m : MemCtl) (h : m.copies = s.memory.copies) (h2 : m.faulted = s.memory.faulted) :
    (s.setMemory m).base = s.base := by
  unfold State.setMemory State.base; simp [h, h2]

theorem State.grant_base (s : State) : s.grant.base = s.base := by
  unfold State.grant; dsimp only; repeat' split
  all_goals rfl

theorem State.ask_base (s : State) (op : MemOp) : (s.ask op).base = s.base := by
  unfold State.ask; rw [State.grant_base]; rfl

theorem State.freePort_base (s : State) : (s.freePort).base = s.base := rfl

theorem State.dropAsked_base (s : State) (p : MemOp → Bool) : (s.dropAsked p).base = s.base := rfl

theorem State.detachAsked_base (s : State) (p : MemOp → Bool) : (s.detachAsked p).base = s.base := rfl

theorem State.setStanding_base (s : State) (t : Standing) : (State.setStanding s t).base = s.base := by
  unfold State.setStanding; grind [State.base_standing]

theorem State.setIncomplete_base (s : State) : (State.setIncomplete s).base = s.base := by
  unfold State.setIncomplete; grind [State.setStanding_base]

theorem State.mapEntry_base (s : State) (b : Nat) (f : Entry → Entry) : (State.mapEntry s b f).base = s.base := by
  unfold State.mapEntry; grind [State.setStanding_base]

theorem State.useEntry_base (s : State) (b : Nat) (f : Entry → Entry) : (State.useEntry s b f).base = s.base := by
  unfold State.useEntry; grind [State.setStanding_base, State.mapEntry_base]

theorem State.reserve_base (s : State) (l : LaneId) (b : Nat) (v : Bool) : (State.reserve s l b v).base = s.base := by
  unfold State.reserve; grind [State.useEntry_base]

theorem State.takeInHand_base (s : State) (l : LaneId) (b : Nat) : (State.takeInHand s l b).base = s.base := by
  unfold State.takeInHand; grind [State.useEntry_base]

theorem State.outOfHand_base (s : State) (l : LaneId) (b : Nat) : (State.outOfHand s l b).base = s.base := by
  unfold State.outOfHand; grind [State.useEntry_base]

theorem State.ownChange_base (s : State) (b : Nat) (loans balance : Int) (stamp : Nat) : (State.ownChange s b loans balance stamp).base = s.base := by
  unfold State.ownChange; grind [State.useEntry_base]

theorem State.blockAction_base (s : State) (live : Bool) (b station : Nat) (reason : BlockReason) (a : StampedAction) : (State.blockAction s live b station reason a).base = s.base := by
  unfold State.blockAction; grind [State.useEntry_base]

theorem State.optBlockAction_base (s : State) (live : Bool) (b station : Nat) (reason : BlockReason) (x0 : Option StampedAction) : (State.optBlockAction s live b station reason x0).base = s.base := by
  unfold State.optBlockAction; grind [State.blockAction_base]

theorem State.applyOffer_base (s : State) (p : Parked) : (State.applyOffer s p).base = s.base := by
  unfold State.applyOffer; grind [State.useEntry_base, State.optBlockAction_base]

theorem State.placeAwaiting_base (s : State) (b : Nat) (reason : BlockReason) (a : BlockAction) (stamp : Nat) : (State.placeAwaiting s b reason a stamp).base = s.base := by
  unfold State.placeAwaiting; grind [State.useEntry_base]

theorem State.dropAwaiting_base (s : State) (b : Nat) (reason : BlockReason) (stamp : Nat) : (State.dropAwaiting s b reason stamp).base = s.base := by
  unfold State.dropAwaiting; grind [State.useEntry_base]

theorem State.ownBlock_base (s : State) (b : Nat) (reason : BlockReason) (a : BlockAction) (stamp : Nat) : (State.ownBlock s b reason a stamp).base = s.base := by
  unfold State.ownBlock; grind [State.useEntry_base, State.ownChange_base]

theorem State.roomForEntry_base (s : State) (t) (h : s.roomForEntry = some t) : t.base = s.base := by
  unfold State.roomForEntry at h
  split at h
  · cases h; rfl
  · obtain ⟨v, -, rfl⟩ := Option.map_eq_some_iff.mp h; rfl

theorem State.createEntry_base (s : State) (b : Nat) (roll : RollFields) : (s.createEntry b roll).1.base = s.base := by
  unfold State.createEntry
  split
  · rfl
  · split
    · rfl
    · rename_i h; simp only []; rw [State.base_foldl _ State.applyOffer_base]; exact (State.setStanding_base _ _).trans (State.roomForEntry_base _ _ h)

theorem State.createEntry_base_of (s : State) (b : Nat) (roll : RollFields) (u) (ub) (h : s.createEntry b roll = (u, ub)) :
    u.base = s.base := by
  have h' := State.createEntry_base s b roll
  rw [h] at h'
  exact h'

theorem State.nextParked_base (s : State) : (State.nextParked s).base = s.base := by
  unfold State.nextParked; grind [State.ask_base, State.setStanding_base]

theorem State.dropParked_base (s : State) (b : Nat) : (State.dropParked s b).base = s.base := by
  unfold State.dropParked; grind [State.setStanding_base, State.setIncomplete_base]

theorem State.tallyOffer_base (s : State) (p : Parked) : (State.tallyOffer s p).base = s.base := by
  unfold State.tallyOffer; grind [State.setStanding_base, State.setIncomplete_base, State.applyOffer_base, State.nextParked_base]

theorem State.parkedLookupDone_base (s : State) (b : Nat) (answer : Lookup RollFields) : (State.parkedLookupDone s b answer).base = s.base := by
  unfold State.parkedLookupDone; grind [State.setStanding_base, State.createEntry_base, State.createEntry_base_of, State.nextParked_base, State.dropParked_base]

theorem State.abandonParked_base (s : State) : (State.abandonParked s).base = s.base := by
  unfold State.abandonParked; grind [State.setStanding_base, State.setIncomplete_base]

theorem State.replayStandingRecord_base (s : State) (r : JournalRecord) : (State.replayStandingRecord s r).base = s.base := by
  unfold State.replayStandingRecord; grind [State.ownChange_base, State.blockAction_base]

theorem State.emptyStanding_base (s : State) : (State.emptyStanding s).base = s.base := by
  unfold State.emptyStanding; grind [State.setStanding_base]

theorem State.setOverlay_base (s : State) (o : Overlay) : (State.setOverlay s o).base = s.base := by
  unfold State.setOverlay; grind [State.base_overlay]

theorem State.setAsideRoom_base (s : State) (l : LaneId) (n : Nat) (t) (h : s.setAsideRoom l n = some t) : t.base = s.base := by
  unfold State.setAsideRoom at h
  split at h
  · cases h; rfl
  · obtain ⟨v, -, rfl⟩ := Option.map_eq_some_iff.mp h; rfl

theorem State.giveBackRoom_base (s : State) (l : LaneId) : (State.giveBackRoom s l).base = s.base := by
  unfold State.giveBackRoom; grind [State.setOverlay_base]

theorem State.putItem_base (s : State) (e : ItemEntry) : (State.putItem s e).base = s.base := by
  unfold State.putItem; grind [State.setOverlay_base]

theorem State.newItem_base (s : State) (e : ItemEntry) (spare : Bool) : (State.newItem s e spare).base = s.base := by
  unfold State.newItem; grind [State.setIncomplete_base, State.setOverlay_base, State.putItem_base]

theorem State.ownWrite_base (s : State) (l : LaneId) (n : Nat) (basis : Basis) (loan : Option LoanPart) (stamp : Nat) : (State.ownWrite s l n basis loan stamp).base = s.base := by
  unfold State.ownWrite; grind [State.giveBackRoom_base, State.putItem_base, State.newItem_base]

theorem State.liveItem_base (s : State) (sender stamp n : Nat) (basis : Basis) (loan : Option LoanPart) : (State.liveItem s sender stamp n basis loan).base = s.base := by
  unfold State.liveItem; grind [State.putItem_base, State.newItem_base]

theorem State.restatedItem_base (s : State) (station stamp n : Nat) (basis : Basis) (loan : Option LoanPart) : (State.restatedItem s station stamp n basis loan).base = s.base := by
  unfold State.restatedItem; grind [State.putItem_base, State.newItem_base]

theorem State.replayItemOver_base (s : State) (r : JournalRecord) (listed : ItemAnswer) : (State.replayItemOver s r listed).base = s.base := by
  unfold State.replayItemOver; grind [State.putItem_base, State.newItem_base]

theorem State.replayItem_base (s : State) (r : JournalRecord) (answer : Lookup ItemAnswer) : (State.replayItem s r answer).base = s.base := by
  unfold State.replayItem; grind [State.setIncomplete_base, State.replayItemOver_base]

theorem State.setTraps_base (s : State) (t : List TrapRecord) : (State.setTraps s t).base = s.base := by
  unfold State.setTraps; grind [State.base_traps]

theorem State.putTrap_base (s : State) (t : TrapRecord) : (State.putTrap s t).base = s.base := by
  unfold State.putTrap; grind [State.setTraps_base]

theorem State.removeTrap_base (s : State) (title rank : Nat) : (State.removeTrap s title rank).base = s.base := by
  unfold State.removeTrap; grind [State.setTraps_base]

theorem State.trapRoom_base (s : State) (title rank : Nat) (t) (h : State.trapRoom s title rank = some t) : t.base = s.base := by
  unfold State.trapRoom at h; grind [State.setTraps_base]

theorem State.recordTrap_base (s : State) (t : TrapRecord) : (State.recordTrap s t).base = s.base := by
  unfold State.recordTrap; grind [State.putTrap_base, State.trapRoom_base]

theorem State.makeTrap_base (s : State) (l : LaneId) (item : Nat) (h : Hold) (t) (h : State.makeTrap s l item h = some t) : t.base = s.base := by
  unfold State.makeTrap at h; grind [State.handStamped_base, State.handStamped_base_of, State.putTrap_base, State.trapRoom_base]

theorem State.releaseTrap_base (s : State) (title rank item : Nat) : (State.releaseTrap s title rank item).base = s.base := by
  unfold State.releaseTrap; grind [State.holdLost_base, State.handStamped_base, State.handStamped_base_of, State.putTrap_base]

theorem State.abandonTrap_base (s : State) (l : LaneId) : (State.abandonTrap s l).base = s.base := by
  unfold State.abandonTrap; grind [State.withdraw_base, State.putTrap_base, State.removeTrap_base]

theorem State.trapConflict_base (s : State) (own : TrapRecord) (p : TrapPart) (sender stamp : Nat) : (State.trapConflict s own p sender stamp).base = s.base := by
  unfold State.trapConflict; grind [State.latch_base, State.handStamped_base, State.handStamped_base_of, State.putTrap_base, State.releaseTrap_base]

theorem State.peerReleased_base (s : State) (p : TrapPart) (sender stamp : Nat) : (State.peerReleased s p sender stamp).base = s.base := by
  unfold State.peerReleased; grind [State.putTrap_base]

theorem State.replayTrap_base (s : State) (r : JournalRecord) (holds : Lookup (List Hold)) : (State.replayTrap s r holds).base = s.base := by
  unfold State.replayTrap; grind [State.recordTrap_base]

theorem State.endSession_base (s : State) (l : LaneId) : (State.endSession s l).base = s.base := by
  unfold State.endSession; grind [State.mapLane_base, State.settlePrinter_base, State.completeSlip_base, State.outOfHand_base]

theorem State.resultTone_base (s : State) (src : Source) (c : ResultClass) : (State.resultTone s src c).base = s.base := by
  unfold State.resultTone; grind [State.tone_base, State.sourceTone_base]

theorem State.dropTxnEntry_base (s : State) (l : LaneId) (t : Option Txn) : (State.dropTxnEntry s l t).base = s.base := by
  unfold State.dropTxnEntry; grind [State.outOfHand_base]

theorem State.writeResult_base (s : State) (l : LaneId) (src : Source) (r : Result) : (State.writeResult s l src r).base = s.base := by
  unfold State.writeResult; grind [State.mapLane_base, State.latch_base, State.endSession_base, State.resultTone_base, State.dropTxnEntry_base]

theorem State.reportNow_base (s : State) (l : LaneId) (src : Source) (op : Operation) (c : ResultClass) (why : Reason) : (State.reportNow s l src op c why).base = s.base := by
  unfold State.reportNow; grind [State.writeResult_base]

theorem State.releaseReservation_base (s : State) (l : LaneId) (b : Nat) : (State.releaseReservation s l b).base = s.base := by
  unfold State.releaseReservation; grind [State.reserve_base]

theorem State.giveBack_base (s : State) (l : LaneId) (t : Txn) : (State.giveBack s l t).base = s.base := by
  unfold State.giveBack; grind [State.withdraw_base, State.dropAsked_base, State.dropAwaiting_base, State.giveBackRoom_base, State.releaseTrap_base, State.abandonTrap_base, State.releaseReservation_base]

theorem State.endTxn_base (s : State) (l : LaneId) (c : ResultClass) (why : Reason) : (State.endTxn s l c why).base = s.base := by
  unfold State.endTxn; grind [State.writeResult_base, State.giveBack_base]

theorem State.appendFailed_base (s : State) (l : LaneId) : (State.appendFailed s l).base = s.base := by
  unfold State.appendFailed; grind [State.endTxn_base]

theorem State.requestAppend_base (s : State) (l : LaneId) (stamped : Bool) : (State.requestAppend s l stamped).base = s.base := by
  unfold State.requestAppend; grind [State.mapTxn_base, State.takeStamp_base, State.setMemory_base, State.ask_base, State.appendFailed_base]

theorem State.askLane_base (s : State) (l : LaneId) : (State.askLane s l).base = s.base := by
  unfold State.askLane; grind [State.mapTxn_base, State.ask_base]

theorem State.commitOperation_base (s : State) (l : LaneId) (c : ResultClass) (stamped : Bool) : (State.commitOperation s l c stamped).base = s.base := by
  unfold State.commitOperation; grind [State.endTxn_base, State.requestAppend_base]

theorem State.commitItem_base (s : State) (l : LaneId) (item : Nat) : (State.commitItem s l item).base = s.base := by
  unfold State.commitItem; grind [State.setAsideRoom_base, State.endTxn_base, State.requestAppend_base]

theorem State.commitLend_base (s : State) (l : LaneId) (t : Txn) : (State.commitLend s l t).base = s.base := by
  unfold State.commitLend; grind [State.mapTxn_base, State.endTxn_base, State.commitItem_base]

theorem State.lendFound_base (s : State) (l : LaneId) (t : Txn) (a : ItemAnswer) : (State.lendFound s l t a).base = s.base := by
  unfold State.lendFound; grind [State.mapTxn_base, State.reserve_base, State.endTxn_base, State.commitLend_base]

theorem State.commitReturn_base (s : State) (l : LaneId) : (State.commitReturn s l).base = s.base := by
  unfold State.commitReturn; grind [State.mapLane_base, State.mapTxn_base, State.endTxn_base, State.commitItem_base]

theorem State.returnOn_base (s : State) (l : LaneId) (o : TrapOutcome) : (State.returnOn s l o).base = s.base := by
  unfold State.returnOn; grind [State.mapTxn_base, State.commitReturn_base]

theorem State.tryTrap_base (s : State) (l : LaneId) : (State.tryTrap s l).base = s.base := by
  unfold State.tryTrap; grind [State.mapLane_base, State.mapTxn_base, State.makeTrap_base, State.returnOn_base]

theorem State.returnBorrower_base (s : State) (l : LaneId) (t : Txn) : (State.returnBorrower s l t).base = s.base := by
  unfold State.returnBorrower; grind [State.mapTxn_base, State.ask_base, State.takeInHand_base, State.askLane_base]

theorem State.returnFound_base (s : State) (l : LaneId) (t : Txn) (a : ItemAnswer) : (State.returnFound s l t a).base = s.base := by
  unfold State.returnFound; grind [State.mapTxn_base, State.ask_base, State.endTxn_base, State.returnBorrower_base, State.askLane_base]

theorem State.commitRenew_base (s : State) (l : LaneId) (t : Txn) : (State.commitRenew s l t).base = s.base := by
  unfold State.commitRenew; grind [State.mapTxn_base, State.endTxn_base, State.commitItem_base]

theorem State.renewHolds_base (s : State) (l : LaneId) (t : Txn) (holds : List Hold) : (State.renewHolds s l t holds).base = s.base := by
  unfold State.renewHolds; grind [State.mapTxn_base, State.endTxn_base, State.commitRenew_base]

theorem State.renewFound_base (s : State) (l : LaneId) (t : Txn) (a : ItemAnswer) : (State.renewFound s l t a).base = s.base := by
  unfold State.renewFound; grind [State.mapTxn_base, State.ask_base, State.endTxn_base, State.askLane_base]

theorem State.inquireItemFound_base (s : State) (l : LaneId) (t : Txn) (a : ItemAnswer) (why : Reason) : (State.inquireItemFound s l t a why).base = s.base := by
  unfold State.inquireItemFound; grind [State.writeResult_base]

theorem State.inquireBorrowerFound_base (s : State) (l : LaneId) (t : Txn) (e : Entry) : (State.inquireBorrowerFound s l t e).base = s.base := by
  unfold State.inquireBorrowerFound; grind [State.writeResult_base]

theorem State.itemFound_base (s : State) (l : LaneId) (t : Txn) (a : ItemAnswer) : (State.itemFound s l t a).base = s.base := by
  unfold State.itemFound; grind [State.lendFound_base, State.returnFound_base, State.renewFound_base, State.inquireItemFound_base]

theorem State.begin_base (s : State) (l : LaneId) (state : LaneState) (t : Txn) : (State.begin s l state t).base = s.base := by
  unfold State.begin; grind [State.mapLane_base]

theorem State.takeItem_base (s : State) (l : LaneId) (src : Source) (item : Nat) : (State.takeItem s l src item).base = s.base := by
  unfold State.takeItem; grind [State.ask_base, State.reportNow_base, State.itemFound_base, State.begin_base, State.askLane_base]

theorem State.checkDone_base (s : State) (l : LaneId) (t : Txn) : (State.checkDone s l t).base = s.base := by
  unfold State.checkDone; grind [State.mapLane_base, State.settlePrinter_base, State.takeInHand_base, State.writeResult_base]

theorem State.startCheck_base (s : State) (l : LaneId) (src : Source) (b : Nat) : (State.startCheck s l src b).base = s.base := by
  unfold State.startCheck; grind [State.ask_base, State.reportNow_base, State.begin_base, State.checkDone_base, State.askLane_base]

theorem State.inquireBorrower_base (s : State) (l : LaneId) (src : Source) (b : Nat) : (State.inquireBorrower s l src b).base = s.base := by
  unfold State.inquireBorrower; grind [State.ask_base, State.reportNow_base, State.inquireBorrowerFound_base, State.begin_base, State.askLane_base]

theorem State.takeBorrower_base (s : State) (l : LaneId) (src : Source) (b : Nat) : (State.takeBorrower s l src b).base = s.base := by
  unfold State.takeBorrower; grind [State.endSession_base, State.reportNow_base, State.startCheck_base, State.inquireBorrower_base]

theorem State.changeMode_base (s : State) (l : LaneId) (m : LaneMode) : (State.changeMode s l m).base = s.base := by
  unfold State.changeMode; grind [State.mapLane_base, State.endSession_base]

theorem State.takeCommand_base (s : State) (l : LaneId) (src : Source) (code : Nat) : (State.takeCommand s l src code).base = s.base := by
  unfold State.takeCommand; grind [State.endSession_base, State.reportNow_base, State.changeMode_base]

theorem State.takeOffer_base (s : State) (l : LaneId) (o : Offer) : (State.takeOffer s l o).base = s.base := by
  unfold State.takeOffer; grind [State.reportNow_base, State.takeItem_base, State.takeBorrower_base, State.takeCommand_base]

theorem State.takeSlot_base (s : State) (l : LaneId) : (State.takeSlot s l).base = s.base := by
  unfold State.takeSlot; grind [State.mapLane_base, State.takeOffer_base]

theorem State.cancelWork_base (s : State) (l : LaneId) : (State.cancelWork s l).base = s.base := by
  unfold State.cancelWork; grind [State.mapLane_base, State.endTxn_base]

theorem State.offerBusy_base (s : State) (l : LaneId) (o : Offer) : (State.offerBusy s l o).base = s.base := by
  unfold State.offerBusy; grind [State.mapLane_base, State.latch_base, State.tone_base, State.sourceTone_base, State.cancelWork_base]

theorem State.offer_base (s : State) (l : LaneId) (o : Offer) : (State.offer s l o).base = s.base := by
  unfold State.offer; grind [State.sourceTone_base, State.takeOffer_base, State.offerBusy_base]

theorem State.blockOn_base (s : State) (l : LaneId) (t : Txn) : (State.blockOn s l t).base = s.base := by
  unfold State.blockOn; grind [State.mapLane_base, State.mapTxn_base, State.handStamped_base, State.handStamped_base_of, State.endTxn_base, State.requestAppend_base, State.commitOperation_base]

theorem State.operationOn_base (s : State) (l : LaneId) (t : Txn) : (State.operationOn s l t).base = s.base := by
  unfold State.operationOn; grind [State.takeInHand_base, State.endTxn_base, State.requestAppend_base, State.blockOn_base, State.commitOperation_base]

theorem State.startOperation_base (s : State) (l : LaneId) (t : Txn) : (State.startOperation s l t).base = s.base := by
  unfold State.startOperation; grind [State.ask_base, State.begin_base, State.operationOn_base, State.askLane_base]

theorem State.blockTransmitted_base (s : State) (l : LaneId) (t : Txn) : (State.blockTransmitted s l t).base = s.base := by
  unfold State.blockTransmitted; grind [State.mapLane_base, State.placeAwaiting_base, State.endTxn_base, State.requestAppend_base, State.commitOperation_base]

theorem State.recommit_base (s : State) (l : LaneId) (t : Txn) : (State.recommit s l t).base = s.base := by
  unfold State.recommit; grind [State.commitLend_base, State.commitReturn_base, State.commitRenew_base, State.commitOperation_base, State.blockOn_base]

theorem State.resumeLane_base (s : State) (l : LaneId) : (State.resumeLane s l).base = s.base := by
  unfold State.resumeLane; grind [State.mapTxn_base, State.askLane_base, State.recommit_base]

theorem State.notify_base (s : State) (stamp : Nat) (body : Body) : (State.notify s stamp body).base = s.base := by
  unfold State.notify; grind [State.handChange_base]

theorem State.loanDone_base (s : State) (l : LaneId) (t : Txn) : (State.loanDone s l t).base = s.base := by
  unfold State.loanDone; grind [State.itemDueLine_base, State.itemDueLine_base_of, State.padPulse_base, State.padPulse_base_of, State.ownChange_base, State.ownWrite_base, State.writeResult_base, State.releaseReservation_base, State.notify_base]

theorem State.returnSlips_base (s : State) (l : LaneId) (t : Txn) : (State.returnSlips s l t).1.base = s.base := by
  unfold State.returnSlips; grind [State.fineSlip_base, State.fineSlip_base_of, State.holdSlip_base, State.holdSlip_base_of]

theorem State.returnSlips_base_of (s : State) (l : LaneId) (t : Txn) (u) (ub) (h : State.returnSlips s l t = (u, ub)) : u.base = s.base := by
  have h' := State.returnSlips_base s l t
  rw [h] at h'
  exact h'

theorem State.returnDone_base (s : State) (l : LaneId) (t : Txn) : (State.returnDone s l t).base = s.base := by
  unfold State.returnDone; grind [State.padPulse_base, State.padPulse_base_of, State.ownChange_base, State.ownWrite_base, State.writeResult_base, State.notify_base, State.returnSlips_base, State.returnSlips_base_of]

theorem State.renewDone_base (s : State) (l : LaneId) (t : Txn) : (State.renewDone s l t).base = s.base := by
  unfold State.renewDone; grind [State.itemDueLine_base, State.itemDueLine_base_of, State.ownChange_base, State.ownWrite_base, State.writeResult_base, State.notify_base]

theorem State.paymentDone_base (s : State) (l : LaneId) (t : Txn) : (State.paymentDone s l t).base = s.base := by
  unfold State.paymentDone; grind [State.ownChange_base, State.writeResult_base, State.notify_base]

theorem State.blockDone_base (s : State) (l : LaneId) (t : Txn) : (State.blockDone s l t).base = s.base := by
  unfold State.blockDone; grind [State.ownBlock_base, State.writeResult_base, State.notify_base]

theorem State.appendDone_base (s : State) (l : LaneId) : (State.appendDone s l).base = s.base := by
  unfold State.appendDone; grind [State.loanDone_base, State.returnDone_base, State.renewDone_base, State.paymentDone_base, State.blockDone_base]

theorem State.closeLane_base (s : State) (l : LaneId) : (State.closeLane s l).base = s.base := by
  unfold State.closeLane; grind [State.mapLane_base, State.endSession_base, State.endTxn_base]

theorem State.setUpload_base (s : State) (u : Upload) : (State.setUpload s u).base = s.base := by
  unfold State.setUpload; grind [State.base_upload]

theorem State.mapSender_base (s : State) (f : Sender → Sender) : (State.mapSender s f).base = s.base := by
  unfold State.mapSender; grind [State.setUpload_base]

theorem State.latchUpload_base (s : State) : (State.latchUpload s).base = s.base := by
  unfold State.latchUpload; grind [State.latch_base]

theorem State.handUpload_base (s : State) (n : Notice) : (State.handUpload s n).base = s.base := by
  unfold State.handUpload; grind [State.hand_base, State.hand_base_of, State.setUpload_base]

theorem State.dropKept_base (s : State) (p : Notice → Bool) : (State.dropKept s p).base = s.base := by
  unfold State.dropKept; grind [State.setUpload_base]

theorem State.withdrawUpload_base (s : State) (c : TxClass) (p : Notice → Bool) : (State.withdrawUpload s c p).base = s.base := by
  unfold State.withdrawUpload; grind [State.withdraw_base, State.dropKept_base]

theorem State.endSender_base (s : State) (o : UploadOutcome) : (State.endSender s o).base = s.base := by
  unfold State.endSender; grind [State.dropAsked_base, State.detachAsked_base, State.mapSender_base, State.latchUpload_base]

theorem State.askUpload_base (s : State) (op : MemOp) : (State.askUpload s op).base = s.base := by
  unfold State.askUpload; grind [State.ask_base, State.endSender_base]

theorem State.senderReceipt_base (s : State) (src k : Nat) : (State.senderReceipt s src k).base = s.base := by
  unfold State.senderReceipt; grind [State.mapSender_base, State.withdrawUpload_base, State.askUpload_base]

theorem State.stopSender_base (s : State) (o : UploadOutcome) : (State.stopSender s o).base = s.base := by
  unfold State.stopSender; grind [State.withdrawUpload_base, State.endSender_base]

theorem State.senderRefusal_base (s : State) (src reason : Nat) : (State.senderRefusal s src reason).base = s.base := by
  unfold State.senderRefusal; grind [State.stopSender_base]

theorem State.senderClosed_base (s : State) (src : Nat) : (State.senderClosed s src).base = s.base := by
  unfold State.senderClosed; grind [State.stopSender_base]

theorem State.setGateway_base (s : State) (g : Option Gateway) : (State.setGateway s g).base = s.base := by
  unfold State.setGateway; grind [State.setUpload_base]

theorem State.giveReceipt_base (s : State) (n k : Nat) : (State.giveReceipt s n k).base = s.base := by
  unfold State.giveReceipt; grind [State.hand_base, State.hand_base_of, State.senderReceipt_base]

theorem State.giveRefusal_base (s : State) (n reason : Nat) : (State.giveRefusal s n reason).base = s.base := by
  unfold State.giveRefusal; grind [State.hand_base, State.hand_base_of, State.senderRefusal_base]

theorem State.sendHead_base (s : State) : (State.sendHead s).base = s.base := by
  unfold State.sendHead; grind [State.setUpload_base]

theorem State.closeNow_base (s : State) (g : Gateway) : (State.closeNow s g).base = s.base := by
  unfold State.closeNow; grind [State.setUpload_base, State.latchUpload_base, State.senderClosed_base]

theorem State.testClose_base (s : State) : (State.testClose s).base = s.base := by
  unfold State.testClose; grind [State.hand_base, State.hand_base_of, State.handUpload_base, State.setGateway_base, State.closeNow_base]

theorem State.openGateway_base (s : State) (day : Nat) : (State.openGateway s day).base = s.base := by
  unfold State.openGateway; grind [State.latchUpload_base, State.setGateway_base]

theorem State.gatewayBegin_base (s : State) (n count : Nat) : (State.gatewayBegin s n count).base = s.base := by
  unfold State.gatewayBegin; grind [State.setGateway_base, State.giveRefusal_base, State.testClose_base]

theorem State.gatewayBlock_base (s : State) (n k : Nat) (records : List (List Byte)) : (State.gatewayBlock s n k records).base = s.base := by
  unfold State.gatewayBlock; grind [State.setGateway_base, State.giveReceipt_base, State.giveRefusal_base, State.sendHead_base]

theorem State.gatewayDone_base (s : State) (n blocks : Nat) : (State.gatewayDone s n blocks).base = s.base := by
  unfold State.gatewayDone; grind [State.setGateway_base, State.testClose_base]

theorem State.gatewayBeginExpiry_base (s : State) : (State.gatewayBeginExpiry s).base = s.base := by
  unfold State.gatewayBeginExpiry; grind [State.setGateway_base, State.testClose_base]

theorem State.gatewaySilence_base (s : State) (n : Nat) : (State.gatewaySilence s n).base = s.base := by
  unfold State.gatewaySilence; grind [State.setGateway_base, State.testClose_base]

theorem State.uplinkSent_base (s : State) : (State.uplinkSent s).base = s.base := by
  unfold State.uplinkSent; grind [State.setGateway_base]

theorem State.uplinkAccept_base (s : State) (g : Gateway) (b : UplinkBlock) : (State.uplinkAccept s g b).base = s.base := by
  unfold State.uplinkAccept; grind [State.setGateway_base, State.giveReceipt_base, State.sendHead_base, State.testClose_base]

theorem State.uplinkReject_base (s : State) (g : Gateway) (b : UplinkBlock) (reason : Nat) : (State.uplinkReject s g b reason).base = s.base := by
  unfold State.uplinkReject; grind [State.setUpload_base, State.setGateway_base, State.giveRefusal_base, State.sendHead_base, State.testClose_base]

theorem State.uplinkReceived_base (s : State) (bytes : List Byte) : (State.uplinkReceived s bytes).base = s.base := by
  unfold State.uplinkReceived; grind [State.uplinkAccept_base, State.uplinkReject_base]

theorem State.answerExpiry_base (s : State) : (State.answerExpiry s).base = s.base := by
  unfold State.answerExpiry; grind [State.hand_base, State.hand_base_of, State.latchUpload_base, State.senderRefusal_base, State.setGateway_base]

theorem State.toGateway_base (s : State) (body : Body) : (State.toGateway s body).base = s.base := by
  unfold State.toGateway; grind [State.handUpload_base, State.gatewayBegin_base, State.gatewayBlock_base, State.gatewayDone_base]

theorem State.finishSender_base (s : State) (o : UploadOutcome) : (State.finishSender s o).base = s.base := by
  unfold State.finishSender; grind [State.endSender_base, State.toGateway_base]

theorem State.readBlock_base (s : State) (k : Nat) : (State.readBlock s k).base = s.base := by
  unfold State.readBlock; grind [State.mapSender_base, State.askUpload_base]

theorem State.beginSent_base (s : State) : (State.beginSent s).base = s.base := by
  unfold State.beginSent; grind [State.mapSender_base, State.finishSender_base, State.readBlock_base]

theorem State.settle_base (s : State) : (State.settle s).base = s.base := by
  unfold State.settle; grind [State.askUpload_base]

theorem State.snapshotTaken_base (s : State) : (State.snapshotTaken s).base = s.base := by
  unfold State.snapshotTaken; grind [State.mapSender_base, State.toGateway_base, State.beginSent_base]

theorem State.blockRead_base (s : State) (records : List (List Byte)) : (State.blockRead s records).base = s.base := by
  unfold State.blockRead; grind [State.mapSender_base, State.toGateway_base]

theorem State.marksMoved_base (s : State) : (State.marksMoved s).base = s.base := by
  unfold State.marksMoved; grind [State.finishSender_base, State.readBlock_base, State.settle_base]

theorem State.receiptExpiry_base (s : State) : (State.receiptExpiry s).base = s.base := by
  unfold State.receiptExpiry; grind [State.mapSender_base, State.withdrawUpload_base, State.toGateway_base, State.finishSender_base]

theorem State.makeCall_base (s : State) : (State.makeCall s).base = s.base := by
  unfold State.makeCall; grind [State.mapSender_base, State.handUpload_base, State.dropKept_base, State.endSender_base]

theorem State.claimNames_base (s : State) (gateway : Nat) : (State.claimNames s gateway).base = s.base := by
  unfold State.claimNames; grind [State.mapSender_base, State.latchUpload_base, State.dropKept_base, State.withdrawUpload_base, State.settle_base]

theorem State.claimHeard_base (s : State) (sender day : Nat) : (State.claimHeard s sender day).base = s.base := by
  unfold State.claimHeard; grind [State.claimNames_base]

theorem State.claimSent_base (s : State) (day : Nat) : (State.claimSent s day).base = s.base := by
  unfold State.claimSent; grind [State.openGateway_base, State.claimNames_base]

theorem State.callHeard_base (s : State) (day : Nat) : (State.callHeard s day).base = s.base := by
  unfold State.callHeard; grind [State.makeCall_base]

theorem State.callExpiry_base (s : State) : (State.callExpiry s).base = s.base := by
  unfold State.callExpiry; grind [State.withdrawUpload_base, State.endSender_base]

theorem State.senderBeginExpiry_base (s : State) : (State.senderBeginExpiry s).base = s.base := by
  unfold State.senderBeginExpiry; grind [State.withdrawUpload_base, State.endSender_base]

theorem State.handAgain_base (s : State) : s.handAgain.base = s.base := by
  unfold State.handAgain; have := State.base_foldl _ State.handUpload_base; grind [State.setUpload_base, State.closeNow_base]

end Sys2Proof.Machine
end

