-- ==== Sys2Proof/Laws/Vault.lean ====
section
/-! SUPPORT. Laws/Vault.lean: the operations that leave the attached memory, the command queue and the settings store as they
are: all but the completions of writes, the starts and the settings write cycle. -/

namespace Sys2Proof.Machine

/-- The nonvolatile parts and the command queue. -/

def State.vault (s : State) := (s.attached, s.pending, s.store)

theorem State.vault_eq (s : State) : s.vault = (s.base.1, s.base.2.1, s.base.2.2.1) := rfl

theorem State.vault_line (s : State) (x) : State.vault { s with line := x } = s.vault := rfl

theorem State.vault_laneA (s : State) (x) : State.vault { s with laneA := x } = s.vault := rfl

theorem State.vault_laneB (s : State) (x) : State.vault { s with laneB := x } = s.vault := rfl

theorem State.vault_wand0 (s : State) (x) : State.vault { s with wand0 := x } = s.vault := rfl

theorem State.vault_wand1 (s : State) (x) : State.vault { s with wand1 := x } = s.vault := rfl

theorem State.vault_decoding (s : State) (x) : State.vault { s with decoding := x } = s.vault := rfl

theorem State.vault_standing (s : State) (x) : State.vault { s with standing := x } = s.vault := rfl

theorem State.vault_overlay (s : State) (x) : State.vault { s with overlay := x } = s.vault := rfl

theorem State.vault_traps (s : State) (x) : State.vault { s with traps := x } = s.vault := rfl

theorem State.vault_slips (s : State) (x) : State.vault { s with slips := x } = s.vault := rfl

theorem State.vault_upload (s : State) (x) : State.vault { s with upload := x } = s.vault := rfl

theorem State.vault_port (s : State) (x) : State.vault { s with port := x } = s.vault := rfl

theorem State.vault_minimumTimer (s : State) (x) : State.vault { s with minimumTimer := x } = s.vault := rfl

theorem State.vault_quietTimer (s : State) (x) : State.vault { s with quietTimer := x } = s.vault := rfl

theorem State.vault_races (s : State) (x) : State.vault { s with races := x } = s.vault := rfl

theorem State.vault_station (s : State) (x) : State.vault { s with station := x } = s.vault := rfl

theorem State.vault_memory (s : State) (x) : State.vault { s with memory := x } = s.vault := rfl

theorem State.vault_clock (s : State) (x) : State.vault { s with clock := x } = s.vault := rfl

theorem State.vault_reckoner (s : State) (x) : State.vault { s with reckoner := x } = s.vault := rfl

theorem State.vault_settings (s : State) (x) : State.vault { s with settings := x } = s.vault := rfl

theorem State.vault_station3 (s : State) (a b c) :
    State.vault { s with station := a, minimumTimer := b, quietTimer := c } = s.vault := rfl

theorem State.vault_timers (s : State) (b c) : State.vault { s with minimumTimer := b, quietTimer := c } = s.vault := rfl

theorem State.vault_opened (s : State) (a b) : State.vault { s with station := a, laneA := b } = s.vault := rfl

theorem State.setMemory_vault (s : State) (m : MemCtl) : (s.setMemory m).vault = s.vault := rfl

theorem State.vault_foldl {α : Type} (f : State → α → State) (h : ∀ s x, (f s x).vault = s.vault) (xs : List α) (s : State) :
    (xs.foldl f s).vault = s.vault := by
  induction xs generalizing s <;> simp_all

theorem State.askRecord_vault (s : State) : (State.askRecord s).vault = s.vault := by
  unfold State.askRecord; grind [State.vault_eq, State.vault_settings]

theorem State.activate_vault (s : State) : (State.activate s).vault = s.vault := by
  unfold State.activate; grind [State.vault_eq, State.askRecord_vault, State.vault_reckoner]

theorem State.beginWork_vault (s : State) : (State.beginWork s).vault = s.vault := by
  unfold State.beginWork; grind [State.vault_eq, State.handPresence_base, State.vault_line]

theorem State.enterGathering_vault (s : State) : (State.enterGathering s).vault = s.vault := by
  unfold State.enterGathering; grind [State.vault_eq, State.releaseEngine_base, State.testOwed_base, State.pushBroadcast_base, State.vault_station3, State.vault_timers, State.vault_minimumTimer, State.vault_quietTimer, State.vault_station3, State.vault_timers, State.vault_opened, State.vault_station]

theorem State.testReady_vault (s : State) : s.testReady.vault = s.vault := by
  unfold State.testReady; dsimp only; repeat' split
  all_goals rfl

theorem State.stationFault_vault (s : State) : (State.stationFault s).vault = s.vault := by
  unfold State.stationFault; grind [State.vault_eq, State.releaseEngine_base, State.testOwed_base, State.closeLane_base, State.beginWork_vault, State.vault_station3, State.vault_timers, State.vault_minimumTimer, State.vault_quietTimer, State.vault_station3, State.vault_timers, State.vault_opened, State.vault_station]

theorem State.laneFaultAnswer_vault (s : State) (l : LaneId) (op : MemOp) : (State.laneFaultAnswer s l op).vault = s.vault := by
  unfold State.laneFaultAnswer; grind [State.vault_eq, State.endTxn_base, State.appendFailed_base, State.returnOn_base]

theorem State.faultLane_vault (s : State) (requests : List MemRequest) (failing : Bool) (l : LaneId) : (State.faultLane s requests failing l).vault = s.vault := by
  unfold State.faultLane; grind [State.vault_eq, State.laneFaultAnswer_vault, State.vault_races]

theorem State.memFault_vault (s : State) : s.memFault.vault = s.vault := by
  unfold State.memFault; simp only []; rw [State.stationFault_vault, State.faultLane_vault, State.faultLane_vault, State.vault_eq, State.latch_base]
  split <;> simp only [State.endSender_base, State.settle_base, State.abandonParked_base] <;> rfl

theorem State.setQuery_vault (s : State) (q : Query) : (State.setQuery s q).vault = s.vault := by
  unfold State.setQuery; grind [State.vault_eq, State.setMemory_vault]

theorem State.nextQuery_vault (s : State) : (State.nextQuery s).vault = s.vault := by
  unfold State.nextQuery; grind [State.vault_eq, State.ask_base, State.setQuery_vault]

theorem State.setReplay_vault (s : State) (next : Nat) (stage : ReplayStage) : (State.setReplay s next stage).vault = s.vault := by
  unfold State.setReplay; grind [State.vault_eq, State.setMemory_vault]

theorem State.replayDone_vault (s : State) (stamp : Nat) : (State.replayDone s stamp).vault = s.vault := by
  unfold State.replayDone; grind [State.vault_eq, State.latch_base, State.setMemory_vault, State.enterGathering_vault, State.vault_line]

theorem State.replayFrom_vault (s : State) (n : Nat) : (State.replayFrom s n).vault = s.vault := by
  unfold State.replayFrom; grind [State.vault_eq, State.ask_base, State.setReplay_vault, State.replayDone_vault]

theorem State.startReplay_vault (s : State) : (State.startReplay s).vault = s.vault := by
  unfold State.startReplay; grind [State.vault_eq, State.ask_base, State.beginWork_vault, State.setReplay_vault, State.replayFrom_vault, State.vault_station3, State.vault_timers, State.vault_opened, State.vault_station]

theorem State.replayNext_vault (s : State) (r : JournalRecord) : (State.replayNext s r).vault = s.vault := by
  unfold State.replayNext; grind [State.vault_eq, State.replayFrom_vault]

theorem State.replayTraps_vault (s : State) (r : JournalRecord) : (State.replayTraps s r).vault = s.vault := by
  unfold State.replayTraps; grind [State.vault_eq, State.ask_base, State.setReplay_vault, State.replayNext_vault]

theorem State.replayOverlay_vault (s : State) (r : JournalRecord) : (State.replayOverlay s r).vault = s.vault := by
  unfold State.replayOverlay; grind [State.vault_eq, State.ask_base, State.replayItem_base, State.setReplay_vault, State.replayNext_vault, State.replayTraps_vault]

theorem State.replayRecord_vault (s : State) (n : Nat) (bs : List Byte) : (State.replayRecord s n bs).vault = s.vault := by
  unfold State.replayRecord; grind [State.vault_eq, State.ask_base, State.replayStandingRecord_base, State.setReplay_vault, State.replayFrom_vault, State.replayOverlay_vault]

theorem State.replayRoll_vault (s : State) (r : JournalRecord) (answer : Lookup RollFields) : (State.replayRoll s r answer).vault = s.vault := by
  unfold State.replayRoll; grind [State.vault_eq, State.setIncomplete_base, State.createEntry_base, State.createEntry_base_of, State.replayStandingRecord_base, State.replayOverlay_vault]

theorem State.replayWith_vault (s : State) (f : JournalRecord → State) (h : ∀ r, (f r).vault = s.vault) : (s.replayWith f).vault = s.vault := by
  unfold State.replayWith; grind

theorem State.laneRoll_vault (s : State) (l : LaneId) (answer : Lookup RollFields) : (State.laneRoll s l answer).vault = s.vault := by
  unfold State.laneRoll; grind [State.vault_eq, State.createEntry_base, State.createEntry_base_of, State.endTxn_base, State.returnBorrower_base, State.checkDone_base, State.operationOn_base]

theorem State.viewRoll_vault (s : State) (l : LaneId) (answer : Lookup RollFields) : (State.viewRoll s l answer).vault = s.vault := by
  unfold State.viewRoll; grind [State.vault_eq, State.writeResult_base, State.endTxn_base, State.inquireBorrowerFound_base]

theorem State.laneLoan_vault (s : State) (l : LaneId) (answer : Lookup ItemAnswer) : (State.laneLoan s l answer).vault = s.vault := by
  unfold State.laneLoan; grind [State.vault_eq, State.endTxn_base, State.itemFound_base, State.inquireItemFound_base]

theorem State.laneHolds_vault (s : State) (l : LaneId) (answer : Lookup (List Hold)) : (State.laneHolds s l answer).vault = s.vault := by
  unfold State.laneHolds; grind [State.vault_eq, State.mapTxn_base, State.endTxn_base, State.returnOn_base, State.tryTrap_base, State.renewHolds_base]

theorem State.strayRoll_vault (s : State) (b : Nat) (answer : Lookup RollFields) : (State.strayRoll s b answer).vault = s.vault := by
  unfold State.strayRoll; grind [State.vault_eq, State.createEntry_base, State.createEntry_base_of]

theorem State.rollLookupDone_vault (s : State) : (State.rollLookupDone s).vault = s.vault := by
  unfold State.rollLookupDone; grind [State.vault_eq, State.grant_base, State.freePort_base, State.parkedLookupDone_base, State.replayRoll_vault, State.replayWith_vault, State.laneRoll_vault, State.viewRoll_vault, State.strayRoll_vault, State.resumeLane_base]

theorem State.loansLookupDone_vault (s : State) : (State.loansLookupDone s).vault = s.vault := by
  unfold State.loansLookupDone; grind [State.vault_eq, State.grant_base, State.freePort_base, State.replayItem_base, State.replayTraps_vault, State.replayWith_vault, State.laneLoan_vault, State.resumeLane_base]

theorem State.holdLookupDone_vault (s : State) : (State.holdLookupDone s).vault = s.vault := by
  unfold State.holdLookupDone; grind [State.vault_eq, State.grant_base, State.freePort_base, State.replayTrap_base, State.replayNext_vault, State.replayWith_vault, State.laneHolds_vault, State.resumeLane_base]

theorem State.newEdition_vault (s : State) : s.newEdition.vault = s.vault := by
  unfold State.newEdition; simp only []; rw [State.vault_foldl]
  · rfl
  · intro s x; grind [State.vault_eq, State.vault_eq, State.holdLost_base]

theorem State.queryReadDone_vault (s : State) : (State.queryReadDone s).vault = s.vault := by
  unfold State.queryReadDone; grind [State.vault_eq, State.grant_base, State.freePort_base, State.memFault_vault, State.setQuery_vault, State.nextQuery_vault]

theorem State.replayLastDone_vault (s : State) : (State.replayLastDone s).vault = s.vault := by
  unfold State.replayLastDone; grind [State.vault_eq, State.grant_base, State.ask_base, State.freePort_base, State.setReplay_vault, State.replayFrom_vault]

theorem State.replayReadDone_vault (s : State) : (State.replayReadDone s).vault = s.vault := by
  unfold State.replayReadDone; grind [State.vault_eq, State.grant_base, State.freePort_base, State.memFault_vault, State.replayDone_vault, State.replayRecord_vault]

theorem State.uploadReadDone_vault (s : State) : (State.uploadReadDone s).vault = s.vault := by
  unfold State.uploadReadDone; grind [State.vault_eq, State.grant_base, State.freePort_base, State.endSender_base, State.settle_base, State.blockRead_base, State.memFault_vault]

theorem State.mapClock_vault (s : State) (f : Clock → Clock) : (State.mapClock s f).vault = s.vault := by
  unfold State.mapClock; grind [State.vault_eq, State.vault_clock]

theorem State.testOneShot_vault (s : State) : (State.testOneShot s).vault = s.vault := by
  unfold State.testOneShot; grind [State.vault_eq, State.makeCall_base, State.mapClock_vault]

theorem State.setOneShot_vault (s : State) : (State.setOneShot s).vault = s.vault := by
  unfold State.setOneShot; grind [State.vault_eq, State.mapClock_vault, State.testOneShot_vault]

theorem State.rollTo_vault (s : State) (day minute second : Nat) : (State.rollTo s day minute second).vault = s.vault := by
  unfold State.rollTo; grind [State.vault_eq, State.latch_base, State.activate_vault, State.mapClock_vault, State.setOneShot_vault]

theorem State.ownMidnight_vault (s : State) : (State.ownMidnight s).vault = s.vault := by
  unfold State.ownMidnight; grind [State.vault_eq, State.hand_base, State.hand_base_of, State.mapClock_vault, State.rollTo_vault]

theorem State.countSecond_vault (s : State) : (State.countSecond s).vault = s.vault := by
  unfold State.countSecond; grind [State.vault_eq, State.mapClock_vault, State.testOneShot_vault, State.ownMidnight_vault]

theorem State.dayRollHeard_vault (s : State) (day : Nat) : (State.dayRollHeard s day).vault = s.vault := by
  unfold State.dayRollHeard; grind [State.vault_eq, State.withdraw_base, State.mapClock_vault, State.rollTo_vault]

theorem State.adopt_vault (s : State) (p : PresencePart) : (State.adopt s p).vault = s.vault := by
  unfold State.adopt; grind [State.vault_eq, State.mapClock_vault, State.setOneShot_vault]

theorem State.takeClock_vault (s : State) (day minute second : Nat) : (State.takeClock s day minute second).vault = s.vault := by
  unfold State.takeClock; grind [State.vault_eq, State.mapClock_vault, State.testOneShot_vault, State.setOneShot_vault, State.rollTo_vault]

theorem State.mapLine_vault (s : State) (f : LineCtl → LineCtl) : (State.mapLine s f).vault = s.vault := by
  unfold State.mapLine; grind [State.vault_eq, State.vault_line]

theorem State.startSending_vault (s : State) (slots : Nat) : (State.startSending s slots).vault = s.vault := by
  unfold State.startSending; grind [State.vault_eq, State.mapLine_vault]

theorem State.noticeLeft_vault (s : State) (n : Notice) : (State.noticeLeft s n).vault = s.vault := by
  unfold State.noticeLeft; grind [State.vault_eq, State.holdAsserted_base]

theorem State.trapSent_vault (s : State) (n : Notice) : (State.trapSent s n).vault = s.vault := by
  unfold State.trapSent; grind [State.vault_eq, State.holdAsserted_base, State.putTrap_base, State.releaseTrap_base, State.returnOn_base, State.noticeLeft_vault]

theorem State.reportSent_vault (s : State) (n : Notice) : (State.reportSent s n).vault = s.vault := by
  unfold State.reportSent; grind [State.vault_eq, State.blockTransmitted_base, State.beginSent_base, State.claimSent_base, State.mapClock_vault, State.trapSent_vault]

theorem State.sendComplete_vault (s : State) : (State.sendComplete s).vault = s.vault := by
  unfold State.sendComplete; grind [State.vault_eq, State.setQueueOf_base, State.left_base, State.mapLine_vault, State.reportSent_vault]

theorem State.enterListenOnly_vault (s : State) : (State.enterListenOnly s).vault = s.vault := by
  unfold State.enterListenOnly; grind [State.vault_eq, State.latch_base, State.mapLine_vault]

theorem State.withdrawnLost_vault (s : State) (n : Notice) : (State.withdrawnLost s n).vault = s.vault := by
  unfold State.withdrawnLost; grind [State.vault_eq, State.holdAsserted_base, State.removeTrap_base, State.endTxn_base, State.returnOn_base, State.mapClock_vault, State.noticeLeft_vault]

theorem State.lineLost_vault (s : State) : (State.lineLost s).vault = s.vault := by
  unfold State.lineLost; grind [State.vault_eq, State.setQueueOf_base, State.left_base, State.mapLine_vault, State.enterListenOnly_vault, State.withdrawnLost_vault]

theorem State.peerHeard_vault (s : State) (n edition : Nat) : (State.peerHeard s n edition).vault = s.vault := by
  unfold State.peerHeard; grind [State.vault_eq, State.latch_base, State.setPeer_base]

theorem State.peerTrapped_vault (s : State) (p : TrapPart) (sender stamp : Nat) : (State.peerTrapped s p sender stamp).vault = s.vault := by
  unfold State.peerTrapped; grind [State.vault_eq, State.withdraw_base, State.putTrap_base, State.recordTrap_base, State.trapConflict_base, State.tryTrap_base]

theorem State.restatedTrap_vault (s : State) (p : TrapPart) (state : RestatedTrap) (sender stamp : Nat) : (State.restatedTrap s p state sender stamp).vault = s.vault := by
  unfold State.restatedTrap; grind [State.vault_eq, State.putTrap_base, State.peerTrapped_vault]

theorem State.liveTally_vault (s : State) (sender stamp : Nat) (t : TallyPart) (lost staff : Option StampedAction) : (State.liveTally s sender stamp t lost staff).vault = s.vault := by
  unfold State.liveTally; grind [State.vault_eq, State.tallyOffer_base]

theorem State.applyNotice_vault (s : State) (sender stamp : Nat) (b : Body) : (State.applyNotice s sender stamp b).vault = s.vault := by
  unfold State.applyNotice; grind [State.vault_eq, State.liveItem_base, State.peerReleased_base, State.peerTrapped_vault, State.liveTally_vault]

theorem State.judgeStamp_vault (s : State) (sender stamp : Nat) (b : Body) : (State.judgeStamp s sender stamp b).vault = s.vault := by
  unfold State.judgeStamp; grind [State.vault_eq, State.setPeer_base, State.requestRestate_base, State.applyNotice_vault]

theorem State.presenceHeard_vault (s : State) (sender edition : Nat) (p : PresencePart) : (State.presenceHeard s sender edition p).vault = s.vault := by
  unfold State.presenceHeard; grind [State.vault_eq, State.setPeer_base, State.requestRestate_base, State.adopt_vault, State.mapLine_vault]

theorem State.restatementHeard_vault (s : State) : (State.restatementHeard s).vault = s.vault := by
  unfold State.restatementHeard; grind [State.vault_eq, State.vault_quietTimer]

theorem State.handOn_vault (s : State) (sender edition target : Nat) (b : Body) : (State.handOn s sender edition target b).vault = s.vault := by
  unfold State.handOn; grind [State.vault_eq, State.engineRequest_base, State.handPresence_base, State.tallyOffer_base, State.restatedItem_base, State.senderReceipt_base, State.senderRefusal_base, State.senderClosed_base, State.gatewayBegin_base, State.gatewayBlock_base, State.gatewayDone_base, State.claimHeard_base, State.callHeard_base, State.dayRollHeard_vault, State.restatedTrap_vault, State.presenceHeard_vault, State.restatementHeard_vault]

theorem State.peerFrame_vault (s : State) (sender stamp edition target : Nat) (b : Body) : (State.peerFrame s sender stamp edition target b).vault = s.vault := by
  unfold State.peerFrame; grind [State.vault_eq, State.setPeer_base, State.peerHeard_vault, State.judgeStamp_vault, State.handOn_vault]

theorem State.goodFrame_vault (s : State) (f : RxFrame) : (State.goodFrame s f).vault = s.vault := by
  unfold State.goodFrame; grind [State.vault_eq, State.mapLine_vault, State.enterListenOnly_vault, State.peerFrame_vault]

theorem State.frameEnded_vault (s : State) (f : RxFrame) : (State.frameEnded s f).vault = s.vault := by
  unfold State.frameEnded; grind [State.vault_eq, State.mapLine_vault, State.goodFrame_vault]

theorem State.peerAbsent_vault (s : State) (n : Nat) : (State.peerAbsent s n).vault = s.vault := by
  unfold State.peerAbsent; grind [State.vault_eq, State.latch_base, State.setPeer_base]

theorem State.mapWand_vault (s : State) (w : Wand) (f : FrontEnd → FrontEnd) : (State.mapWand s w f).vault = s.vault := by
  unfold State.mapWand; grind [State.vault_eq, State.setWand_base]

theorem State.quietZone_vault (s : State) (w : Wand) : (State.quietZone s w).vault = s.vault := by
  unfold State.quietZone; grind [State.vault_eq, State.setWand_base, State.vault_decoding]

theorem State.elementEnds_vault (s : State) (w : Wand) (count : Nat) : (State.elementEnds s w count).vault = s.vault := by
  unfold State.elementEnds; grind [State.vault_eq, State.setWand_base, State.tone_base]

theorem State.levelChanges_vault (s : State) (w : Wand) (ticks : Nat) : (State.levelChanges s w ticks).vault = s.vault := by
  unfold State.levelChanges; grind [State.vault_eq, State.mapWand_vault, State.quietZone_vault, State.elementEnds_vault]

theorem State.acceptLabel_vault (s : State) (w : Wand) (ds : List Nat) : (State.acceptLabel s w ds).vault = s.vault := by
  unfold State.acceptLabel; grind [State.vault_eq, State.tone_base, State.offer_base]

theorem State.readLabel_vault (s : State) (w : Wand) (ds : List Nat) : (State.readLabel s w ds).vault = s.vault := by
  unfold State.readLabel; grind [State.vault_eq, State.tone_base, State.mapWand_vault, State.acceptLabel_vault]

theorem State.returnBuffer_vault (s : State) (w : Wand) : (State.returnBuffer s w).vault = s.vault := by
  unfold State.returnBuffer; grind [State.vault_eq, State.mapWand_vault, State.vault_decoding]

theorem State.decodeDone_vault (s : State) : (State.decodeDone s).vault = s.vault := by
  unfold State.decodeDone; grind [State.vault_eq, State.tone_base, State.readLabel_vault, State.returnBuffer_vault]

theorem State.mapPort_vault (s : State) (f : Port → Port) : (State.mapPort s f).vault = s.vault := by
  unfold State.mapPort; grind [State.vault_eq, State.vault_port]

theorem State.reportStatus_vault (s : State) : (State.reportStatus s).vault = s.vault := by
  unfold State.reportStatus; grind [State.vault_eq, State.mapPort_vault]

theorem State.commandStatus_vault (s : State) : (State.commandStatus s).vault = s.vault := by
  unfold State.commandStatus; grind [State.vault_eq, State.reportStatus_vault]

theorem State.answer_vault (s : State) (r : Reply) : (State.answer s r).vault = s.vault := by
  unfold State.answer; grind [State.vault_eq, State.mapPort_vault]

theorem State.openFrame_vault (s : State) : (State.openFrame s).vault = s.vault := by
  unfold State.openFrame; grind [State.vault_eq, State.mapPort_vault, State.reportStatus_vault]

theorem State.badCommand_vault (s : State) : (State.badCommand s).vault = s.vault := by
  unfold State.badCommand; grind [State.vault_eq, State.mapPort_vault, State.commandStatus_vault]

theorem State.resultRead_vault (s : State) (l : LaneId) : (State.resultRead s l).vault = s.vault := by
  unfold State.resultRead; grind [State.vault_eq, State.mapLane_base, State.clearCause_base, State.takeSlot_base]

theorem State.clearing_vault (s : State) (e : ClearEffect) : (State.clearing s e).vault = s.vault := by
  unfold State.clearing; grind [State.vault_eq, State.clearCause_base, State.setQuery_vault, State.nextQuery_vault, State.resultRead_vault]

theorem State.answered_vault (s : State) : (State.answered s).vault = s.vault := by
  unfold State.answered; grind [State.vault_eq, State.mapPort_vault, State.clearing_vault]

theorem State.endSessionNow_vault (s : State) (l : LaneId) : (State.endSessionNow s l).vault = s.vault := by
  unfold State.endSessionNow; grind [State.vault_eq, State.endSession_base, State.takeSlot_base]

theorem laneModeCommand_vault (l : LaneId) (mode : Byte) (s : State) : (laneModeCommand l mode s).1.vault = s.vault := by
  unfold laneModeCommand; grind [State.vault_eq, State.changeMode_base, State.takeSlot_base]

theorem laneModeCommand_vault_of (l : LaneId) (mode : Byte) (s : State) (u) (ub) (h : laneModeCommand l mode s = (u, ub)) : u.vault = s.vault := by
  have h' := laneModeCommand_vault l mode s
  rw [h] at h'
  exact h'

theorem keyedEntryCommand_vault (l : LaneId) (count : Byte) (digits : BitVec 56) (s : State) : (keyedEntryCommand l count digits s).1.vault = s.vault := by
  unfold keyedEntryCommand; grind [State.vault_eq, State.offer_base]

theorem keyedEntryCommand_vault_of (l : LaneId) (count : Byte) (digits : BitVec 56) (s : State) (u) (ub) (h : keyedEntryCommand l count digits s = (u, ub)) : u.vault = s.vault := by
  have h' := keyedEntryCommand_vault l count digits s
  rw [h] at h'
  exact h'

theorem endSessionCommand_vault (l : LaneId) (s : State) : (endSessionCommand l s).1.vault = s.vault := by
  unfold endSessionCommand; grind [State.vault_eq, State.mapLane_base, State.endSessionNow_vault]

theorem endSessionCommand_vault_of (l : LaneId) (s : State) (u) (ub) (h : endSessionCommand l s = (u, ub)) : u.vault = s.vault := by
  have h' := endSessionCommand_vault l s
  rw [h] at h'
  exact h'

theorem cancelCommand_vault (l : LaneId) (s : State) : (cancelCommand l s).1.vault = s.vault := by
  unfold cancelCommand; grind [State.vault_eq, State.cancelWork_base]

theorem cancelCommand_vault_of (l : LaneId) (s : State) (u) (ub) (h : cancelCommand l s = (u, ub)) : u.vault = s.vault := by
  have h' := cancelCommand_vault l s
  rw [h] at h'
  exact h'

theorem readResultCommand_vault (l : LaneId) (s : State) : (readResultCommand l s).1.vault = s.vault := by
  first | rfl | (unfold readResultCommand; grind [State.vault_eq])

theorem readResultCommand_vault_of (l : LaneId) (s : State) (u) (ub) (h : readResultCommand l s = (u, ub)) : u.vault = s.vault := by
  have h' := readResultCommand_vault l s
  rw [h] at h'
  exact h'

theorem State.operationCommand_vault (s : State) (t : Txn) : (State.operationCommand s t).1.vault = s.vault := by
  unfold State.operationCommand; grind [State.vault_eq, State.startOperation_base]

theorem State.operationCommand_vault_of (s : State) (t : Txn) (u) (ub) (h : State.operationCommand s t = (u, ub)) : u.vault = s.vault := by
  have h' := State.operationCommand_vault s t
  rw [h] at h'
  exact h'

theorem blockCommand_vault (op : Operation) (reason : Byte) (borrower : Nat) (s : State) : (blockCommand op reason borrower s).1.vault = s.vault := by
  unfold blockCommand; grind [State.vault_eq, State.operationCommand_vault, State.operationCommand_vault_of]

theorem blockCommand_vault_of (op : Operation) (reason : Byte) (borrower : Nat) (s : State) (u) (ub) (h : blockCommand op reason borrower s = (u, ub)) : u.vault = s.vault := by
  have h' := blockCommand_vault op reason borrower s
  rw [h] at h'
  exact h'

theorem paymentCommand_vault (amount borrower : Nat) (s : State) : (paymentCommand amount borrower s).1.vault = s.vault := by
  unfold paymentCommand; grind [State.vault_eq, State.operationCommand_vault, State.operationCommand_vault_of]

theorem paymentCommand_vault_of (amount borrower : Nat) (s : State) (u) (ub) (h : paymentCommand amount borrower s = (u, ub)) : u.vault = s.vault := by
  have h' := paymentCommand_vault amount borrower s
  rw [h] at h'
  exact h'

theorem State.beginLoad_vault (s : State) : s.beginLoad.vault = s.vault := by
  unfold State.beginLoad; simp only []
  rw [State.vault_eq, State.ask_base, ← State.vault_eq]
  have h := State.vault_foldl _ (fun s x => show (State.holdAsserted s x).vault = s.vault by grind [State.vault_eq, State.vault_eq, State.holdAsserted_base]) s.purgedTraps s.purgeLine
  have h2 := State.purgeLine_base s
  refine Eq.trans ?_ (h.trans ?_)
  · rfl
  · grind [State.vault_eq, State.vault_eq]

theorem rollBeginCommand_vault (s : State) : (rollBeginCommand s).1.vault = s.vault := by
  unfold rollBeginCommand; grind [State.vault_eq, State.beginLoad_vault]

theorem rollBeginCommand_vault_of (s : State) (u) (ub) (h : rollBeginCommand s = (u, ub)) : u.vault = s.vault := by
  have h' := rollBeginCommand_vault s
  rw [h] at h'
  exact h'

theorem chunkCommand_vault (list : Byte) (first : Nat) (count : Byte) (given : List (List Byte)) (s : State) : (chunkCommand list first count given s).1.vault = s.vault := by
  unfold chunkCommand; grind [State.vault_eq, State.setMemory_vault, State.ask_base]

theorem chunkCommand_vault_of (list : Byte) (first : Nat) (count : Byte) (given : List (List Byte)) (s : State) (u) (ub) (h : chunkCommand list first count given s = (u, ub)) : u.vault = s.vault := by
  have h' := chunkCommand_vault list first count given s
  rw [h] at h'
  exact h'

theorem rollEndCommand_vault (edition roll loans holds : Nat) (s : State) : (rollEndCommand edition roll loans holds s).1.vault = s.vault := by
  unfold rollEndCommand; grind [State.vault_eq, State.setMemory_vault, State.ask_base]

theorem rollEndCommand_vault_of (edition roll loans holds : Nat) (s : State) (u) (ub) (h : rollEndCommand edition roll loans holds s = (u, ub)) : u.vault = s.vault := by
  have h' := rollEndCommand_vault edition roll loans holds s
  rw [h] at h'
  exact h'

theorem journalQueryCommand_vault (field comparison : Byte) (value : BitVec 40) (step : Byte) (s : State) : (journalQueryCommand field comparison value step s).1.vault = s.vault := by
  unfold journalQueryCommand; grind [State.vault_eq, State.detachAsked_base, State.setQuery_vault, State.nextQuery_vault]

theorem journalQueryCommand_vault_of (field comparison : Byte) (value : BitVec 40) (step : Byte) (s : State) (u) (ub) (h : journalQueryCommand field comparison value step s = (u, ub)) : u.vault = s.vault := by
  have h' := journalQueryCommand_vault field comparison value step s
  rw [h] at h'
  exact h'

theorem queryNextCommand_vault (s : State) : (queryNextCommand s).1.vault = s.vault := by
  first | rfl | (unfold queryNextCommand; grind [State.vault_eq])

theorem queryNextCommand_vault_of (s : State) (u) (ub) (h : queryNextCommand s = (u, ub)) : u.vault = s.vault := by
  have h' := queryNextCommand_vault s
  rw [h] at h'
  exact h'

theorem setClockCommand_vault (day minute second : Nat) (s : State) : (setClockCommand day minute second s).1.vault = s.vault := by
  unfold setClockCommand; grind [State.vault_eq, State.takeClock_vault]

theorem setClockCommand_vault_of (day minute second : Nat) (s : State) (u) (ub) (h : setClockCommand day minute second s = (u, ub)) : u.vault = s.vault := by
  have h' := setClockCommand_vault day minute second s
  rw [h] at h'
  exact h'

theorem uploadNowCommand_vault (s : State) : (uploadNowCommand s).1.vault = s.vault := by
  unfold uploadNowCommand; grind [State.vault_eq, State.makeCall_base]

theorem uploadNowCommand_vault_of (s : State) (u) (ub) (h : uploadNowCommand s = (u, ub)) : u.vault = s.vault := by
  have h' := uploadNowCommand_vault s
  rw [h] at h'
  exact h'

theorem resumeLineCommand_vault (s : State) : (resumeLineCommand s).1.vault = s.vault := by
  unfold resumeLineCommand; grind [State.vault_eq, State.mapLine_vault]

theorem resumeLineCommand_vault_of (s : State) (u) (ub) (h : resumeLineCommand s = (u, ub)) : u.vault = s.vault := by
  have h' := resumeLineCommand_vault s
  rw [h] at h'
  exact h'

theorem readPeerCommand_vault (station : Nat) (s : State) : (readPeerCommand station s).1.vault = s.vault := by
  first | rfl | (unfold readPeerCommand; grind [State.vault_eq])

theorem readPeerCommand_vault_of (station : Nat) (s : State) (u) (ub) (h : readPeerCommand station s = (u, ub)) : u.vault = s.vault := by
  have h' := readPeerCommand_vault station s
  rw [h] at h'
  exact h'

theorem identifyCommand_vault (s : State) : (identifyCommand s).1.vault = s.vault := by
  rfl

theorem identifyCommand_vault_of (s : State) (u) (ub) (h : identifyCommand s = (u, ub)) : u.vault = s.vault := by
  have h' := identifyCommand_vault s
  rw [h] at h'
  exact h'

theorem readStatusCommand_vault (s : State) : (readStatusCommand s).1.vault = s.vault := by
  rfl

theorem readStatusCommand_vault_of (s : State) (u) (ub) (h : readStatusCommand s = (u, ub)) : u.vault = s.vault := by
  have h' := readStatusCommand_vault s
  rw [h] at h'
  exact h'

theorem takeAttentionCommand_vault (s : State) : (takeAttentionCommand s).1.vault = s.vault := by
  rfl

theorem takeAttentionCommand_vault_of (s : State) (u) (ub) (h : takeAttentionCommand s = (u, ub)) : u.vault = s.vault := by
  have h' := takeAttentionCommand_vault s
  rw [h] at h'
  exact h'

theorem setEnablesCommand_vault (enables : BitVec 16) (s : State) : (setEnablesCommand enables s).1.vault = s.vault := by
  unfold setEnablesCommand; grind [State.vault_eq, State.mapPort_vault]

theorem setEnablesCommand_vault_of (enables : BitVec 16) (s : State) (u) (ub) (h : setEnablesCommand enables s = (u, ub)) : u.vault = s.vault := by
  have h' := setEnablesCommand_vault enables s
  rw [h] at h'
  exact h'

theorem inquireBorrowerCommand_vault (b : Nat) (s : State) : (inquireBorrowerCommand b s).1.vault = s.vault := by
  rfl

theorem inquireBorrowerCommand_vault_of (b : Nat) (s : State) (u) (ub) (h : inquireBorrowerCommand b s = (u, ub)) : u.vault = s.vault := by
  have h' := inquireBorrowerCommand_vault b s
  rw [h] at h'
  exact h'

theorem inquireItemCommand_vault (n : Nat) (s : State) : (inquireItemCommand n s).1.vault = s.vault := by
  rfl

theorem inquireItemCommand_vault_of (n : Nat) (s : State) (u) (ub) (h : inquireItemCommand n s = (u, ub)) : u.vault = s.vault := by
  have h' := inquireItemCommand_vault n s
  rw [h] at h'
  exact h'

theorem State.setReckoner_vault (s : State) (r : Reckoner) : (State.setReckoner s r).vault = s.vault := by
  unfold State.setReckoner; grind [State.vault_eq, State.vault_reckoner]

theorem stagePart_vault (f : RuleSet → Option RuleSet) (s : State) : (stagePart f s).1.vault = s.vault := by
  unfold stagePart; grind [State.vault_eq, State.setReckoner_vault]

theorem stagePart_vault_of (f : RuleSet → Option RuleSet) (s : State) (u) (ub) (h : stagePart f s = (u, ub)) : u.vault = s.vault := by
  have h' := stagePart_vault f s
  rw [h] at h'
  exact h'

theorem discardStaged_vault (s : State) : (discardStaged s).1.vault = s.vault := by
  unfold discardStaged; grind [State.vault_eq, State.setReckoner_vault]

theorem discardStaged_vault_of (s : State) (u) (ub) (h : discardStaged s = (u, ub)) : u.vault = s.vault := by
  have h' := discardStaged_vault s
  rw [h] at h'
  exact h'

theorem holidayAdd_vault (day : Nat) (s : State) : (holidayAdd day s).1.vault = s.vault := by
  unfold holidayAdd; grind [State.vault_eq, stagePart_vault, stagePart_vault_of]

theorem holidayAdd_vault_of (day : Nat) (s : State) (u) (ub) (h : holidayAdd day s = (u, ub)) : u.vault = s.vault := by
  have h' := holidayAdd_vault day s
  rw [h] at h'
  exact h'

theorem applyNowCommand_vault (s : State) : (applyNowCommand s).1.vault = s.vault := by
  unfold applyNowCommand; grind [State.vault_eq, State.activate_vault, State.testOneShot_vault]

theorem applyNowCommand_vault_of (s : State) (u) (ub) (h : applyNowCommand s = (u, ub)) : u.vault = s.vault := by
  have h' := applyNowCommand_vault s
  rw [h] at h'
  exact h'

theorem readSettingCommand_vault (n : Nat) (s : State) : (readSettingCommand n s).1.vault = s.vault := by
  first | rfl | (unfold readSettingCommand; grind [State.vault_eq])

theorem readSettingCommand_vault_of (n : Nat) (s : State) (u) (ub) (h : readSettingCommand n s = (u, ub)) : u.vault = s.vault := by
  have h' := readSettingCommand_vault n s
  rw [h] at h'
  exact h'

theorem State.mapSettings_vault (s : State) (f : SettingsCtl → SettingsCtl) : (State.mapSettings s f).vault = s.vault := by
  unfold State.mapSettings; grind [State.vault_eq, State.vault_settings]

theorem writeSettingCommand_vault (n v : Nat) (s : State) : (writeSettingCommand n v s).1.vault = s.vault := by
  unfold writeSettingCommand; grind [State.vault_eq, State.mapSettings_vault]

theorem writeSettingCommand_vault_of (n v : Nat) (s : State) (u) (ub) (h : writeSettingCommand n v s = (u, ub)) : u.vault = s.vault := by
  have h' := writeSettingCommand_vault n v s
  rw [h] at h'
  exact h'

theorem commitSettingsCommand_vault (s : State) : (commitSettingsCommand s).1.vault = s.vault := by
  unfold commitSettingsCommand; grind [State.vault_eq, State.mapSettings_vault]

theorem commitSettingsCommand_vault_of (s : State) (u) (ub) (h : commitSettingsCommand s = (u, ub)) : u.vault = s.vault := by
  have h' := commitSettingsCommand_vault s
  rw [h] at h'
  exact h'

theorem State.takeWarmRestart_vault (s : State) : (State.takeWarmRestart s).vault = s.vault := by
  unfold State.takeWarmRestart; grind [State.vault_eq, State.mapPort_vault, State.commandStatus_vault, State.answer_vault]

theorem State.mapSlips_vault (s : State) (f : SlipUnit → SlipUnit) : (State.mapSlips s f).vault = s.vault := by
  unfold State.mapSlips; grind [State.vault_eq, State.vault_slips]

theorem State.warmed_vault (s : State) : (State.warmed s).vault = s.vault := by
  unfold State.warmed; grind [State.vault_eq, State.setWarmTimer_base, State.startPrint_base, State.settleUnload_base]

theorem State.unloaded_vault (s : State) : (State.unloaded s).vault = s.vault := by
  unfold State.unloaded; grind [State.vault_eq, State.setPrinter_base, State.setUnloadTimer_base]

theorem State.printed_vault (s : State) : (State.printed s).vault = s.vault := by
  unfold State.printed; grind [State.vault_eq, State.setSlip_base, State.setQueue_base, State.startPrint_base, State.settleUnload_base]

theorem State.stopPrinter_vault (s : State) : (State.stopPrinter s).vault = s.vault := by
  unfold State.stopPrinter; grind [State.vault_eq, State.setSlip_base, State.setWarmTimer_base, State.setUnloadTimer_base]

theorem State.align_vault (s : State) : (State.align s).vault = s.vault := by
  unfold State.align; grind [State.vault_eq, State.setPrinter_base, State.mapSlips_vault]

theorem State.halt_vault (s : State) : (State.halt s).vault = s.vault := by
  unfold State.halt; grind [State.vault_eq, State.latch_base, State.setPrinter_base, State.stopPrinter_vault]

theorem State.sensed_vault (s : State) (x : PrinterLevel) : (State.sensed s x).vault = s.vault := by
  unfold State.sensed; grind [State.vault_eq, State.mapSlips_vault, State.stopPrinter_vault, State.align_vault, State.halt_vault]

theorem State.alignOne_vault (s : State) (mark : Bool) : (State.alignOne s mark).vault = s.vault := by
  unfold State.alignOne; grind [State.vault_eq, State.latch_base, State.setPrinter_base, State.settlePrinter_base, State.mapSlips_vault]

theorem State.padSensed_vault (s : State) (p : PadId) (present : Bool) : (State.padSensed s p present).vault = s.vault := by
  unfold State.padSensed; grind [State.vault_eq, State.setPad_base]

theorem State.pulseEnded_vault (s : State) (p : PadId) : (State.pulseEnded s p).vault = s.vault := by
  unfold State.pulseEnded; grind [State.vault_eq, State.setPad_base]

theorem State.idleExpired_vault (s : State) (l : LaneId) : (State.idleExpired s l).vault = s.vault := by
  unfold State.idleExpired; grind [State.vault_eq, State.mapLane_base, State.endSessionNow_vault]

theorem State.blockWaitExpired_vault (s : State) (l : LaneId) : (State.blockWaitExpired s l).vault = s.vault := by
  unfold State.blockWaitExpired; grind [State.vault_eq, State.mapLane_base, State.mapTxn_base, State.markWithdrawn_base, State.endTxn_base]

theorem State.trapWaitExpired_vault (s : State) (l : LaneId) : (State.trapWaitExpired s l).vault = s.vault := by
  unfold State.trapWaitExpired; grind [State.vault_eq, State.mapLane_base, State.mapTxn_base, State.markWithdrawn_base, State.abandonTrap_base, State.returnOn_base]

theorem State.carrierBegins_vault (s : State) : (State.carrierBegins s).vault = s.vault := by
  unfold State.carrierBegins; grind [State.vault_eq, State.mapLine_vault]

theorem State.lineQuiet_vault (s : State) : (State.lineQuiet s).vault = s.vault := by
  unfold State.lineQuiet; grind [State.vault_eq, State.mapLine_vault]

theorem State.take_vault (s : State) (n : Nat) (f : State → State × Reply) (hf : ∀ s, (f s).1.vault = s.vault) :
    (s.take n f).vault = s.vault := by
  unfold State.take; split
  · dsimp only; split
    · exact (hf _).trans (State.commandStatus_vault s)
    · exact State.commandStatus_vault s
  · rfl

theorem settingsCommand_vault (b : State → List Byte) (f : State → State × Reply) (hf : ∀ s, (f s).1.vault = s.vault) (s : State) :
    (settingsCommand b f s).1.vault = s.vault := by
  unfold settingsCommand; split
  · rfl
  · exact hf s

theorem stageCommand_vault (f : State → State × Reply) (hf : ∀ s, (f s).1.vault = s.vault) (s : State) :
    (stageCommand f s).1.vault = s.vault := settingsCommand_vault _ f hf s

theorem withLane_vault (b : Byte) (n : Nat) (f : LaneId → State → State × Reply) (hf : ∀ l s, (f l s).1.vault = s.vault) (s : State) :
    (withLane b n f s).1.vault = s.vault := by
  unfold withLane; split
  · rfl
  · exact hf _ s

theorem withNumber_vault (x : BitVec 48) (n : Nat) (f : Nat → State → State × Reply) (hf : ∀ k s, (f k s).1.vault = s.vault) (s : State) :
    (withNumber x n f s).1.vault = s.vault := by
  unfold withNumber; split
  · rfl
  · exact hf _ s

end Sys2Proof.Machine
end

