-- ==== Sys2Proof/Laws/Traps.lean ====
section
/-! SUPPORT. Laws/Traps.lean: the operations of lanes by name, slips and notices leave the trap table as it is. -/

namespace Sys2Proof.Machine

theorem State.traps_foldl {α : Type} (f : State → α → State) (h : ∀ s x, (f s x).traps = s.traps) (xs : List α) (s : State) :
    (xs.foldl f s).traps = s.traps := by
  induction xs generalizing s <;> simp_all

theorem State.sourceTone_traps (s : State) (src : Source) (t : Tone) : (State.sourceTone s src t).traps = s.traps := by
  unfold State.sourceTone; grind [State.tone_traps]

theorem State.writeBytes_traps (s : State) (a : Nat) (bs : List Byte) : (State.writeBytes s a bs).traps = s.traps := by
  rfl

theorem State.setCopy_traps (s : State) (f : HeaderField) (v : Nat) : (State.setCopy s f v).traps = s.traps := by
  rfl

theorem State.writeField_traps (s : State) (f : HeaderField) (v : Nat) (good : Bool) : (State.writeField s f v good).traps = s.traps := by
  rfl

theorem State.commitField_traps (s : State) (f : HeaderField) (v : Nat) : (State.commitField s f v).traps = s.traps := by
  unfold State.commitField; grind [State.setCopy_traps, State.writeField_traps]

theorem State.setSlip_traps (s : State) (i : Nat) (x : Slip) : (State.setSlip s i x).traps = s.traps := by
  rfl

theorem State.setQueue_traps (s : State) (q : List Nat) : (State.setQueue s q).traps = s.traps := by
  rfl

theorem State.setPrinter_traps (s : State) (p : PrinterState) : (State.setPrinter s p).traps = s.traps := by
  rfl

theorem State.setWarmTimer_traps (s : State) (t : Timer) : (State.setWarmTimer s t).traps = s.traps := by
  rfl

theorem State.setUnloadTimer_traps (s : State) (t : Timer) : (State.setUnloadTimer s t).traps = s.traps := by
  rfl

theorem State.startPrint_traps (n : Nat) (s : State) : (State.startPrint n s).traps = s.traps := by
  induction n generalizing s <;> grind [State.startPrint, State.setSlip_traps, State.setQueue_traps, State.setPrinter_traps]

theorem State.settleUnload_traps (s : State) : (State.settleUnload s).traps = s.traps := by
  unfold State.settleUnload; grind [State.setUnloadTimer_traps]

theorem State.settlePrinter_traps (s : State) : (State.settlePrinter s).traps = s.traps := by
  unfold State.settlePrinter; grind [State.setPrinter_traps, State.setWarmTimer_traps, State.startPrint_traps, State.settleUnload_traps]

theorem State.joinQueue_traps (s : State) (i : Nat) : (State.joinQueue s i).traps = s.traps := by
  unfold State.joinQueue; grind [State.setSlip_traps, State.setQueue_traps, State.settlePrinter_traps]

theorem State.giveUpSlip_traps (s : State) (i : Nat) : (State.giveUpSlip s i).traps = s.traps := by
  unfold State.giveUpSlip; grind [State.setSlip_traps, State.setQueue_traps, State.settlePrinter_traps]

theorem State.addLine_traps (s : State) (i : Nat) (line : SlipLine) : (State.addLine s i line).traps = s.traps := by
  unfold State.addLine; grind [State.setSlip_traps]

theorem State.setSessionSlip_traps (s : State) (l : LaneId) (i : Option Nat) : (State.setSessionSlip s l i).traps = s.traps := by
  unfold State.setSessionSlip; grind [State.mapLane_traps]

theorem State.openSlip_traps (s : State) (l : LaneId) (borrower : Nat) (line : SlipLine) : (State.openSlip s l borrower line).1.traps = s.traps := by
  unfold State.openSlip; grind [State.setSlip_traps, State.setSessionSlip_traps]

theorem State.openSlip_traps_of (s : State) (l : LaneId) (borrower : Nat) (line : SlipLine) (u) (ub) (h : State.openSlip s l borrower line = (u, ub)) : u.traps = s.traps := by
  have h' := State.openSlip_traps s l borrower line
  rw [h] at h'
  exact h'

theorem State.itemDueLine_traps (s : State) (l : LaneId) (item dueDay dueMinute : Nat) : (State.itemDueLine s l item dueDay dueMinute).1.traps = s.traps := by
  unfold State.itemDueLine; grind [State.joinQueue_traps, State.addLine_traps, State.setSessionSlip_traps, State.openSlip_traps, State.openSlip_traps_of]

theorem State.itemDueLine_traps_of (s : State) (l : LaneId) (item dueDay dueMinute : Nat) (u) (ub) (h : State.itemDueLine s l item dueDay dueMinute = (u, ub)) : u.traps = s.traps := by
  have h' := State.itemDueLine_traps s l item dueDay dueMinute
  rw [h] at h'
  exact h'

theorem State.completeSlip_traps (s : State) (l : LaneId) (count balance : Int) (warning : Bool) : (State.completeSlip s l count balance warning).traps = s.traps := by
  unfold State.completeSlip; grind [State.joinQueue_traps, State.addLine_traps, State.setSessionSlip_traps]

theorem State.fineSlip_traps (s : State) (l : LaneId) (borrower item dueDay cents : Nat) (count balance : Int) (warning : Bool) : (State.fineSlip s l borrower item dueDay cents count balance warning).1.traps = s.traps := by
  unfold State.fineSlip; grind [State.setSlip_traps, State.joinQueue_traps]

theorem State.fineSlip_traps_of (s : State) (l : LaneId) (borrower item dueDay cents : Nat) (count balance : Int) (warning : Bool) (u) (ub) (h : State.fineSlip s l borrower item dueDay cents count balance warning = (u, ub)) : u.traps = s.traps := by
  have h' := State.fineSlip_traps s l borrower item dueDay cents count balance warning
  rw [h] at h'
  exact h'

theorem State.holdSlip_traps (s : State) (l : LaneId) (title rank holdBorrower item : Nat) : (State.holdSlip s l title rank holdBorrower item).1.traps = s.traps := by
  unfold State.holdSlip; grind [State.setSlip_traps, State.joinQueue_traps]

theorem State.holdSlip_traps_of (s : State) (l : LaneId) (title rank holdBorrower item : Nat) (u) (ub) (h : State.holdSlip s l title rank holdBorrower item = (u, ub)) : u.traps = s.traps := by
  have h' := State.holdSlip_traps s l title rank holdBorrower item
  rw [h] at h'
  exact h'

theorem State.holdAsserted_traps (s : State) (hold : Nat × Nat) : (s.holdAsserted hold).traps = s.traps := by
  unfold State.holdAsserted; split
  · exact State.traps_foldl _ State.joinQueue_traps _ _
  · rfl

theorem State.holdLost_traps (s : State) (hold : Nat × Nat) : (s.holdLost hold).traps = s.traps :=
  State.traps_foldl _ State.giveUpSlip_traps _ _

theorem State.setPad_traps (s : State) (l : PadId) (c : Pad) : (s.setPad l c).traps = s.traps := by
  cases l <;> rfl

theorem State.padPulse_traps (s : State) (p : PadId) (form : Pulse) : (State.padPulse s p form).1.traps = s.traps := by
  unfold State.padPulse; grind [State.setPad_traps]

theorem State.padPulse_traps_of (s : State) (p : PadId) (form : Pulse) (u) (ub) (h : State.padPulse s p form = (u, ub)) : u.traps = s.traps := by
  have h' := State.padPulse_traps s p form
  rw [h] at h'
  exact h'

theorem State.setQueueOf_traps (s : State) (c : TxClass) (q : List Notice) : (s.setQueueOf c q).traps = s.traps := by
  cases c <;> rfl

theorem State.hand_traps (s : State) (n : Notice) : (State.hand s n).1.traps = s.traps := by
  unfold State.hand; grind [State.setQueueOf_traps]

theorem State.hand_traps_of (s : State) (n : Notice) (u) (ub) (h : State.hand s n = (u, ub)) : u.traps = s.traps := by
  have h' := State.hand_traps s n
  rw [h] at h'
  exact h'

theorem State.takeStamp_traps (s : State) : (State.takeStamp s).traps = s.traps := by
  rfl

theorem State.handStamped_traps (s : State) (body : Body) : (State.handStamped s body).1.traps = s.traps := by
  unfold State.handStamped; grind [State.setQueueOf_traps, State.takeStamp_traps]

theorem State.handStamped_traps_of (s : State) (body : Body) (u) (ub) (h : State.handStamped s body = (u, ub)) : u.traps = s.traps := by
  have h' := State.handStamped_traps s body
  rw [h] at h'
  exact h'

theorem State.markWithdrawn_traps (s : State) (p : Notice → Bool) : (State.markWithdrawn s p).traps = s.traps := by
  first | rfl | (unfold State.markWithdrawn; grind)

theorem State.setEngine_traps (s : State) (e : Engine) : (State.setEngine s e).traps = s.traps := by
  rfl

theorem State.walk_traps (n : Nat) (s : State) : (State.walk n s).traps = s.traps := by
  induction n generalizing s <;> grind [State.walk, State.hand_traps, State.setEngine_traps]

theorem State.runWalk_traps (s : State) : (State.runWalk s).traps = s.traps := by
  unfold State.runWalk; grind [State.walk_traps]

theorem State.engineRequest_traps (s : State) (f : Nat) : (State.engineRequest s f).traps = s.traps := by
  unfold State.engineRequest; grind [State.setEngine_traps, State.runWalk_traps]

theorem State.releaseEngine_traps (s : State) : (State.releaseEngine s).traps = s.traps := by
  unfold State.releaseEngine; grind [State.setEngine_traps, State.runWalk_traps]

theorem State.leftB_traps (s : State) : (State.leftB s).traps = s.traps := by
  unfold State.leftB; grind [State.setEngine_traps, State.runWalk_traps]

theorem State.testOwed_traps (s : State) : (State.testOwed s).traps = s.traps := by
  unfold State.testOwed; grind [State.engineRequest_traps]

theorem State.setOwed_traps (s : State) : (State.setOwed s).traps = s.traps := by
  unfold State.setOwed; grind [State.testOwed_traps]

theorem State.handChange_traps (s : State) (n : Notice) : (State.handChange s n).traps = s.traps := by
  unfold State.handChange; grind [State.hand_traps, State.hand_traps_of, State.setOwed_traps]

theorem State.handPresence_traps (s : State) : (State.handPresence s).traps = s.traps := by
  unfold State.handPresence; grind [State.hand_traps, State.hand_traps_of]

theorem State.setPeer_traps (s : State) (n : Nat) (p : Peer) : (State.setPeer s n p).traps = s.traps := by
  rfl

theorem State.pushRequest_traps (s : State) (n : Nat) : (State.pushRequest s n).traps = s.traps := by
  unfold State.pushRequest; grind [State.setQueueOf_traps, State.hand_traps, State.hand_traps_of, State.setPeer_traps]

theorem State.requestRestate_traps (s : State) (n f : Nat) : (State.requestRestate s n f).traps = s.traps := by
  unfold State.requestRestate; grind [State.setPeer_traps, State.pushRequest_traps]

theorem State.pushBroadcast_traps (s : State) : (State.pushBroadcast s).traps = s.traps := by
  unfold State.pushBroadcast; grind [State.hand_traps, State.hand_traps_of]

theorem State.leftS_traps (s : State) : s.leftS.traps = s.traps := by
  unfold State.leftS; simp only []; rw [State.traps_foldl _ State.pushRequest_traps]; grind [State.testOwed_traps, State.pushBroadcast_traps]

theorem State.left_traps (s : State) (x0 : TxClass) : (State.left s x0).traps = s.traps := by
  unfold State.left; grind [State.leftB_traps, State.leftS_traps]

theorem State.withdraw_traps (s : State) (c : TxClass) (p : Notice → Bool) : (State.withdraw s c p).traps = s.traps := by
  unfold State.withdraw; grind [State.setQueueOf_traps, State.markWithdrawn_traps, State.left_traps]

theorem State.purgeLine_traps (s : State) : (State.purgeLine s).traps = s.traps := by
  unfold State.purgeLine; grind [State.setQueueOf_traps, State.markWithdrawn_traps]

end Sys2Proof.Machine
end

