-- ==== Sys2Proof/Laws/Capacity.lean ====
section
/-! SUPPORT. Laws/Capacity.lean: every operation up to the lanes keeps tables, queues and buffers within their capacities
(`State.within`). -/

namespace Sys2Proof.Machine

theorem State.within_laneA (s : State) (x) (h : s.within) : State.within { s with laneA := x } := ⟨h.1, h.2, h.3, h.4, h.5, h.6, h.7, h.8⟩

theorem State.within_laneB (s : State) (x) (h : s.within) : State.within { s with laneB := x } := ⟨h.1, h.2, h.3, h.4, h.5, h.6, h.7, h.8⟩

theorem State.within_decoding (s : State) (x) (h : s.within) : State.within { s with decoding := x } := ⟨h.1, h.2, h.3, h.4, h.5, h.6, h.7, h.8⟩

theorem State.within_overlay (s : State) (x) (hx : x.used ≤ Config.overlayCapacity) (h : s.within) : State.within { s with overlay := x } := ⟨h.1, h.2, h.3, h.4, h.5, h.6, h.7, hx⟩

theorem State.within_port (s : State) (x) (h : s.within) : State.within { s with port := x } := ⟨h.1, h.2, h.3, h.4, h.5, h.6, h.7, h.8⟩

theorem State.within_minimumTimer (s : State) (x) (h : s.within) : State.within { s with minimumTimer := x } := ⟨h.1, h.2, h.3, h.4, h.5, h.6, h.7, h.8⟩

theorem State.within_quietTimer (s : State) (x) (h : s.within) : State.within { s with quietTimer := x } := ⟨h.1, h.2, h.3, h.4, h.5, h.6, h.7, h.8⟩

theorem State.within_races (s : State) (x) (h : s.within) : State.within { s with races := x } := ⟨h.1, h.2, h.3, h.4, h.5, h.6, h.7, h.8⟩

theorem State.within_station (s : State) (x) (h : s.within) : State.within { s with station := x } := ⟨h.1, h.2, h.3, h.4, h.5, h.6, h.7, h.8⟩

theorem State.within_memory (s : State) (x) (h : s.within) : State.within { s with memory := x } := ⟨h.1, h.2, h.3, h.4, h.5, h.6, h.7, h.8⟩

theorem State.within_clock (s : State) (x) (h : s.within) : State.within { s with clock := x } := ⟨h.1, h.2, h.3, h.4, h.5, h.6, h.7, h.8⟩

theorem State.within_reckoner (s : State) (x) (h : s.within) : State.within { s with reckoner := x } := ⟨h.1, h.2, h.3, h.4, h.5, h.6, h.7, h.8⟩

theorem State.within_settings (s : State) (x) (h : s.within) : State.within { s with settings := x } := ⟨h.1, h.2, h.3, h.4, h.5, h.6, h.7, h.8⟩

theorem State.within_attached (s : State) (x) (h : s.within) : State.within { s with attached := x } := ⟨h.1, h.2, h.3, h.4, h.5, h.6, h.7, h.8⟩

theorem State.within_store (s : State) (x) (h : s.within) : State.within { s with store := x } := ⟨h.1, h.2, h.3, h.4, h.5, h.6, h.7, h.8⟩

theorem State.within_pending (s : State) (x) (h : s.within) : State.within { s with pending := x } := ⟨h.1, h.2, h.3, h.4, h.5, h.6, h.7, h.8⟩

theorem State.within_line (s : State) (x) (hx : x.within) (h : s.within) : State.within { s with line := x } := ⟨hx, h.2, h.3, h.4, h.5, h.6, h.7, h.8⟩

theorem State.within_standing (s : State) (x) (hx : x.within) (h : s.within) : State.within { s with standing := x } := ⟨h.1, hx, h.3, h.4, h.5, h.6, h.7, h.8⟩

theorem State.within_traps (s : State) (x) (hx : x.length ≤ Config.trapCapacity) (h : s.within) : State.within { s with traps := x } := ⟨h.1, h.2, hx, h.4, h.5, h.6, h.7, h.8⟩

theorem State.within_slips (s : State) (x) (hx : x.within) (h : s.within) : State.within { s with slips := x } := ⟨h.1, h.2, h.3, hx, h.5, h.6, h.7, h.8⟩

theorem State.within_upload (s : State) (x) (hx : x.within) (h : s.within) : State.within { s with upload := x } := ⟨h.1, h.2, h.3, h.4, hx, h.6, h.7, h.8⟩

theorem State.within_wand0 (s : State) (x) (hx : x.buffer.length ≤ Config.elementCapacity) (h : s.within) : State.within { s with wand0 := x } := ⟨h.1, h.2, h.3, h.4, h.5, hx, h.7, h.8⟩

theorem State.within_wand1 (s : State) (x) (hx : x.buffer.length ≤ Config.elementCapacity) (h : s.within) : State.within { s with wand1 := x } := ⟨h.1, h.2, h.3, h.4, h.5, h.6, hx, h.8⟩

theorem State.within_foldl {α : Type} (f : State → α → State) (h : ∀ s x, s.within → (f s x).within) (xs : List α) (s : State) (hs : s.within) :
    (xs.foldl f s).within := by
  induction xs generalizing s with
  | nil => exact hs
  | cons x xs ih => exact ih _ (h _ _ hs)

theorem State.setLane_within (s : State) (l : LaneId) (c : LaneCtl) (hw : s.within) : (s.setLane l c).within := by
  cases l <;> exact ⟨hw.1, hw.2, hw.3, hw.4, hw.5, hw.6, hw.7, hw.8⟩

theorem State.mapLane_within (s : State) (l : LaneId) (f : LaneCtl → LaneCtl) (hw : s.within) : (State.mapLane s l f).within := by
  unfold State.mapLane; grind [State.setLane_within]

theorem State.mapTxn_within (s : State) (l : LaneId) (f : Txn → Txn) (hw : s.within) : (State.mapTxn s l f).within := by
  unfold State.mapTxn; grind [State.mapLane_within]

theorem State.setWand_within (s : State) (w : Wand) (c : FrontEnd) (h : c.buffer.length ≤ Config.elementCapacity) (hw : s.within) : (s.setWand w c).within := by
  cases w
  · exact State.within_wand0 s c h hw
  · exact State.within_wand1 s c h hw

theorem State.latch_within (s : State) (k : Nat) (hw : s.within) : (State.latch s k).within := by
  unfold State.latch; grind [State.within_port, State.within_pending]

theorem State.clearCause_within (s : State) (k : Nat) (hw : s.within) : (State.clearCause s k).within := by
  unfold State.clearCause; grind [State.within_port, State.within_pending]

theorem State.tone_within (s : State) (w : Wand) (t : Tone) (hw : s.within) : (s.tone w t).within := by
  cases w <;> exact ⟨hw.1, hw.2, hw.3, hw.4, hw.5, hw.6, hw.7, hw.8⟩

theorem State.sourceTone_within (s : State) (src : Source) (t : Tone) (hw : s.within) : (State.sourceTone s src t).within := by
  unfold State.sourceTone; grind [State.tone_within]

theorem State.writeBytes_within (s : State) (a : Nat) (bs : List Byte) (hw : s.within) : (State.writeBytes s a bs).within := by
  unfold State.writeBytes; grind [State.within_attached]

theorem State.setCopy_within (s : State) (f : HeaderField) (v : Nat) (hw : s.within) : (State.setCopy s f v).within := by
  unfold State.setCopy; grind [State.within_memory]

theorem State.writeField_within (s : State) (f : HeaderField) (v : Nat) (good : Bool) (hw : s.within) : (State.writeField s f v good).within := by
  unfold State.writeField; grind [State.within_attached]

theorem State.commitField_within (s : State) (f : HeaderField) (v : Nat) (hw : s.within) : (State.commitField s f v).within := by
  unfold State.commitField; grind [State.setCopy_within, State.writeField_within]

theorem State.setSlip_within (s : State) (i : Nat) (x : Slip) (hw : s.within) : (s.setSlip i x).within := by
  exact State.within_slips s _ ⟨by simpa using hw.slips.slips, hw.slips.2, hw.slips.3⟩ hw

theorem State.setQueue_within (s : State) (q : List Nat) (hw : s.within) : (s.setQueue q).within := by
  exact State.within_slips s _ ⟨hw.slips.1, hw.slips.2, hw.slips.3⟩ hw

theorem State.setPrinter_within (s : State) (q : PrinterState) (hw : s.within) : (s.setPrinter q).within := by
  exact State.within_slips s _ ⟨hw.slips.1, hw.slips.2, hw.slips.3⟩ hw

theorem State.setWarmTimer_within (s : State) (q : Timer) (hw : s.within) : (s.setWarmTimer q).within := by
  exact State.within_slips s _ ⟨hw.slips.1, hw.slips.2, hw.slips.3⟩ hw

theorem State.setUnloadTimer_within (s : State) (q : Timer) (hw : s.within) : (s.setUnloadTimer q).within := by
  exact State.within_slips s _ ⟨hw.slips.1, hw.slips.2, hw.slips.3⟩ hw

theorem State.startPrint_within (n : Nat) (s : State) (hw : s.within) : (State.startPrint n s).within := by
  induction n generalizing s <;> grind [State.startPrint, State.setSlip_within, State.setQueue_within, State.setPrinter_within]

theorem State.settleUnload_within (s : State) (hw : s.within) : (State.settleUnload s).within := by
  unfold State.settleUnload; grind [State.setUnloadTimer_within]

theorem State.settlePrinter_within (s : State) (hw : s.within) : (State.settlePrinter s).within := by
  unfold State.settlePrinter; grind [State.setPrinter_within, State.setWarmTimer_within, State.startPrint_within, State.settleUnload_within]

theorem State.joinQueue_within (s : State) (i : Nat) (hw : s.within) : (State.joinQueue s i).within := by
  unfold State.joinQueue; grind [State.setSlip_within, State.setQueue_within, State.settlePrinter_within]

theorem State.giveUpSlip_within (s : State) (i : Nat) (hw : s.within) : (State.giveUpSlip s i).within := by
  unfold State.giveUpSlip; grind [State.setSlip_within, State.setQueue_within, State.settlePrinter_within]

theorem State.addLine_within (s : State) (i : Nat) (line : SlipLine) (hw : s.within) : (State.addLine s i line).within := by
  unfold State.addLine; grind [State.setSlip_within]

theorem State.setSessionSlip_within (s : State) (l : LaneId) (i : Option Nat) (hw : s.within) : (State.setSessionSlip s l i).within := by
  unfold State.setSessionSlip; grind [State.mapLane_within]

theorem State.openSlip_within (s : State) (l : LaneId) (borrower : Nat) (line : SlipLine) (hw : s.within) : (State.openSlip s l borrower line).1.within := by
  unfold State.openSlip; grind [State.setSlip_within, State.setSessionSlip_within]

theorem State.openSlip_within_of (s : State) (l : LaneId) (borrower : Nat) (line : SlipLine) (u) (ub) (hw : s.within) (h : State.openSlip s l borrower line = (u, ub)) : u.within := by
  have h' := State.openSlip_within s l borrower line hw
  rw [h] at h'
  exact h'

theorem State.itemDueLine_within (s : State) (l : LaneId) (item dueDay dueMinute : Nat) (hw : s.within) : (State.itemDueLine s l item dueDay dueMinute).1.within := by
  unfold State.itemDueLine; grind [State.joinQueue_within, State.addLine_within, State.setSessionSlip_within, State.openSlip_within, State.openSlip_within_of]

theorem State.itemDueLine_within_of (s : State) (l : LaneId) (item dueDay dueMinute : Nat) (u) (ub) (hw : s.within) (h : State.itemDueLine s l item dueDay dueMinute = (u, ub)) : u.within := by
  have h' := State.itemDueLine_within s l item dueDay dueMinute hw
  rw [h] at h'
  exact h'

theorem State.completeSlip_within (s : State) (l : LaneId) (count balance : Int) (warning : Bool) (hw : s.within) : (State.completeSlip s l count balance warning).within := by
  unfold State.completeSlip; grind [State.joinQueue_within, State.addLine_within, State.setSessionSlip_within]

theorem State.fineSlip_within (s : State) (l : LaneId) (borrower item dueDay cents : Nat) (count balance : Int) (warning : Bool) (hw : s.within) : (State.fineSlip s l borrower item dueDay cents count balance warning).1.within := by
  unfold State.fineSlip; grind [State.setSlip_within, State.joinQueue_within]

theorem State.fineSlip_within_of (s : State) (l : LaneId) (borrower item dueDay cents : Nat) (count balance : Int) (warning : Bool) (u) (ub) (hw : s.within) (h : State.fineSlip s l borrower item dueDay cents count balance warning = (u, ub)) : u.within := by
  have h' := State.fineSlip_within s l borrower item dueDay cents count balance warning hw
  rw [h] at h'
  exact h'

theorem State.holdSlip_within (s : State) (l : LaneId) (title rank holdBorrower item : Nat) (hw : s.within) : (State.holdSlip s l title rank holdBorrower item).1.within := by
  unfold State.holdSlip; grind [State.setSlip_within, State.joinQueue_within]

theorem State.holdSlip_within_of (s : State) (l : LaneId) (title rank holdBorrower item : Nat) (u) (ub) (hw : s.within) (h : State.holdSlip s l title rank holdBorrower item = (u, ub)) : u.within := by
  have h' := State.holdSlip_within s l title rank holdBorrower item hw
  rw [h] at h'
  exact h'

theorem State.holdAsserted_within (s : State) (hold : Nat × Nat) (hw : s.within) : (s.holdAsserted hold).within := by
  unfold State.holdAsserted; split
  · exact State.within_foldl _ State.joinQueue_within _ _ hw
  · exact hw

theorem State.holdLost_within (s : State) (hold : Nat × Nat) (hw : s.within) : (s.holdLost hold).within := by
  exact State.within_foldl _ State.giveUpSlip_within _ _ hw

theorem State.setPad_within (s : State) (p : PadId) (x : Pad) (h : x.waiting.length ≤ Config.padWaiting) (hw : s.within) : (s.setPad p x).within := by
  cases p
  · exact State.within_slips s _ ⟨hw.slips.1, h, hw.slips.3⟩ hw
  · exact State.within_slips s _ ⟨hw.slips.1, hw.slips.2, h⟩ hw

theorem State.pad_within (s : State) (p : PadId) (hw : s.within) : (s.pad p).waiting.length ≤ Config.padWaiting := by
  cases p
  · exact hw.slips.2
  · exact hw.slips.3

theorem State.padPulse_within (s : State) (p : PadId) (form : Pulse) (hw : s.within) : (s.padPulse p form).1.within := by
  unfold State.padPulse
  have := State.pad_within s p hw
  grind [State.setPad_within]

theorem State.padPulse_within_of (s : State) (p : PadId) (form : Pulse) (u) (ub) (hw : s.within) (h : s.padPulse p form = (u, ub)) : u.within := by
  have h' := State.padPulse_within s p form hw
  rw [h] at h'
  exact h'

theorem State.setQueueOf_within (s : State) (c : TxClass) (q : List Notice) (h : q.length ≤ depthOf c) (hw : s.within) : (s.setQueueOf c q).within := by
  cases c
  · exact State.within_line s _ ⟨h, hw.line.2, hw.line.3, hw.line.4, hw.line.5, hw.line.6, hw.line.7⟩ hw
  · exact State.within_line s _ ⟨hw.line.1, h, hw.line.3, hw.line.4, hw.line.5, hw.line.6, hw.line.7⟩ hw
  · exact State.within_line s _ ⟨hw.line.1, hw.line.2, h, hw.line.4, hw.line.5, hw.line.6, hw.line.7⟩ hw

theorem State.queueOf_within (s : State) (c : TxClass) (hw : s.within) : (s.queueOf c).length ≤ depthOf c := by
  cases c
  · exact hw.line.1
  · exact hw.line.2
  · exact hw.line.3

theorem State.hand_within (s : State) (n : Notice) (hw : s.within) : (s.hand n).1.within := by
  unfold State.hand State.room; dsimp only; split
  · rename_i h; apply State.setQueueOf_within _ _ _ _ hw; simp at h ⊢; omega
  · exact hw

theorem State.hand_within_of (s : State) (n : Notice) (u) (ub) (hw : s.within) (h : s.hand n = (u, ub)) : u.within := by
  have h' := State.hand_within s n hw
  rw [h] at h'
  exact h'

theorem State.takeStamp_within (s : State)  (hw : s.within) : (s.takeStamp).within := by
  exact State.within_line s _ ⟨hw.line.1, hw.line.2, hw.line.3, hw.line.4, hw.line.5, hw.line.6, hw.line.7⟩ hw

theorem State.handStamped_within (s : State) (body : Body) (hw : s.within) : (s.handStamped body).1.within := by
  unfold State.handStamped State.room; dsimp only; split
  · rename_i h; apply State.setQueueOf_within _ _ _ _ (State.takeStamp_within s hw)
    have : (s.takeStamp).queueOf (kindClass body) = s.queueOf (kindClass body) := by cases kindClass body <;> rfl
    simp [this] at h ⊢; omega
  · exact hw

theorem State.handStamped_within_of (s : State) (body : Body) (u) (ub) (hw : s.within) (h : s.handStamped body = (u, ub)) : u.within := by
  have h' := State.handStamped_within s body hw
  rw [h] at h'
  exact h'

theorem State.markWithdrawn_within (s : State) (p : Notice → Bool) (hw : s.within) : (s.markWithdrawn p).within := by
  unfold State.markWithdrawn; split
  · split
    · exact State.within_line s _ ⟨hw.line.1, hw.line.2, hw.line.3, hw.line.4, hw.line.5, hw.line.6, hw.line.7⟩ hw
    · exact hw
  · exact hw

theorem State.setEngine_within (s : State) (e : Engine) (hw : s.within) : (s.setEngine e).within := by
  exact State.within_line s _ ⟨hw.line.1, hw.line.2, hw.line.3, hw.line.4, hw.line.5, hw.line.6, hw.line.7⟩ hw

theorem State.walk_within (n : Nat) (s : State) (hw : s.within) : (State.walk n s).within := by
  induction n generalizing s <;> grind [State.walk, State.hand_within, State.setEngine_within]

theorem State.runWalk_within (s : State) (hw : s.within) : (State.runWalk s).within := by
  unfold State.runWalk; grind [State.walk_within]

theorem State.engineRequest_within (s : State) (f : Nat) (hw : s.within) : (State.engineRequest s f).within := by
  unfold State.engineRequest; grind [State.setEngine_within, State.runWalk_within]

theorem State.releaseEngine_within (s : State) (hw : s.within) : (State.releaseEngine s).within := by
  unfold State.releaseEngine; grind [State.setEngine_within, State.runWalk_within]

theorem State.leftB_within (s : State) (hw : s.within) : (State.leftB s).within := by
  unfold State.leftB; grind [State.setEngine_within, State.runWalk_within]

theorem State.testOwed_within (s : State)  (hw : s.within) : (s.testOwed).within := by
  unfold State.testOwed; split
  · exact hw
  · split
    · exact State.engineRequest_within _ _ (State.within_line s _ ⟨hw.line.1, hw.line.2, hw.line.3, hw.line.4, hw.line.5, hw.line.6, hw.line.7⟩ hw)
    · exact hw

theorem State.setOwed_within (s : State)  (hw : s.within) : (s.setOwed).within := by
  exact State.testOwed_within _ (State.within_line s _ ⟨hw.line.1, hw.line.2, hw.line.3, hw.line.4, hw.line.5, hw.line.6, hw.line.7⟩ hw)

theorem State.handChange_within (s : State) (n : Notice) (hw : s.within) : (State.handChange s n).within := by
  unfold State.handChange; grind [State.hand_within, State.hand_within_of, State.setOwed_within]

theorem State.handPresence_within (s : State) (hw : s.within) : (State.handPresence s).within := by
  unfold State.handPresence; grind [State.hand_within, State.hand_within_of]

theorem State.setPeer_within (s : State) (n : Nat) (p : Peer) (hw : s.within) : (s.setPeer n p).within := by
  exact State.within_line s _ ⟨hw.line.1, hw.line.2, hw.line.3, by simpa using hw.line.4, hw.line.5, hw.line.6, hw.line.7⟩ hw

theorem State.pushRequest_within (s : State) (n : Nat) (hw : s.within) : (s.pushRequest n).within := by
  unfold State.pushRequest; split
  · exact hw
  · dsimp only; split
    · apply State.setPeer_within
      apply State.setQueueOf_within _ _ _ _ hw
      have h := State.queueOf_within s .s hw
      unfold State.linePart State.waitingPart
      split <;> simp <;> omega
    · split
      · rename_i h; exact State.setPeer_within _ _ _ (State.hand_within_of _ _ _ _ hw h)
      · rename_i h; exact State.hand_within_of _ _ _ _ hw h

theorem State.requestRestate_within (s : State) (n f : Nat) (hw : s.within) : (State.requestRestate s n f).within := by
  unfold State.requestRestate; grind [State.setPeer_within, State.pushRequest_within]

theorem State.pushBroadcast_within (s : State)  (hw : s.within) : (s.pushBroadcast).within := by
  unfold State.pushBroadcast; split
  · rename_i h; have h := State.hand_within_of _ _ _ _ hw h; exact State.within_line _ _ ⟨h.line.1, h.line.2, h.line.3, h.line.4, h.line.5, h.line.6, h.line.7⟩ h
  · rename_i h; have h := State.hand_within_of _ _ _ _ hw h; exact State.within_line _ _ ⟨h.line.1, h.line.2, h.line.3, h.line.4, h.line.5, h.line.6, h.line.7⟩ h

theorem State.leftS_within (s : State)  (hw : s.within) : (s.leftS).within := by
  unfold State.leftS; simp only []
  apply State.within_foldl _ State.pushRequest_within
  split
  · exact State.pushBroadcast_within _ (State.testOwed_within _ hw)
  · exact State.testOwed_within _ hw

theorem State.left_within (s : State) (x0 : TxClass) (hw : s.within) : (State.left s x0).within := by
  unfold State.left; grind [State.leftB_within, State.leftS_within]

theorem State.purged_length (s : State) (c : TxClass) (p : Notice → Bool) : (s.purged c p).length ≤ (s.queueOf c).length := by
  unfold State.purged; split
  · split
    · simp_all
    · rename_i h; rw [h]; simp; exact List.length_filter_le _ _
  · exact List.length_filter_le _ _

theorem State.withdraw_within (s : State) (c : TxClass) (p : Notice → Bool) (hw : s.within) : (s.withdraw c p).within := by
  have h := State.queueOf_within s c hw
  have h2 := State.purged_length s c p
  have h3 := State.markWithdrawn_within _ p (State.setQueueOf_within s c (s.purged c p) (by omega) hw)
  unfold State.withdraw; dsimp only; split
  · exact State.left_within _ _ h3
  · exact h3

theorem State.purgeLine_within (s : State)  (hw : s.within) : (s.purgeLine).within := by
  have q := fun c => State.queueOf_within s c hw
  have p := fun c => State.purged_length s c editionFrame
  have h : (s.purgeLine.line).within := by
    have h0 := State.markWithdrawn_within _ editionFrame (State.setQueueOf_within _ .b (s.purged .b editionFrame) (by have := q .b; have := p .b; omega)
      (State.setQueueOf_within _ .s (s.purged .s editionFrame) (by have := q .s; have := p .s; omega)
      (State.setQueueOf_within s .u (s.purged .u editionFrame) (by have := q .u; have := p .u; omega) hw)))
    exact ⟨h0.line.1, h0.line.2, h0.line.3, by simpa [State.purgeLine] using h0.line.4, h0.line.5, h0.line.6, h0.line.7⟩
  have h0 := State.markWithdrawn_within _ editionFrame (State.setQueueOf_within _ .b (s.purged .b editionFrame) (by have := q .b; have := p .b; omega)
      (State.setQueueOf_within _ .s (s.purged .s editionFrame) (by have := q .s; have := p .s; omega)
      (State.setQueueOf_within s .u (s.purged .u editionFrame) (by have := q .u; have := p .u; omega) hw)))
  exact ⟨h, h0.2, h0.3, h0.4, h0.5, h0.6, h0.7, h0.8⟩

theorem State.setMemory_within (s : State)  (m : MemCtl) (hw : s.within) : (s.setMemory m).within := by
  exact ⟨hw.1, hw.2, hw.3, hw.4, hw.5, hw.6, hw.7, hw.8⟩

theorem State.grant_within (s : State)  (hw : s.within) : (s.grant).within := by
  unfold State.grant; dsimp only; repeat' split
  all_goals exact ⟨hw.1, hw.2, hw.3, hw.4, hw.5, hw.6, hw.7, hw.8⟩

theorem State.ask_within (s : State) (op : MemOp) (hw : s.within) : (State.ask s op).within := by
  unfold State.ask; grind [State.setMemory_within, State.grant_within]

theorem State.freePort_within (s : State)  (hw : s.within) : (s.freePort).within := by
  exact ⟨hw.1, hw.2, hw.3, hw.4, hw.5, hw.6, hw.7, hw.8⟩

theorem State.dropAsked_within (s : State)  (m : MemOp → Bool) (hw : s.within) : (s.dropAsked m).within := by
  exact ⟨hw.1, hw.2, hw.3, hw.4, hw.5, hw.6, hw.7, hw.8⟩

theorem State.detachAsked_within (s : State)  (m : MemOp → Bool) (hw : s.within) : (s.detachAsked m).within := by
  exact ⟨hw.1, hw.2, hw.3, hw.4, hw.5, hw.6, hw.7, hw.8⟩

theorem State.setStanding_within (s : State) (x : Standing) (h : x.within) (hw : s.within) : (s.setStanding x).within := by
  exact State.within_standing s x h hw

theorem State.setIncomplete_within (s : State)  (hw : s.within) : (s.setIncomplete).within := by
  exact State.within_standing s _ ⟨hw.standing.1, hw.standing.2⟩ hw

theorem State.mapEntry_within (s : State) (b : Nat) (f : Entry → Entry) (hw : s.within) : (s.mapEntry b f).within := by
  exact State.within_standing s _ ⟨by simpa using hw.standing.1, hw.standing.2⟩ hw

theorem State.useEntry_within (s : State) (b : Nat) (f : Entry → Entry) (hw : s.within) : (s.useEntry b f).within := by
  unfold State.useEntry; split
  · exact hw
  exact State.mapEntry_within _ _ _ (State.within_standing s _ ⟨hw.standing.1, hw.standing.2⟩ hw)

theorem State.reserve_within (s : State) (l : LaneId) (b : Nat) (v : Bool) (hw : s.within) : (State.reserve s l b v).within := by
  unfold State.reserve; grind [State.useEntry_within]

theorem State.takeInHand_within (s : State) (l : LaneId) (b : Nat) (hw : s.within) : (State.takeInHand s l b).within := by
  unfold State.takeInHand; grind [State.useEntry_within]

theorem State.outOfHand_within (s : State) (l : LaneId) (b : Nat) (hw : s.within) : (State.outOfHand s l b).within := by
  unfold State.outOfHand; grind [State.useEntry_within]

theorem State.ownChange_within (s : State) (b : Nat) (loans balance : Int) (stamp : Nat) (hw : s.within) : (State.ownChange s b loans balance stamp).within := by
  unfold State.ownChange; grind [State.useEntry_within]

theorem State.blockAction_within (s : State) (live : Bool) (b station : Nat) (reason : BlockReason) (a : StampedAction) (hw : s.within) : (State.blockAction s live b station reason a).within := by
  unfold State.blockAction; grind [State.useEntry_within]

theorem State.optBlockAction_within (s : State) (live : Bool) (b station : Nat) (reason : BlockReason) (x0 : Option StampedAction) (hw : s.within) : (State.optBlockAction s live b station reason x0).within := by
  unfold State.optBlockAction; grind [State.blockAction_within]

theorem State.applyOffer_within (s : State) (p : Parked) (hw : s.within) : (State.applyOffer s p).within := by
  unfold State.applyOffer; grind [State.useEntry_within, State.optBlockAction_within]

theorem State.placeAwaiting_within (s : State) (b : Nat) (reason : BlockReason) (a : BlockAction) (stamp : Nat) (hw : s.within) : (State.placeAwaiting s b reason a stamp).within := by
  unfold State.placeAwaiting; grind [State.useEntry_within]

theorem State.dropAwaiting_within (s : State) (b : Nat) (reason : BlockReason) (stamp : Nat) (hw : s.within) : (State.dropAwaiting s b reason stamp).within := by
  unfold State.dropAwaiting; grind [State.useEntry_within]

theorem State.ownBlock_within (s : State) (b : Nat) (reason : BlockReason) (a : BlockAction) (stamp : Nat) (hw : s.within) : (State.ownBlock s b reason a stamp).within := by
  unfold State.ownBlock; grind [State.useEntry_within, State.ownChange_within]

theorem leastBy_mem {α : Type} (f : α → Nat) (xs : List α) (a : α) (h : leastBy f xs = some a) : a ∈ xs := by
  induction xs generalizing a with
  | nil => simp [leastBy] at h
  | cons x xs ih =>
    simp only [leastBy] at h
    split at h
    · simp_all
    · rename_i b hb; have := ih b hb; split at h <;> simp_all

theorem State.roomForEntry_room (s t : State) (hw : s.within) (h : s.roomForEntry = some t) :
    t.within ∧ t.standing.entries.length < Config.standingCapacity := by
  unfold State.roomForEntry at h
  split at h
  · cases h; exact ⟨hw, by assumption⟩
  · obtain ⟨v, hv, rfl⟩ := Option.map_eq_some_iff.mp h
    have hm := leastBy_mem _ _ _ hv
    have hm := (List.mem_filter.1 hm).1
    have hlt : (s.standing.entries.filter (·.borrower != v.borrower)).length < s.standing.entries.length := by
      rw [List.length_filter_lt_length_iff_exists]; exact ⟨v, hm, by simp⟩
    have := hw.standing.1
    refine ⟨State.within_standing s _ ⟨?_, hw.standing.2⟩ hw, ?_⟩
    · exact le_trans hlt.le this
    · exact lt_of_lt_of_le hlt this

theorem State.createEntry_within (s : State) (b : Nat) (roll : RollFields) (hw : s.within) : (s.createEntry b roll).1.within := by
  unfold State.createEntry
  split
  · exact hw
  · split
    · exact hw
    · rename_i u h
      obtain ⟨hu, hl⟩ := State.roomForEntry_room _ _ hw h
      refine State.within_foldl _ State.applyOffer_within _ _ (State.within_standing u _ ⟨?_, ?_⟩ hu)
      · simp only [List.length_append, List.length_singleton]; omega
      · exact le_trans (List.length_filter_le _ _) hu.standing.2

theorem State.createEntry_within_of (s : State) (b : Nat) (roll : RollFields) (u) (ub) (hw : s.within) (h : s.createEntry b roll = (u, ub)) : u.within := by
  have h' := State.createEntry_within s b roll hw
  rw [h] at h'
  exact h'

theorem State.nextParked_within (s : State)  (hw : s.within) : (s.nextParked).within := by
  unfold State.nextParked; split
  · split
    · exact hw
    · exact State.ask_within _ _ (State.within_standing s _ ⟨hw.standing.1, hw.standing.2⟩ hw)
  · exact hw

theorem State.dropParked_within (s : State) (b : Nat) (hw : s.within) : (s.dropParked b).within := by
  unfold State.dropParked; split
  · exact State.setIncomplete_within _ (State.within_standing s _ ⟨hw.standing.1, le_trans (List.length_filter_le _ _) hw.standing.2⟩ hw)
  · exact hw

theorem State.tallyOffer_within (s : State) (p : Parked) (hw : s.within) : (s.tallyOffer p).within := by
  unfold State.tallyOffer; repeat' split
  · exact hw
  · exact State.applyOffer_within _ _ hw
  · exact State.setIncomplete_within _ hw
  · exact State.nextParked_within _ (State.within_standing s _ ⟨hw.standing.1, by simp; omega⟩ hw)
  · exact State.setIncomplete_within _ hw

theorem State.parkedLookupDone_within (s : State) (b : Nat) (answer : Lookup RollFields) (hw : s.within) : (s.parkedLookupDone b answer).within := by
  have h0 : (s.setStanding { s.standing with lookup := none }).within := State.within_standing s _ ⟨hw.standing.1, hw.standing.2⟩ hw
  unfold State.parkedLookupDone; dsimp only
  generalize s.setStanding { s.standing with lookup := none } = u at h0
  grind [State.nextParked_within, State.dropParked_within, State.createEntry_within_of]

theorem State.abandonParked_within (s : State)  (hw : s.within) : (s.abandonParked).within := by
  have h0 : (s.setStanding { s.standing with lookup := none }).within := State.within_standing s _ ⟨hw.standing.1, hw.standing.2⟩ hw
  unfold State.abandonParked; dsimp only
  generalize s.setStanding { s.standing with lookup := none } = u at h0
  split
  · exact h0
  · exact State.setIncomplete_within _ (State.within_standing u _ ⟨h0.standing.1, by simp⟩ h0)

theorem State.replayStandingRecord_within (s : State) (r : JournalRecord) (hw : s.within) : (State.replayStandingRecord s r).within := by
  unfold State.replayStandingRecord; grind [State.ownChange_within, State.blockAction_within]

theorem State.emptyStanding_within (s : State)  (hw : s.within) : (s.emptyStanding).within := by
  exact State.within_standing s _ ⟨by simp, by simp⟩ hw

theorem State.setOverlay_within (s : State) (o : Overlay) (h : o.used ≤ Config.overlayCapacity) (hw : s.within) : (s.setOverlay o).within := by
  exact State.within_overlay s o h hw

/-- Finding room leaves one place free. -/
theorem Overlay.freeRoom_used (o p : Overlay) (ho : o.used ≤ Config.overlayCapacity) (h : o.freeRoom = some p) :
    p.used < Config.overlayCapacity := by
  unfold Overlay.freeRoom at h
  split at h
  · cases h; assumption
  · split at h
    · rename_i hc; cases h
      have hl := List.length_eraseP (p := ItemEntry.reclaimable) (l := o.entries)
      rw [if_pos hc] at hl
      have hp : 0 < o.entries.length := by
        rcases h0 : o.entries with _ | ⟨a, r⟩
        · simp [h0] at hc
        · simp
      simp only [Overlay.used] at ho ⊢
      omega
    · cases h

theorem Overlay.setRoom_used (o : Overlay) (l : LaneId) : (o.setRoom l true).used ≤ o.used + 1 := by
  cases l <;> simp only [Overlay.setRoom, Overlay.used, Bool.toNat_true] <;> omega

theorem Overlay.setRoom_clear (o : Overlay) (l : LaneId) : (o.setRoom l false).used ≤ o.used := by
  cases l <;> simp only [Overlay.setRoom, Overlay.used, Bool.toNat_false] <;> omega

theorem State.setAsideRoom_within (s : State) (l : LaneId) (n : Nat) (t) (hw : s.within) (h : s.setAsideRoom l n = some t) : t.within := by
  unfold State.setAsideRoom at h
  split at h
  · cases h; exact hw
  · obtain ⟨v, hv, rfl⟩ := Option.map_eq_some_iff.mp h
    have h1 := Overlay.freeRoom_used _ _ hw.overlay hv
    have h2 := Overlay.setRoom_used v l
    exact State.setOverlay_within _ _ (by omega) hw

theorem State.giveBackRoom_within (s : State) (l : LaneId) (hw : s.within) : (State.giveBackRoom s l).within :=
  State.setOverlay_within _ _ (le_trans (Overlay.setRoom_clear _ _) hw.overlay) hw

/-- An entry is written within the capacity where one of its item stands, or a place is free. -/
theorem State.putItem_within (s : State) (e : ItemEntry) (h : (s.item? e.item).isSome = true ∨ s.overlay.used < Config.overlayCapacity)
    (hw : s.within) : (State.putItem s e).within := by
  refine State.setOverlay_within _ _ ?_ hw
  have hle := List.length_filter_le (fun x : ItemEntry => x.item != e.item) s.overlay.entries
  have := hw.overlay
  simp only [Overlay.used, List.length_append, List.length_singleton] at h this ⊢
  rcases h with h | h
  · obtain ⟨x, hx⟩ := Option.isSome_iff_exists.mp h
    have hlt : (s.overlay.entries.filter fun x => x.item != e.item).length < s.overlay.entries.length := by
      rw [List.length_filter_lt_length_iff_exists]
      exact ⟨x, List.mem_of_find?_eq_some hx, by have := List.find?_some hx; simpa using this⟩
    omega
  · omega

theorem State.newItem_within (s : State) (e : ItemEntry) (spare : Bool) (hw : s.within) : (State.newItem s e spare).within := by
  unfold State.newItem; repeat' split
  · exact hw
  · rename_i o ho
    have h := Overlay.freeRoom_used _ _ hw.overlay ho
    exact State.putItem_within _ _ (Or.inr h) (State.setOverlay_within _ _ h.le hw)
  · exact hw
  · exact State.setIncomplete_within _ hw

theorem State.ownWrite_within (s : State) (l : LaneId) (n : Nat) (basis : Basis) (loan : Option LoanPart) (stamp : Nat) (hw : s.within) : (State.ownWrite s l n basis loan stamp).within := by
  unfold State.ownWrite; grind [State.giveBackRoom_within, State.putItem_within, State.newItem_within]

theorem State.liveItem_within (s : State) (sender stamp n : Nat) (basis : Basis) (loan : Option LoanPart) (hw : s.within) : (State.liveItem s sender stamp n basis loan).within := by
  unfold State.liveItem; grind [State.putItem_within, State.newItem_within]

theorem State.restatedItem_within (s : State) (station stamp n : Nat) (basis : Basis) (loan : Option LoanPart) (hw : s.within) : (State.restatedItem s station stamp n basis loan).within := by
  unfold State.restatedItem; grind [State.putItem_within, State.newItem_within]

theorem State.replayItemOver_within (s : State) (r : JournalRecord) (listed : ItemAnswer) (hw : s.within) : (State.replayItemOver s r listed).within := by
  unfold State.replayItemOver; grind [State.putItem_within, State.newItem_within]

theorem State.replayItem_within (s : State) (r : JournalRecord) (answer : Lookup ItemAnswer) (hw : s.within) : (State.replayItem s r answer).within := by
  unfold State.replayItem; grind [State.setIncomplete_within, State.replayItemOver_within]

theorem State.setTraps_within (s : State) (x : List TrapRecord) (h : x.length ≤ Config.trapCapacity) (hw : s.within) : (s.setTraps x).within := by
  exact State.within_traps s x h hw

theorem State.putTrap_within (s : State) (t : TrapRecord) (h : (s.trap? t.title t.rank).isSome = true) (hw : s.within) : (s.putTrap t).within := by
  obtain ⟨x, hx⟩ := Option.isSome_iff_exists.mp h
  have hlt : (s.traps.filter fun y => !y.isFor t.title t.rank).length < s.traps.length := by
    rw [List.length_filter_lt_length_iff_exists]
    exact ⟨x, List.mem_of_find?_eq_some hx, by have := List.find?_some hx; simpa using this⟩
  have := hw.traps
  refine State.within_traps s _ ?_ hw
  simp only [List.length_append, List.length_singleton]; omega

theorem State.putTrap_within_room (s : State) (t : TrapRecord) (h : s.traps.length < Config.trapCapacity) (hw : s.within) : (s.putTrap t).within := by
  refine State.within_traps s _ ?_ hw
  have := List.length_filter_le (fun y => !TrapRecord.isFor y t.title t.rank) s.traps
  simp only [List.length_append, List.length_singleton]; omega

theorem State.removeTrap_within (s : State) (title rank : Nat) (hw : s.within) : (s.removeTrap title rank).within := by
  exact State.within_traps s _ (le_trans (List.length_filter_le _ _) hw.traps) hw

theorem State.trapRoom_within (s : State) (title rank : Nat) (t) (hw : s.within) (h : s.trapRoom title rank = some t) :
    t.within ∧ ((t.trap? title rank).isSome = true ∨ t.traps.length < Config.trapCapacity) := by
  unfold State.trapRoom at h
  split at h
  · rename_i hc
    cases h; simp at hc; exact ⟨hw, by tauto⟩
  · split at h
    · rename_i hc; cases h
      have hl := List.length_eraseP (p := fun x : TrapRecord => x.state == TrapState.released) (l := s.traps)
      rw [if_pos hc] at hl
      have := hw.traps
      refine ⟨State.within_traps s _ (by omega) hw, Or.inr ?_⟩
      have hp : 0 < s.traps.length := by
        rcases h0 : s.traps with _ | ⟨a, r⟩
        · simp [h0] at hc
        · simp
      show (s.traps.eraseP _).length < _
      omega
    · cases h

theorem State.trap?_congr (s t : State) (h : t.traps = s.traps) (a b : Nat) : t.trap? a b = s.trap? a b := by
  unfold State.trap?; rw [h]

theorem State.recordTrap_within (s : State) (t : TrapRecord) (hw : s.within) : (s.recordTrap t).within := by
  unfold State.recordTrap; split
  · rename_i h; obtain ⟨h1, h2 | h2⟩ := State.trapRoom_within _ _ _ _ hw h
    · exact State.putTrap_within _ _ h2 h1
    · exact State.putTrap_within_room _ _ h2 h1
  · exact hw

theorem State.makeTrap_within (s : State) (l : LaneId) (item : Nat) (h : Hold) (t) (hw : s.within) (hm : s.makeTrap l item h = some t) : t.within := by
  unfold State.makeTrap at hm; dsimp only at hm
  split at hm
  · cases hm
  · rename_i u hu
    obtain ⟨h1, h2⟩ := State.trapRoom_within _ _ _ _ hw hu
    split at hm
    · cases hm
    · rename_i v k hv; cases hm
      have ht := State.handStamped_traps_of _ _ _ _ hv
      have hv' := State.handStamped_within_of _ _ _ _ h1 hv
      rcases h2 with h2 | h2
      · exact State.putTrap_within _ _ (by simpa [State.trap?_congr u v ht] using h2) hv'
      · exact State.putTrap_within_room _ _ (by rw [ht]; exact h2) hv'

theorem State.trap?_self (s : State) (a b : Nat) (t : TrapRecord) (h : s.trap? a b = some t) : t.title = a ∧ t.rank = b := by
  have := List.find?_some h
  simpa [TrapRecord.isFor] using this

theorem State.releaseTrap_within (s : State) (title rank item : Nat) (hw : s.within) : (s.releaseTrap title rank item).within := by
  unfold State.releaseTrap; split
  · exact hw
  · rename_i t ht
    obtain ⟨e1, e2⟩ := State.trap?_self _ _ _ _ ht
    split
    · split
      · rename_i u k hu
        apply State.holdLost_within
        refine State.putTrap_within _ _ ?_ (State.handStamped_within_of _ _ _ _ hw hu)
        rw [State.trap?_congr s u (State.handStamped_traps_of _ _ _ _ hu)]; simp [e1, e2, ht]
      · rename_i u hu
        apply State.holdLost_within
        refine State.putTrap_within _ _ ?_ (State.handStamped_within_of _ _ _ _ hw hu)
        rw [State.trap?_congr s u (State.handStamped_traps_of _ _ _ _ hu)]; simp [e1, e2, ht]
    · exact hw

theorem State.trap?_of_mem (s : State) (t : TrapRecord) (h : t ∈ s.traps) : (s.trap? t.title t.rank).isSome = true := by
  unfold State.trap?; rw [List.find?_isSome]; exact ⟨t, h, by simp [TrapRecord.isFor]⟩

theorem State.abandonTrap_within (s : State) (l : LaneId) (hw : s.within) : (s.abandonTrap l).within := by
  unfold State.abandonTrap; split
  · exact hw
  · rename_i t ht
    have hm : t ∈ s.traps := List.mem_of_find?_eq_some ht
    dsimp only; split
    · refine State.putTrap_within _ _ ?_ (State.withdraw_within _ _ _ hw)
      rw [State.trap?_congr s _ (State.withdraw_traps s _ _)]; exact State.trap?_of_mem s t hm
    · exact State.removeTrap_within _ _ _ (State.withdraw_within _ _ _ hw)

theorem State.releaseTrap_keeps (s : State) (a b item a' b' : Nat) (h : (s.trap? a' b').isSome = true) :
    ((s.releaseTrap a b item).trap? a' b').isSome = true := by
  have hhl := State.holdLost_traps
  have hput : ∀ (u : State) (t : TrapRecord), (u.trap? a' b').isSome = true → ((u.putTrap t).trap? a' b').isSome = true := by
    intro u t hu
    obtain ⟨x, hx⟩ := Option.isSome_iff_exists.mp hu
    have hmem := List.mem_of_find?_eq_some hx
    have hfor := List.find?_some hx
    unfold State.trap? State.putTrap State.setTraps; rw [List.find?_isSome]
    by_cases hxt : x.isFor t.title t.rank = true
    · refine ⟨t, by simp, ?_⟩
      simp [TrapRecord.isFor] at hfor hxt ⊢; omega
    · refine ⟨x, ?_, hfor⟩
      simp [hmem, hxt]
  unfold State.releaseTrap; split
  · exact h
  · split
    · split
      · rename_i u k hu
        rw [State.trap?_congr _ _ (hhl _ _)]; apply hput
        rw [State.trap?_congr _ _ (State.handStamped_traps_of _ _ _ _ hu)]; exact h
      · rename_i u hu
        rw [State.trap?_congr _ _ (hhl _ _)]; apply hput
        rw [State.trap?_congr _ _ (State.handStamped_traps_of _ _ _ _ hu)]; exact h
    · exact h

theorem State.trapConflict_within (s : State) (own : TrapRecord) (p : TrapPart) (sender stamp : Nat) (h1 : (s.trap? own.title own.rank).isSome = true)
    (h2 : (s.trap? p.title p.rank).isSome = true) (hw : s.within) : (s.trapConflict own p sender stamp).within := by
  unfold State.trapConflict; split
  · split
    · rename_i u k hu
      refine State.putTrap_within _ _ ?_ (State.handStamped_within_of _ _ _ _ hw hu)
      rw [State.trap?_congr s u (State.handStamped_traps_of _ _ _ _ hu)]; exact h1
    · rename_i u hu; exact State.handStamped_within_of _ _ _ _ hw hu
  · refine State.putTrap_within _ _ ?_ (State.latch_within _ _ (State.releaseTrap_within _ _ _ _ hw))
    rw [State.trap?_congr (s.releaseTrap own.title own.rank own.item)]
    · exact State.releaseTrap_keeps _ _ _ _ _ _ h2
    · unfold State.latch; split <;> rfl

theorem State.peerReleased_within (s : State) (p : TrapPart) (sender stamp : Nat) (hw : s.within) : (s.peerReleased p sender stamp).within := by
  unfold State.peerReleased; split
  · exact hw
  · rename_i t ht; split
    · obtain ⟨e1, e2⟩ := State.trap?_self _ _ _ _ ht
      exact State.putTrap_within _ _ (by simp [e1, e2, ht]) hw
    · exact hw

theorem State.replayTrap_within (s : State) (r : JournalRecord) (holds : Lookup (List Hold)) (hw : s.within) : (State.replayTrap s r holds).within := by
  unfold State.replayTrap; grind [State.recordTrap_within]

theorem State.endSession_within (s : State) (l : LaneId) (hw : s.within) : (State.endSession s l).within := by
  unfold State.endSession; grind [State.mapLane_within, State.settlePrinter_within, State.completeSlip_within, State.outOfHand_within]

theorem State.resultTone_within (s : State) (src : Source) (c : ResultClass) (hw : s.within) : (State.resultTone s src c).within := by
  unfold State.resultTone; grind [State.tone_within, State.sourceTone_within]

theorem State.dropTxnEntry_within (s : State) (l : LaneId) (t : Option Txn) (hw : s.within) : (State.dropTxnEntry s l t).within := by
  unfold State.dropTxnEntry; grind [State.outOfHand_within]

theorem State.writeResult_within (s : State) (l : LaneId) (src : Source) (r : Result) (hw : s.within) : (State.writeResult s l src r).within := by
  unfold State.writeResult; grind [State.mapLane_within, State.latch_within, State.endSession_within, State.resultTone_within, State.dropTxnEntry_within]

theorem State.reportNow_within (s : State) (l : LaneId) (src : Source) (op : Operation) (c : ResultClass) (why : Reason) (hw : s.within) : (State.reportNow s l src op c why).within := by
  unfold State.reportNow; grind [State.writeResult_within]

theorem State.releaseReservation_within (s : State) (l : LaneId) (b : Nat) (hw : s.within) : (State.releaseReservation s l b).within := by
  unfold State.releaseReservation; grind [State.reserve_within]

theorem State.giveBack_within (s : State) (l : LaneId) (t : Txn) (hw : s.within) : (State.giveBack s l t).within := by
  unfold State.giveBack; grind [State.withdraw_within, State.dropAsked_within, State.dropAwaiting_within, State.giveBackRoom_within, State.releaseTrap_within, State.abandonTrap_within, State.releaseReservation_within]

theorem State.endTxn_within (s : State) (l : LaneId) (c : ResultClass) (why : Reason) (hw : s.within) : (State.endTxn s l c why).within := by
  unfold State.endTxn; grind [State.writeResult_within, State.giveBack_within]

theorem State.appendFailed_within (s : State) (l : LaneId) (hw : s.within) : (State.appendFailed s l).within := by
  unfold State.appendFailed; grind [State.endTxn_within]

theorem State.requestAppend_within (s : State) (l : LaneId) (stamped : Bool) (hw : s.within) : (State.requestAppend s l stamped).within := by
  unfold State.requestAppend; grind [State.mapTxn_within, State.takeStamp_within, State.setMemory_within, State.ask_within, State.appendFailed_within]

theorem State.askLane_within (s : State) (l : LaneId) (hw : s.within) : (State.askLane s l).within := by
  unfold State.askLane; grind [State.mapTxn_within, State.ask_within]

theorem State.commitOperation_within (s : State) (l : LaneId) (c : ResultClass) (stamped : Bool) (hw : s.within) : (State.commitOperation s l c stamped).within := by
  unfold State.commitOperation; grind [State.endTxn_within, State.requestAppend_within]

theorem State.commitItem_within (s : State) (l : LaneId) (item : Nat) (hw : s.within) : (State.commitItem s l item).within := by
  unfold State.commitItem; grind [State.setAsideRoom_within, State.endTxn_within, State.requestAppend_within]

theorem State.commitLend_within (s : State) (l : LaneId) (t : Txn) (hw : s.within) : (State.commitLend s l t).within := by
  unfold State.commitLend; grind [State.mapTxn_within, State.endTxn_within, State.commitItem_within]

theorem State.lendFound_within (s : State) (l : LaneId) (t : Txn) (a : ItemAnswer) (hw : s.within) : (State.lendFound s l t a).within := by
  unfold State.lendFound; grind [State.mapTxn_within, State.reserve_within, State.endTxn_within, State.commitLend_within]

theorem State.commitReturn_within (s : State) (l : LaneId) (hw : s.within) : (State.commitReturn s l).within := by
  unfold State.commitReturn; grind [State.mapLane_within, State.mapTxn_within, State.endTxn_within, State.commitItem_within]

theorem State.returnOn_within (s : State) (l : LaneId) (o : TrapOutcome) (hw : s.within) : (State.returnOn s l o).within := by
  unfold State.returnOn; grind [State.mapTxn_within, State.commitReturn_within]

theorem State.tryTrap_within (s : State) (l : LaneId) (hw : s.within) : (State.tryTrap s l).within := by
  unfold State.tryTrap; grind [State.mapLane_within, State.mapTxn_within, State.makeTrap_within, State.returnOn_within]

theorem State.returnBorrower_within (s : State) (l : LaneId) (t : Txn) (hw : s.within) : (State.returnBorrower s l t).within := by
  unfold State.returnBorrower; grind [State.mapTxn_within, State.ask_within, State.takeInHand_within, State.askLane_within]

theorem State.returnFound_within (s : State) (l : LaneId) (t : Txn) (a : ItemAnswer) (hw : s.within) : (State.returnFound s l t a).within := by
  unfold State.returnFound; grind [State.mapTxn_within, State.ask_within, State.endTxn_within, State.returnBorrower_within, State.askLane_within]

theorem State.commitRenew_within (s : State) (l : LaneId) (t : Txn) (hw : s.within) : (State.commitRenew s l t).within := by
  unfold State.commitRenew; grind [State.mapTxn_within, State.endTxn_within, State.commitItem_within]

theorem State.renewHolds_within (s : State) (l : LaneId) (t : Txn) (holds : List Hold) (hw : s.within) : (State.renewHolds s l t holds).within := by
  unfold State.renewHolds; grind [State.mapTxn_within, State.endTxn_within, State.commitRenew_within]

theorem State.renewFound_within (s : State) (l : LaneId) (t : Txn) (a : ItemAnswer) (hw : s.within) : (State.renewFound s l t a).within := by
  unfold State.renewFound; grind [State.mapTxn_within, State.ask_within, State.endTxn_within, State.askLane_within]

theorem State.inquireItemFound_within (s : State) (l : LaneId) (t : Txn) (a : ItemAnswer) (why : Reason) (hw : s.within) : (State.inquireItemFound s l t a why).within := by
  unfold State.inquireItemFound; grind [State.writeResult_within]

theorem State.inquireBorrowerFound_within (s : State) (l : LaneId) (t : Txn) (e : Entry) (hw : s.within) : (State.inquireBorrowerFound s l t e).within := by
  unfold State.inquireBorrowerFound; grind [State.writeResult_within]

theorem State.itemFound_within (s : State) (l : LaneId) (t : Txn) (a : ItemAnswer) (hw : s.within) : (State.itemFound s l t a).within := by
  unfold State.itemFound; grind [State.lendFound_within, State.returnFound_within, State.renewFound_within, State.inquireItemFound_within]

theorem State.begin_within (s : State) (l : LaneId) (state : LaneState) (t : Txn) (hw : s.within) : (State.begin s l state t).within := by
  unfold State.begin; grind [State.mapLane_within]

theorem State.takeItem_within (s : State) (l : LaneId) (src : Source) (item : Nat) (hw : s.within) : (State.takeItem s l src item).within := by
  unfold State.takeItem; grind [State.ask_within, State.reportNow_within, State.itemFound_within, State.begin_within, State.askLane_within]

theorem State.checkDone_within (s : State) (l : LaneId) (t : Txn) (hw : s.within) : (State.checkDone s l t).within := by
  unfold State.checkDone; grind [State.mapLane_within, State.settlePrinter_within, State.takeInHand_within, State.writeResult_within]

theorem State.startCheck_within (s : State) (l : LaneId) (src : Source) (b : Nat) (hw : s.within) : (State.startCheck s l src b).within := by
  unfold State.startCheck; grind [State.ask_within, State.reportNow_within, State.begin_within, State.checkDone_within, State.askLane_within]

theorem State.inquireBorrower_within (s : State) (l : LaneId) (src : Source) (b : Nat) (hw : s.within) : (State.inquireBorrower s l src b).within := by
  unfold State.inquireBorrower; grind [State.ask_within, State.reportNow_within, State.inquireBorrowerFound_within, State.begin_within, State.askLane_within]

theorem State.takeBorrower_within (s : State) (l : LaneId) (src : Source) (b : Nat) (hw : s.within) : (State.takeBorrower s l src b).within := by
  unfold State.takeBorrower; grind [State.endSession_within, State.reportNow_within, State.startCheck_within, State.inquireBorrower_within]

theorem State.changeMode_within (s : State) (l : LaneId) (m : LaneMode) (hw : s.within) : (State.changeMode s l m).within := by
  unfold State.changeMode; grind [State.mapLane_within, State.endSession_within]

theorem State.takeCommand_within (s : State) (l : LaneId) (src : Source) (code : Nat) (hw : s.within) : (State.takeCommand s l src code).within := by
  unfold State.takeCommand; grind [State.endSession_within, State.reportNow_within, State.changeMode_within]

theorem State.takeOffer_within (s : State) (l : LaneId) (o : Offer) (hw : s.within) : (State.takeOffer s l o).within := by
  unfold State.takeOffer; grind [State.reportNow_within, State.takeItem_within, State.takeBorrower_within, State.takeCommand_within]

theorem State.takeSlot_within (s : State) (l : LaneId) (hw : s.within) : (State.takeSlot s l).within := by
  unfold State.takeSlot; grind [State.mapLane_within, State.takeOffer_within]

theorem State.cancelWork_within (s : State) (l : LaneId) (hw : s.within) : (State.cancelWork s l).within := by
  unfold State.cancelWork; grind [State.mapLane_within, State.endTxn_within]

theorem State.offerBusy_within (s : State) (l : LaneId) (o : Offer) (hw : s.within) : (State.offerBusy s l o).within := by
  unfold State.offerBusy; grind [State.mapLane_within, State.latch_within, State.tone_within, State.sourceTone_within, State.cancelWork_within]

theorem State.offer_within (s : State) (l : LaneId) (o : Offer) (hw : s.within) : (State.offer s l o).within := by
  unfold State.offer; grind [State.sourceTone_within, State.takeOffer_within, State.offerBusy_within]

theorem State.blockOn_within (s : State) (l : LaneId) (t : Txn) (hw : s.within) : (State.blockOn s l t).within := by
  unfold State.blockOn; grind [State.mapLane_within, State.mapTxn_within, State.handStamped_within, State.handStamped_within_of, State.endTxn_within, State.requestAppend_within, State.commitOperation_within]

theorem State.operationOn_within (s : State) (l : LaneId) (t : Txn) (hw : s.within) : (State.operationOn s l t).within := by
  unfold State.operationOn; grind [State.takeInHand_within, State.endTxn_within, State.requestAppend_within, State.blockOn_within, State.commitOperation_within]

theorem State.startOperation_within (s : State) (l : LaneId) (t : Txn) (hw : s.within) : (State.startOperation s l t).within := by
  unfold State.startOperation; grind [State.ask_within, State.begin_within, State.operationOn_within, State.askLane_within]

theorem State.blockTransmitted_within (s : State) (l : LaneId) (t : Txn) (hw : s.within) : (State.blockTransmitted s l t).within := by
  unfold State.blockTransmitted; grind [State.mapLane_within, State.placeAwaiting_within, State.endTxn_within, State.requestAppend_within, State.commitOperation_within]

theorem State.recommit_within (s : State) (l : LaneId) (t : Txn) (hw : s.within) : (State.recommit s l t).within := by
  unfold State.recommit; grind [State.commitLend_within, State.commitReturn_within, State.commitRenew_within, State.commitOperation_within, State.blockOn_within]

theorem State.resumeLane_within (s : State) (l : LaneId) (hw : s.within) : (State.resumeLane s l).within := by
  unfold State.resumeLane; grind [State.mapTxn_within, State.askLane_within, State.recommit_within]

theorem State.notify_within (s : State) (stamp : Nat) (body : Body) (hw : s.within) : (State.notify s stamp body).within := by
  unfold State.notify; grind [State.handChange_within]

theorem State.loanDone_within (s : State) (l : LaneId) (t : Txn) (hw : s.within) : (State.loanDone s l t).within := by
  unfold State.loanDone; grind [State.itemDueLine_within, State.itemDueLine_within_of, State.padPulse_within, State.padPulse_within_of, State.ownChange_within, State.ownWrite_within, State.writeResult_within, State.releaseReservation_within, State.notify_within]

theorem State.returnSlips_within (s : State) (l : LaneId) (t : Txn) (hw : s.within) : (State.returnSlips s l t).1.within := by
  unfold State.returnSlips; grind [State.fineSlip_within, State.fineSlip_within_of, State.holdSlip_within, State.holdSlip_within_of]

theorem State.returnSlips_within_of (s : State) (l : LaneId) (t : Txn) (u) (ub) (hw : s.within) (h : State.returnSlips s l t = (u, ub)) : u.within := by
  have h' := State.returnSlips_within s l t hw
  rw [h] at h'
  exact h'

theorem State.returnDone_within (s : State) (l : LaneId) (t : Txn) (hw : s.within) : (State.returnDone s l t).within := by
  unfold State.returnDone; grind [State.padPulse_within, State.padPulse_within_of, State.ownChange_within, State.ownWrite_within, State.writeResult_within, State.notify_within, State.returnSlips_within, State.returnSlips_within_of]

theorem State.renewDone_within (s : State) (l : LaneId) (t : Txn) (hw : s.within) : (State.renewDone s l t).within := by
  unfold State.renewDone; grind [State.itemDueLine_within, State.itemDueLine_within_of, State.ownChange_within, State.ownWrite_within, State.writeResult_within, State.notify_within]

theorem State.paymentDone_within (s : State) (l : LaneId) (t : Txn) (hw : s.within) : (State.paymentDone s l t).within := by
  unfold State.paymentDone; grind [State.ownChange_within, State.writeResult_within, State.notify_within]

theorem State.blockDone_within (s : State) (l : LaneId) (t : Txn) (hw : s.within) : (State.blockDone s l t).within := by
  unfold State.blockDone; grind [State.ownBlock_within, State.writeResult_within, State.notify_within]

theorem State.appendDone_within (s : State) (l : LaneId) (hw : s.within) : (State.appendDone s l).within := by
  unfold State.appendDone; grind [State.loanDone_within, State.returnDone_within, State.renewDone_within, State.paymentDone_within, State.blockDone_within]

theorem State.closeLane_within (s : State) (l : LaneId) (hw : s.within) : (State.closeLane s l).within := by
  unfold State.closeLane; grind [State.mapLane_within, State.endSession_within, State.endTxn_within]

end Sys2Proof.Machine
end

