-- ==== Sys2Proof/Laws/Capacities.lean ====
section
/-! SUPPORT. Laws/Capacities.lean: every operation from the upload engine on keeps tables, queues and buffers within their
capacities (`State.within`). -/

namespace Sys2Proof.Machine

/-- The uplink queue of a session holds at most 4 blocks (R173). -/

def Gateway.fits (g : Gateway) : Prop := g.queue.length ≤ Config.uplinkDepth

theorem State.gateway_fits (s : State) (g : Gateway) (hw : s.within) (h : s.upload.gateway = some g) : g.fits := hw.upload g h

theorem State.setUpload_within' (s : State) (u : Upload) (h : u.gateway = s.upload.gateway) (hw : s.within) : (s.setUpload u).within :=
  State.within_upload s u (by intro g hg; exact hw.upload g (by rw [← h]; exact hg)) hw

theorem State.setUpload_within'' (s : State) (u : Upload) (h : ∀ g, u.gateway = some g → g.fits) (hw : s.within) : (s.setUpload u).within :=
  State.within_upload s u h hw

theorem LineCtl.reset_within : LineCtl.reset.within := ⟨by decide, by decide, by decide, by decide, by decide, by decide, by decide⟩

theorem Standing.reset_within : Standing.reset.within := ⟨by decide, by decide⟩

theorem SlipUnit.reset_within : SlipUnit.reset.within := ⟨by decide, by decide, by decide⟩

theorem Gateway.fits_setEntry (g : Gateway) (n e) (h : g.fits) : (g.setEntry n e).fits := h

theorem Gateway.fits_removeBlocks (g : Gateway) (n) (h : g.fits) : (g.removeBlocks n).fits := by
  unfold Gateway.fits Gateway.removeBlocks at *; dsimp only
  have h1 := List.length_filter_le (fun b : UplinkBlock => b.station != n) g.queue
  split
  · have h2 := List.length_filter_le (fun b : UplinkBlock => b.station != n) (g.queue.drop 1)
    simp only [List.length_append, List.length_take, List.length_drop] at *; omega
  · omega

theorem Gateway.fits_gone (g : Gateway) (n r) (h : g.fits) : (g.gone n r).fits := Gateway.fits_removeBlocks _ _ h

theorem State.within_rest (s : State) (a b c d e f) (h : s.within) : State.within { s with station := a, minimumTimer := b, quietTimer := c, laneA := d, laneB := e, settings := f } := ⟨h.1, h.2, h.3, h.4, h.5, h.6, h.7, h.8⟩

theorem State.writeFields_within (s : State) (fs : List (HeaderField × Nat)) (n : Nat) (g : Bool) (hw : s.within) : (s.writeFields fs n g).within := by
  induction fs generalizing s n with
  | nil => exact hw
  | cons p rest ih =>
    obtain ⟨f, v⟩ := p
    cases n with
    | zero => simp only [State.writeFields]; split <;> exact ⟨hw.1, hw.2, hw.3, hw.4, hw.5, hw.6, hw.7, hw.8⟩
    | succ n => exact ih _ _ ⟨hw.1, hw.2, hw.3, hw.4, hw.5, hw.6, hw.7, hw.8⟩

theorem State.askRecord_within (s : State) (hw : s.within) : (State.askRecord s).within := by
  unfold State.askRecord; grind [State.within_settings]

theorem State.activate_within (s : State) (hw : s.within) : (State.activate s).within := by
  unfold State.activate; grind [State.askRecord_within, State.within_reckoner]

theorem State.mapSender_within (s : State) (f : Sender → Sender) (hw : s.within) : (s.mapSender f).within := by
  exact State.setUpload_within' s _ rfl hw

theorem State.latchUpload_within (s : State) (hw : s.within) : (State.latchUpload s).within := by
  unfold State.latchUpload; grind [State.latch_within]

theorem State.handUpload_within (s : State) (n : Notice) (hw : s.within) : (State.handUpload s n).within := by
  unfold State.handUpload; grind [State.hand_within, State.hand_within_of, State.setUpload_within']

theorem State.dropKept_within (s : State) (p : Notice → Bool) (hw : s.within) : (State.dropKept s p).within := by
  unfold State.dropKept; grind [State.setUpload_within']

theorem State.withdrawUpload_within (s : State) (c : TxClass) (p : Notice → Bool) (hw : s.within) : (State.withdrawUpload s c p).within := by
  unfold State.withdrawUpload; grind [State.withdraw_within, State.dropKept_within]

theorem State.endSender_within (s : State) (o : UploadOutcome) (hw : s.within) : (State.endSender s o).within := by
  unfold State.endSender; grind [State.dropAsked_within, State.detachAsked_within, State.mapSender_within, State.latchUpload_within]

theorem State.askUpload_within (s : State) (op : MemOp) (hw : s.within) : (State.askUpload s op).within := by
  unfold State.askUpload; grind [State.ask_within, State.endSender_within]

theorem State.senderReceipt_within (s : State) (src k : Nat) (hw : s.within) : (State.senderReceipt s src k).within := by
  unfold State.senderReceipt; grind [State.mapSender_within, State.withdrawUpload_within, State.askUpload_within]

theorem State.stopSender_within (s : State) (o : UploadOutcome) (hw : s.within) : (State.stopSender s o).within := by
  unfold State.stopSender; grind [State.withdrawUpload_within, State.endSender_within]

theorem State.senderRefusal_within (s : State) (src reason : Nat) (hw : s.within) : (State.senderRefusal s src reason).within := by
  unfold State.senderRefusal; grind [State.stopSender_within]

theorem State.senderClosed_within (s : State) (src : Nat) (hw : s.within) : (State.senderClosed s src).within := by
  unfold State.senderClosed; grind [State.stopSender_within]

theorem State.setGateway_within (s : State) (g : Option Gateway) (h : ∀ x, g = some x → x.fits) (hw : s.within) : (s.setGateway g).within := by
  exact State.setUpload_within'' s _ h hw

theorem State.setGateway_within_some (s : State) (g : Gateway) (h : g.fits) (hw : s.within) : (s.setGateway (some g)).within :=
  State.setGateway_within s _ (by intro x hx; cases hx; exact h) hw

theorem State.setGateway_within_none (s : State) (hw : s.within) : (s.setGateway none).within :=
  State.setGateway_within s _ (by intro x hx; cases hx) hw

theorem State.giveReceipt_within (s : State) (n k : Nat) (hw : s.within) : (State.giveReceipt s n k).within := by
  unfold State.giveReceipt; grind [State.hand_within, State.hand_within_of, State.senderReceipt_within]

theorem State.giveRefusal_within (s : State) (n reason : Nat) (hw : s.within) : (State.giveRefusal s n reason).within := by
  unfold State.giveRefusal; grind [State.hand_within, State.hand_within_of, State.senderRefusal_within]

theorem State.sendHead_within (s : State)  (hw : s.within) : (s.sendHead).within := by
  unfold State.sendHead; repeat' split
  all_goals first | exact hw | skip
  rename_i g hg _ _ _ _ _
  refine State.setUpload_within'' s _ ?_ hw
  intro x hx; cases hx; exact hw.upload g hg

theorem State.closeNow_within (s : State) (g : Gateway) (hw : s.within) : (s.closeNow g).within := by
  unfold State.closeNow; dsimp only
  exact State.latchUpload_within _ (State.setUpload_within'' s _ (by intro x hx; cases hx) hw)

theorem State.testClose_within (s : State)  (hw : s.within) : (s.testClose).within := by
  unfold State.testClose; split
  · exact hw
  · rename_i g hg; dsimp only; split
    · split
      · rename_i h; exact State.closeNow_within _ _ (State.hand_within_of _ _ _ _ hw h)
      · rename_i h
        exact State.handUpload_within _ _ (State.setGateway_within_some _ _ (hw.upload g hg) (State.hand_within_of _ _ _ _ hw h))
    · exact hw

theorem State.openGateway_within (s : State) (day : Nat) (hw : s.within) : (s.openGateway day).within := by
  exact State.latchUpload_within _ (State.setGateway_within_some _ _ (by simp [Gateway.fits]) hw)

theorem State.gatewayBegin_within (s : State) (n count : Nat) (hw : s.within) : (State.gatewayBegin s n count).within := by
  unfold State.gatewayBegin; grind [State.setGateway_within_some, State.setGateway_within_none, State.gateway_fits, Gateway.fits_setEntry, Gateway.fits_gone, Gateway.fits_removeBlocks, State.giveRefusal_within, State.testClose_within]

theorem State.gatewayBlock_within (s : State) (n k : Nat) (records : List (List Byte)) (hw : s.within) : (s.gatewayBlock n k records).within := by
  unfold State.gatewayBlock; split
  · exact hw
  · rename_i g hg
    have hf : g.fits := hw.upload g hg
    dsimp only; split
    · exact hw
    · exact State.giveRefusal_within _ _ _ hw
    · split
      · exact State.giveReceipt_within _ _ _ hw
      · exact hw
    · split
      · exact State.giveReceipt_within _ _ _ (State.setGateway_within_some _ _ hf hw)
      · split
        · rename_i h
          exact State.sendHead_within _ (State.setGateway_within_some _ _ (by simp [Gateway.fits, Gateway.setEntry] at h ⊢; omega) (State.setGateway_within_some _ _ hf hw))
        · exact State.setGateway_within_some _ _ hf hw

theorem State.gatewayDone_within (s : State) (n blocks : Nat) (hw : s.within) : (State.gatewayDone s n blocks).within := by
  unfold State.gatewayDone; grind [State.setGateway_within_some, State.setGateway_within_none, State.gateway_fits, Gateway.fits_setEntry, Gateway.fits_gone, Gateway.fits_removeBlocks, State.testClose_within]

theorem State.gatewayBeginExpiry_within (s : State)  (hw : s.within) : (s.gatewayBeginExpiry).within := by
  unfold State.gatewayBeginExpiry; split
  · exact hw
  · rename_i g hg; split
    · exact hw
    · exact State.testClose_within _ (State.setGateway_within_some _ _ (hw.upload g hg) hw)

theorem State.gatewaySilence_within (s : State) (n : Nat) (hw : s.within) : (State.gatewaySilence s n).within := by
  unfold State.gatewaySilence; grind [State.setGateway_within_some, State.setGateway_within_none, State.gateway_fits, Gateway.fits_setEntry, Gateway.fits_gone, Gateway.fits_removeBlocks, State.testClose_within]

theorem State.uplinkSent_within (s : State)  (hw : s.within) : (s.uplinkSent).within := by
  unfold State.uplinkSent; split
  · exact hw
  · rename_i g hg; split
    · exact State.setGateway_within_some _ _ (hw.upload g hg) hw
    · exact hw

theorem Gateway.fits_drop (g : Gateway) (t) (h : g.fits) : Gateway.fits { g with queue := g.queue.drop 1, answerTimer := t } := by
  unfold Gateway.fits at *; simp; omega

theorem State.uplinkAccept_within (s : State) (g : Gateway) (b : UplinkBlock) (hf : g.fits) (hw : s.within) : (s.uplinkAccept g b).within := by
  unfold State.uplinkAccept; dsimp only
  apply State.testClose_within; apply State.sendHead_within
  split
  · exact State.giveReceipt_within _ _ _ (State.setGateway_within_some _ _ (Gateway.fits_drop g none hf) hw)
  · exact State.setGateway_within_some _ _ (Gateway.fits_drop g none hf) hw

theorem State.uplinkReject_within (s : State) (g : Gateway) (b : UplinkBlock) (r : Nat) (hf : g.fits) (hw : s.within) : (s.uplinkReject g b r).within := by
  unfold State.uplinkReject; dsimp only
  have h1 := State.setUpload_within' s { s.upload with lastReject := r } rfl hw
  apply State.testClose_within; apply State.sendHead_within
  split
  · exact State.setGateway_within_some _ _ (Gateway.fits_removeBlocks _ _ (Gateway.fits_drop g none hf)) h1
  · exact State.giveRefusal_within _ _ _ (State.setGateway_within_some _ _ (Gateway.fits_gone _ _ _ (Gateway.fits_drop g none hf)) h1)

theorem State.uplinkReceived_within (s : State) (bytes : List Byte) (hw : s.within) : (s.uplinkReceived bytes).within := by
  unfold State.uplinkReceived; split
  · exact hw
  · rename_i g hg; dsimp only; split
    · exact hw
    · split
      · split
        · exact State.uplinkAccept_within _ _ _ (hw.upload g hg) hw
        · split
          · exact State.uplinkReject_within _ _ _ _ (hw.upload g hg) hw
          · exact hw
      · exact hw

theorem State.answerExpiry_within (s : State) (hw : s.within) : (State.answerExpiry s).within := by
  unfold State.answerExpiry; grind [State.hand_within, State.hand_within_of, State.latchUpload_within, State.senderRefusal_within, State.setGateway_within_some, State.setGateway_within_none, State.gateway_fits, Gateway.fits_setEntry, Gateway.fits_gone, Gateway.fits_removeBlocks]

theorem State.toGateway_within (s : State) (body : Body) (hw : s.within) : (State.toGateway s body).within := by
  unfold State.toGateway; grind [State.handUpload_within, State.gatewayBegin_within, State.gatewayBlock_within, State.gatewayDone_within]

theorem State.finishSender_within (s : State) (o : UploadOutcome) (hw : s.within) : (State.finishSender s o).within := by
  unfold State.finishSender; grind [State.endSender_within, State.toGateway_within]

theorem State.readBlock_within (s : State) (k : Nat) (hw : s.within) : (State.readBlock s k).within := by
  unfold State.readBlock; grind [State.mapSender_within, State.askUpload_within]

theorem State.beginSent_within (s : State) (hw : s.within) : (State.beginSent s).within := by
  unfold State.beginSent; grind [State.mapSender_within, State.finishSender_within, State.readBlock_within]

theorem State.settle_within (s : State) (hw : s.within) : (State.settle s).within := by
  unfold State.settle; grind [State.askUpload_within]

theorem State.snapshotTaken_within (s : State) (hw : s.within) : (State.snapshotTaken s).within := by
  unfold State.snapshotTaken; grind [State.mapSender_within, State.toGateway_within, State.beginSent_within]

theorem State.blockRead_within (s : State) (records : List (List Byte)) (hw : s.within) : (State.blockRead s records).within := by
  unfold State.blockRead; grind [State.mapSender_within, State.toGateway_within]

theorem State.marksMoved_within (s : State) (hw : s.within) : (State.marksMoved s).within := by
  unfold State.marksMoved; grind [State.finishSender_within, State.readBlock_within, State.settle_within]

theorem State.receiptExpiry_within (s : State) (hw : s.within) : (State.receiptExpiry s).within := by
  unfold State.receiptExpiry; grind [State.mapSender_within, State.withdrawUpload_within, State.toGateway_within, State.finishSender_within]

theorem State.makeCall_within (s : State) (hw : s.within) : (State.makeCall s).within := by
  unfold State.makeCall; grind [State.mapSender_within, State.handUpload_within, State.dropKept_within, State.endSender_within]

theorem State.claimNames_within (s : State) (gateway : Nat) (hw : s.within) : (State.claimNames s gateway).within := by
  unfold State.claimNames; grind [State.mapSender_within, State.latchUpload_within, State.dropKept_within, State.withdrawUpload_within, State.settle_within]

theorem State.claimHeard_within (s : State) (sender day : Nat) (hw : s.within) : (State.claimHeard s sender day).within := by
  unfold State.claimHeard; grind [State.claimNames_within]

theorem State.claimSent_within (s : State) (day : Nat) (hw : s.within) : (State.claimSent s day).within := by
  unfold State.claimSent; grind [State.openGateway_within, State.claimNames_within]

theorem State.callHeard_within (s : State) (day : Nat) (hw : s.within) : (State.callHeard s day).within := by
  unfold State.callHeard; grind [State.makeCall_within]

theorem State.callExpiry_within (s : State) (hw : s.within) : (State.callExpiry s).within := by
  unfold State.callExpiry; grind [State.withdrawUpload_within, State.endSender_within]

theorem State.senderBeginExpiry_within (s : State) (hw : s.within) : (State.senderBeginExpiry s).within := by
  unfold State.senderBeginExpiry; grind [State.withdrawUpload_within, State.endSender_within]

theorem State.handAgain_within (s : State)  (hw : s.within) : (s.handAgain).within := by
  have hf := State.within_foldl _ State.handUpload_within
  have h1 := hf s.upload.kept _ (State.setUpload_within' s { s.upload with kept := [], handAgainTimer := none } rfl hw)
  unfold State.handAgain; split
  · exact hw
  · dsimp only; split
    · split
      · exact State.closeNow_within _ _ h1
      · exact h1
    · exact h1

theorem State.beginWork_within (s : State)  (hw : s.within) : (s.beginWork).within := by
  unfold State.beginWork; split
  · exact State.handPresence_within _ (State.within_line s _ ⟨hw.line.1, hw.line.2, hw.line.3, hw.line.4, hw.line.5, hw.line.6, hw.line.7⟩ hw)
  · exact hw

theorem State.enterGathering_within (s : State)  (hw : s.within) : (s.enterGathering).within := by
  have h := State.testOwed_within _ (State.releaseEngine_within _ (State.pushBroadcast_within _ (State.within_station s .gathering hw)))
  exact ⟨h.1, h.2, h.3, h.4, h.5, h.6, h.7, h.8⟩

theorem State.testReady_within (s : State)  (hw : s.within) : (s.testReady).within := by
  unfold State.testReady; dsimp only; repeat' split
  all_goals exact ⟨hw.1, hw.2, hw.3, hw.4, hw.5, hw.6, hw.7, hw.8⟩

theorem State.stationFault_within (s : State)  (hw : s.within) : (s.stationFault).within := by
  have h := State.beginWork_within _ hw
  unfold State.stationFault; dsimp only
  apply State.testOwed_within; apply State.releaseEngine_within; apply State.closeLane_within; apply State.closeLane_within
  exact ⟨h.1, h.2, h.3, h.4, h.5, h.6, h.7, h.8⟩

theorem State.laneFaultAnswer_within (s : State) (l : LaneId) (op : MemOp) (hw : s.within) : (State.laneFaultAnswer s l op).within := by
  unfold State.laneFaultAnswer; grind [State.endTxn_within, State.appendFailed_within, State.returnOn_within]

theorem State.faultLane_within (s : State) (requests : List MemRequest) (failing : Bool) (l : LaneId) (hw : s.within) : (State.faultLane s requests failing l).within := by
  unfold State.faultLane; grind [State.laneFaultAnswer_within, State.within_races]

theorem State.memFault_within (s : State)  (hw : s.within) : (s.memFault).within := by
  unfold State.memFault; dsimp only
  apply State.stationFault_within; apply State.faultLane_within; apply State.faultLane_within; apply State.latch_within
  split
  · exact State.endSender_within _ _ (State.abandonParked_within _ (State.setMemory_within _ _ hw))
  · exact State.settle_within _ (State.abandonParked_within _ (State.setMemory_within _ _ hw))

theorem State.headerWrites_within (s : State) (fields : List (HeaderField × Nat)) (e : HeaderEnd) (hw : s.within) : (State.headerWrites s fields e).1.within := by
  unfold State.headerWrites; grind [State.writeFields_within]

theorem State.headerWrites_within_of (s : State) (fields : List (HeaderField × Nat)) (e : HeaderEnd) (u) (ub) (hw : s.within) (h : State.headerWrites s fields e = (u, ub)) : u.within := by
  have h' := State.headerWrites_within s fields e hw
  rw [h] at h'
  exact h'

theorem State.setQuery_within (s : State) (q : Query) (hw : s.within) : (State.setQuery s q).within := by
  unfold State.setQuery; grind [State.setMemory_within]

theorem State.nextQuery_within (s : State) (hw : s.within) : (State.nextQuery s).within := by
  unfold State.nextQuery; grind [State.ask_within, State.setQuery_within]

theorem State.setReplay_within (s : State) (next : Nat) (stage : ReplayStage) (hw : s.within) : (State.setReplay s next stage).within := by
  unfold State.setReplay; grind [State.setMemory_within]

theorem State.replayDone_within (s : State) (stamp : Nat) (hw : s.within) : (s.replayDone stamp).within := by
  have h1 := State.setMemory_within s { s.memory with replay := none } hw
  unfold State.replayDone; dsimp only
  apply State.enterGathering_within
  have h2 : State.within { (s.setMemory { s.memory with replay := none }) with line := { (s.setMemory { s.memory with replay := none }).line with stamps := max (s.setMemory { s.memory with replay := none }).line.stamps stamp } } := State.within_line _ _ ⟨h1.line.1, h1.line.2, h1.line.3, h1.line.4, h1.line.5, h1.line.6, h1.line.7⟩ h1
  split
  · exact State.latch_within _ _ h2
  · exact h2

theorem State.replayFrom_within (s : State) (n : Nat) (hw : s.within) : (State.replayFrom s n).within := by
  unfold State.replayFrom; grind [State.ask_within, State.setReplay_within, State.replayDone_within]

theorem State.startReplay_within (s : State) (hw : s.within) : (State.startReplay s).within := by
  unfold State.startReplay; grind [State.ask_within, State.beginWork_within, State.setReplay_within, State.replayFrom_within, State.within_station]

theorem State.replayNext_within (s : State) (r : JournalRecord) (hw : s.within) : (State.replayNext s r).within := by
  unfold State.replayNext; grind [State.replayFrom_within]

theorem State.replayTraps_within (s : State) (r : JournalRecord) (hw : s.within) : (State.replayTraps s r).within := by
  unfold State.replayTraps; grind [State.ask_within, State.setReplay_within, State.replayNext_within]

theorem State.replayOverlay_within (s : State) (r : JournalRecord) (hw : s.within) : (State.replayOverlay s r).within := by
  unfold State.replayOverlay; grind [State.ask_within, State.replayItem_within, State.setReplay_within, State.replayNext_within, State.replayTraps_within]

theorem State.replayRecord_within (s : State) (n : Nat) (bs : List Byte) (hw : s.within) : (State.replayRecord s n bs).within := by
  unfold State.replayRecord; grind [State.ask_within, State.replayStandingRecord_within, State.setReplay_within, State.replayFrom_within, State.replayOverlay_within]

theorem State.replayRoll_within (s : State) (r : JournalRecord) (answer : Lookup RollFields) (hw : s.within) : (State.replayRoll s r answer).within := by
  unfold State.replayRoll; grind [State.setIncomplete_within, State.createEntry_within, State.createEntry_within_of, State.replayStandingRecord_within, State.replayOverlay_within]

theorem State.replayWith_within (s : State) (f : JournalRecord → State) (h : ∀ r, (f r).within) (hw : s.within) : (s.replayWith f).within := by
  unfold State.replayWith; grind

theorem State.laneRoll_within (s : State) (l : LaneId) (answer : Lookup RollFields) (hw : s.within) : (State.laneRoll s l answer).within := by
  unfold State.laneRoll; grind [State.createEntry_within, State.createEntry_within_of, State.endTxn_within, State.returnBorrower_within, State.checkDone_within, State.operationOn_within]

theorem State.viewRoll_within (s : State) (l : LaneId) (answer : Lookup RollFields) (hw : s.within) : (State.viewRoll s l answer).within := by
  unfold State.viewRoll; grind [State.writeResult_within, State.endTxn_within, State.inquireBorrowerFound_within]

theorem State.laneLoan_within (s : State) (l : LaneId) (answer : Lookup ItemAnswer) (hw : s.within) : (State.laneLoan s l answer).within := by
  unfold State.laneLoan; grind [State.endTxn_within, State.itemFound_within, State.inquireItemFound_within]

theorem State.laneHolds_within (s : State) (l : LaneId) (answer : Lookup (List Hold)) (hw : s.within) : (State.laneHolds s l answer).within := by
  unfold State.laneHolds; grind [State.mapTxn_within, State.endTxn_within, State.returnOn_within, State.tryTrap_within, State.renewHolds_within]

theorem State.strayRoll_within (s : State) (b : Nat) (answer : Lookup RollFields) (hw : s.within) : (State.strayRoll s b answer).within := by
  unfold State.strayRoll; grind [State.createEntry_within, State.createEntry_within_of]

theorem State.rollLookupDone_within (s : State) (hw : s.within) : (State.rollLookupDone s).within := by
  unfold State.rollLookupDone; grind [State.grant_within, State.freePort_within, State.parkedLookupDone_within, State.replayRoll_within, State.replayWith_within, State.laneRoll_within, State.viewRoll_within, State.strayRoll_within, State.resumeLane_within]

theorem State.loansLookupDone_within (s : State) (hw : s.within) : (State.loansLookupDone s).within := by
  unfold State.loansLookupDone; grind [State.grant_within, State.freePort_within, State.replayItem_within, State.replayTraps_within, State.replayWith_within, State.laneLoan_within, State.resumeLane_within]

theorem State.holdLookupDone_within (s : State) (hw : s.within) : (State.holdLookupDone s).within := by
  unfold State.holdLookupDone; grind [State.grant_within, State.freePort_within, State.replayTrap_within, State.replayNext_within, State.replayWith_within, State.laneHolds_within, State.resumeLane_within]

theorem State.appendVerified_within (s : State) (r : JournalRecord) (hw : s.within) : (State.appendVerified s r).within := by
  unfold State.appendVerified; grind [State.latch_within, State.writeBytes_within, State.setCopy_within, State.writeField_within, State.setMemory_within, State.grant_within, State.freePort_within, State.appendDone_within]

theorem State.appendEnd_within (s : State) (e : AppendEnd) (hw : s.within) : (State.appendEnd s e).within := by
  unfold State.appendEnd; grind [State.writeBytes_within, State.writeField_within, State.memFault_within, State.appendVerified_within]

theorem State.rollBeginEnd_within (s : State) (e : HeaderEnd) (hw : s.within) : (State.rollBeginEnd s e).within := by
  unfold State.rollBeginEnd; grind [State.grant_within, State.setMemory_within, State.freePort_within, State.memFault_within, State.headerWrites_within, State.headerWrites_within_of]

theorem State.chunkEnd_within (s : State) (e : BytesEnd) (hw : s.within) : (State.chunkEnd s e).within := by
  unfold State.chunkEnd; grind [State.writeBytes_within, State.grant_within, State.freePort_within, State.memFault_within]

theorem State.newEdition_within (s : State)  (hw : s.within) : (s.newEdition).within := by
  unfold State.newEdition; dsimp only
  apply State.within_foldl _ State.holdLost_within
  exact ⟨⟨hw.line.1, hw.line.2, hw.line.3, by show (s.line.peers.map _).length = 16; simpa using hw.line.4, hw.line.5, hw.line.6, hw.line.7⟩, ⟨by simp [State.emptyStanding, State.setStanding, State.setOverlay, State.setTraps], by simp [State.emptyStanding, State.setStanding, State.setOverlay, State.setTraps]⟩, by simp [State.setTraps], hw.4, hw.5, hw.6, hw.7, Nat.zero_le _⟩

theorem State.editionEnd_within (s : State) (e : HeaderEnd) (hw : s.within) : (State.editionEnd s e).within := by
  unfold State.editionEnd; grind [State.grant_within, State.freePort_within, State.memFault_within, State.headerWrites_within, State.headerWrites_within_of, State.newEdition_within]

theorem State.queryReadDone_within (s : State) (hw : s.within) : (State.queryReadDone s).within := by
  unfold State.queryReadDone; grind [State.grant_within, State.freePort_within, State.memFault_within, State.setQuery_within, State.nextQuery_within]

theorem State.replayLastDone_within (s : State) (hw : s.within) : (State.replayLastDone s).within := by
  unfold State.replayLastDone; grind [State.grant_within, State.ask_within, State.freePort_within, State.setReplay_within, State.replayFrom_within]

theorem State.replayHeadEnd_within (s : State) (e : HeaderEnd) (hw : s.within) : (State.replayHeadEnd s e).within := by
  unfold State.replayHeadEnd; grind [State.grant_within, State.freePort_within, State.memFault_within, State.headerWrites_within, State.headerWrites_within_of, State.replayFrom_within]

theorem State.replayReadDone_within (s : State) (hw : s.within) : (State.replayReadDone s).within := by
  unfold State.replayReadDone; grind [State.grant_within, State.freePort_within, State.memFault_within, State.replayDone_within, State.replayRecord_within]

theorem State.uploadReadDone_within (s : State) (hw : s.within) : (State.uploadReadDone s).within := by
  unfold State.uploadReadDone; grind [State.grant_within, State.freePort_within, State.endSender_within, State.settle_within, State.blockRead_within, State.memFault_within]

theorem State.snapshotEnd_within (s : State) (e : HeaderEnd) (hw : s.within) : (State.snapshotEnd s e).within := by
  unfold State.snapshotEnd; grind [State.grant_within, State.freePort_within, State.settle_within, State.snapshotTaken_within, State.memFault_within, State.headerWrites_within, State.headerWrites_within_of]

theorem State.moveMarksEnd_within (s : State) (e : HeaderEnd) (hw : s.within) : (State.moveMarksEnd s e).within := by
  unfold State.moveMarksEnd; grind [State.grant_within, State.freePort_within, State.endSender_within, State.settle_within, State.marksMoved_within, State.memFault_within, State.headerWrites_within, State.headerWrites_within_of]

theorem State.mapClock_within (s : State) (f : Clock → Clock) (hw : s.within) : (State.mapClock s f).within := by
  unfold State.mapClock; grind [State.within_clock]

theorem State.testOneShot_within (s : State) (hw : s.within) : (State.testOneShot s).within := by
  unfold State.testOneShot; grind [State.makeCall_within, State.mapClock_within]

theorem State.setOneShot_within (s : State) (hw : s.within) : (State.setOneShot s).within := by
  unfold State.setOneShot; grind [State.mapClock_within, State.testOneShot_within]

theorem State.rollTo_within (s : State) (day minute second : Nat) (hw : s.within) : (State.rollTo s day minute second).within := by
  unfold State.rollTo; grind [State.latch_within, State.activate_within, State.mapClock_within, State.setOneShot_within]

theorem State.ownMidnight_within (s : State) (hw : s.within) : (State.ownMidnight s).within := by
  unfold State.ownMidnight; grind [State.hand_within, State.hand_within_of, State.mapClock_within, State.rollTo_within]

theorem State.countSecond_within (s : State) (hw : s.within) : (State.countSecond s).within := by
  unfold State.countSecond; grind [State.mapClock_within, State.testOneShot_within, State.ownMidnight_within]

theorem State.dayRollHeard_within (s : State) (day : Nat) (hw : s.within) : (State.dayRollHeard s day).within := by
  unfold State.dayRollHeard; grind [State.withdraw_within, State.mapClock_within, State.rollTo_within]

theorem State.adopt_within (s : State) (p : PresencePart) (hw : s.within) : (State.adopt s p).within := by
  unfold State.adopt; grind [State.mapClock_within, State.setOneShot_within]

theorem State.takeClock_within (s : State) (day minute second : Nat) (hw : s.within) : (State.takeClock s day minute second).within := by
  unfold State.takeClock; grind [State.mapClock_within, State.testOneShot_within, State.setOneShot_within, State.rollTo_within]

theorem State.mapLine_within (s : State) (f : LineCtl → LineCtl) (h : (f s.line).within) (hw : s.within) : (s.mapLine f).within := by
  exact State.within_line s _ h hw

theorem State.startSending_within (s : State) (slots : Nat) (hw : s.within) : (s.startSending slots).within := by
  unfold State.startSending; repeat' split
  all_goals first | exact hw | exact State.mapLine_within _ _ ⟨hw.line.1, hw.line.2, hw.line.3, hw.line.4, hw.line.5, hw.line.6, hw.line.7⟩ hw

theorem State.trapOfNotice_mem (s : State) (n : Notice) (t) (h : s.trapOfNotice n = some t) : (s.trap? t.title t.rank).isSome = true :=
  State.trap?_of_mem s t (List.mem_of_find?_eq_some h)

theorem State.noticeLeft_within (s : State) (n : Notice) (hw : s.within) : (State.noticeLeft s n).within := by
  unfold State.noticeLeft; grind [State.holdAsserted_within]

theorem State.trapSent_within (s : State) (n : Notice) (hw : s.within) : (s.trapSent n).within := by
  unfold State.trapSent; split
  · exact State.noticeLeft_within _ _ hw
  · rename_i t ht
    have hm := State.trapOfNotice_mem s n t ht
    split
    · exact State.returnOn_within _ _ _ (State.holdAsserted_within _ _ (State.putTrap_within _ _ hm hw))
    · exact State.releaseTrap_within _ _ _ _ (State.putTrap_within _ _ hm hw)
    · exact State.noticeLeft_within _ _ hw
    · exact hw

theorem State.reportSent_within (s : State) (n : Notice) (hw : s.within) : (State.reportSent s n).within := by
  unfold State.reportSent; grind [State.blockTransmitted_within, State.beginSent_within, State.claimSent_within, State.mapClock_within, State.trapSent_within]

theorem State.drop_within (s : State) (c : TxClass) (hw : s.within) : (s.setQueueOf c ((s.queueOf c).drop 1)).within :=
  State.setQueueOf_within s c _ (by have := State.queueOf_within s c hw; simp; omega) hw

theorem State.sendComplete_within (s : State) (hw : s.within) : s.sendComplete.within := by
  unfold State.sendComplete; split
  · exact hw
  · rename_i x _
    have h := State.drop_within s x.cls hw
    dsimp only
    apply State.left_within; apply State.reportSent_within
    exact State.mapLine_within _ _ ⟨h.line.1, h.line.2, h.line.3, h.line.4, by simp, h.line.6, h.line.7⟩ h

theorem State.enterListenOnly_within (s : State)  (hw : s.within) : (s.enterListenOnly).within := by
  exact State.latch_within _ _ (State.mapLine_within _ _ ⟨hw.line.1, hw.line.2, hw.line.3, hw.line.4, hw.line.5, hw.line.6, hw.line.7⟩ hw)

theorem State.withdrawnLost_within (s : State) (n : Notice) (hw : s.within) : (State.withdrawnLost s n).within := by
  unfold State.withdrawnLost; grind [State.removeTrap_within, State.holdAsserted_within, State.endTxn_within, State.returnOn_within, State.mapClock_within, State.noticeLeft_within]

theorem State.lineLost_within (s : State)  (hw : s.within) : (s.lineLost).within := by
  unfold State.lineLost; split
  · exact hw
  · rename_i x _
    dsimp only
    have h : (s.mapLine fun y => { y with sending := none, receiving := true, collisions := min (s.line.collisions + 1) Config.collisionLimit }).within :=
      State.mapLine_within _ _ ⟨hw.line.1, hw.line.2, hw.line.3, hw.line.4, by simp, hw.line.6, hw.line.7⟩ hw
    generalize (s.mapLine fun y => { y with sending := none, receiving := true, collisions := min (s.line.collisions + 1) Config.collisionLimit }) = u at h
    have h2 : (if min (s.line.collisions + 1) Config.collisionLimit = Config.collisionLimit then u.enterListenOnly else u).within := by
      split
      · exact State.enterListenOnly_within _ h
      · exact h
    generalize (if min (s.line.collisions + 1) Config.collisionLimit = Config.collisionLimit then u.enterListenOnly else u) = v at h2
    split
    · exact State.left_within _ _ (State.withdrawnLost_within _ _ (State.drop_within _ _ h2))
    · exact h2

theorem State.peerHeard_within (s : State) (n e : Nat) (hw : s.within) : (s.peerHeard n e).within := by
  unfold State.peerHeard; dsimp only; split
  · exact State.setPeer_within _ _ _ hw
  · exact State.latch_within _ _ (State.setPeer_within _ _ _ hw)

theorem State.peerTrapped_within (s : State) (p : TrapPart) (sender stamp : Nat) (hw : s.within) : (s.peerTrapped p sender stamp).within := by
  unfold State.peerTrapped; split
  · exact State.recordTrap_within _ _ hw
  · rename_i t ht
    obtain ⟨e1, e2⟩ := State.trap?_self _ _ _ _ ht
    have hp : (s.trap? p.title p.rank).isSome = true := by simp [ht]
    have ht' : (s.trap? t.title t.rank).isSome = true := by simp [e1, e2, ht]
    split
    · exact State.recordTrap_within _ _ hw
    · have h1 : ((s.withdraw .u t.isNotice).putTrap (peerTrap p sender stamp)).within := by
        refine State.putTrap_within _ _ ?_ (State.withdraw_within _ _ _ hw)
        rw [State.trap?_congr s _ (State.withdraw_traps s _ _)]; exact hp
      dsimp only; split
      · exact h1
      · exact State.tryTrap_within _ _ h1
    · split
      · exact State.trapConflict_within _ _ _ _ _ ht' hp hw
      · split
        · split
          · exact State.putTrap_within _ _ ht' hw
          · exact hw
        · split
          · exact State.putTrap_within _ _ hp hw
          · exact hw

theorem State.restatedTrap_within (s : State) (p : TrapPart) (state : RestatedTrap) (sender stamp : Nat) (hw : s.within) : (s.restatedTrap p state sender stamp).within := by
  unfold State.restatedTrap; dsimp only
  have ho : (match state with | .confirmed => s.peerTrapped p sender stamp | .released => s : State).within := by
    split
    · exact State.peerTrapped_within _ _ _ _ hw
    · exact hw
  split
  · exact ho
  · rename_i t ht
    obtain ⟨e1, e2⟩ := State.trap?_self _ _ _ _ ht
    split
    · split
      · exact State.putTrap_within _ _ (by simp [TrapRecord.restatedBy, e1, e2, ht]) hw
      · exact hw
    · exact ho

theorem State.liveTally_within (s : State) (sender stamp : Nat) (t : TallyPart) (lost staff : Option StampedAction) (hw : s.within) : (State.liveTally s sender stamp t lost staff).within := by
  unfold State.liveTally; grind [State.tallyOffer_within]

theorem State.applyNotice_within (s : State) (sender stamp : Nat) (b : Body) (hw : s.within) : (State.applyNotice s sender stamp b).within := by
  unfold State.applyNotice; grind [State.liveItem_within, State.peerReleased_within, State.peerTrapped_within, State.liveTally_within]

theorem State.judgeStamp_within (s : State) (sender stamp : Nat) (b : Body) (hw : s.within) : (State.judgeStamp s sender stamp b).within := by
  unfold State.judgeStamp; grind [State.setPeer_within, State.requestRestate_within, State.applyNotice_within]

theorem State.presenceHeard_within (s : State) (sender edition : Nat) (p : PresencePart) (hw : s.within) : (s.presenceHeard sender edition p).within := by
  unfold State.presenceHeard; dsimp only
  have h := State.adopt_within _ p (State.setPeer_within s sender { s.peer sender with
    day := p.day, minute := p.minute, clockSet := p.clockSet, uplinkFitted := p.uplinkFitted } hw)
  generalize State.adopt _ p = u at h
  split
  · have h2 : (if (u.peer sender).lastStamp < p.currentStamp then u.requestRestate sender ((u.peer sender).lastStamp + 1) else u).within := by
      split
      · exact State.requestRestate_within _ _ _ h
      · exact h
    exact State.mapLine_within _ _ ⟨h2.line.1, h2.line.2, h2.line.3, h2.line.4, h2.line.5, h2.line.6, h2.line.7⟩ h2
  · exact h

theorem State.restatementHeard_within (s : State)  (hw : s.within) : (s.restatementHeard).within := by
  unfold State.restatementHeard; split <;> exact ⟨hw.1, hw.2, hw.3, hw.4, hw.5, hw.6, hw.7, hw.8⟩

theorem State.handOn_within (s : State) (sender edition target : Nat) (b : Body) (hw : s.within) : (State.handOn s sender edition target b).within := by
  unfold State.handOn; grind [State.engineRequest_within, State.handPresence_within, State.tallyOffer_within, State.restatedItem_within, State.senderReceipt_within, State.senderRefusal_within, State.senderClosed_within, State.gatewayBegin_within, State.gatewayBlock_within, State.gatewayDone_within, State.claimHeard_within, State.callHeard_within, State.dayRollHeard_within, State.restatedTrap_within, State.presenceHeard_within, State.restatementHeard_within]

theorem State.peerFrame_within (s : State) (sender stamp edition target : Nat) (b : Body) (hw : s.within) : (State.peerFrame s sender stamp edition target b).within := by
  unfold State.peerFrame; grind [State.setPeer_within, State.peerHeard_within, State.judgeStamp_within, State.handOn_within]

theorem saturatingSucc_le (x : Nat) (h : x ≤ Config.saturation) : saturatingSucc x ≤ Config.saturation := by
  unfold saturatingSucc; split <;> omega

theorem State.goodFrame_within (s : State) (f : RxFrame) (hw : s.within) : (s.goodFrame f).within := by
  have h : (s.mapLine fun x => { x with courtesyS := false, courtesyB := false }).within :=
    State.mapLine_within _ _ ⟨hw.line.1, hw.line.2, hw.line.3, hw.line.4, hw.line.5, hw.line.6, hw.line.7⟩ hw
  unfold State.goodFrame; dsimp only
  generalize (s.mapLine fun x => { x with courtesyS := false, courtesyB := false }) = u at h
  split
  · exact State.enterListenOnly_within _ (State.mapLine_within _ _ ⟨h.line.1, h.line.2, h.line.3, h.line.4, h.line.5, h.line.6, saturatingSucc_le _ h.line.7⟩ h)
  · exact State.peerFrame_within _ _ _ _ _ _ h

theorem State.frameEnded_within (s : State) (f : RxFrame) (hw : s.within) : (s.frameEnded f).within := by
  unfold State.frameEnded; split
  · have h : (s.mapLine fun x => { x with receiving := false, state := .gap }).within := State.mapLine_within _ _ ⟨hw.line.1, hw.line.2, hw.line.3, hw.line.4, hw.line.5, hw.line.6, hw.line.7⟩ hw
    dsimp only
    generalize (s.mapLine fun x => { x with receiving := false, state := .gap }) = u at h
    split
    · exact State.goodFrame_within _ _ h
    · exact State.mapLine_within _ _ ⟨h.line.1, h.line.2, h.line.3, h.line.4, h.line.5, saturatingSucc_le _ h.line.6, h.line.7⟩ h
  · exact hw

theorem State.peerAbsent_within (s : State) (n : Nat) (hw : s.within) : (State.peerAbsent s n).within := by
  unfold State.peerAbsent; grind [State.latch_within, State.setPeer_within]

theorem State.wand_within (s : State) (w : Wand) (hw : s.within) : (s.wand w).buffer.length ≤ Config.elementCapacity := by
  cases w
  · exact hw.wand0
  · exact hw.wand1

theorem State.mapWand_within (s : State) (w : Wand) (f : FrontEnd → FrontEnd) (h : (f (s.wand w)).buffer.length ≤ Config.elementCapacity) (hw : s.within) :
    (s.mapWand w f).within := State.setWand_within _ _ _ h hw

theorem State.quietZone_within (s : State) (w : Wand) (hw : s.within) : (s.quietZone w).within := by
  have hb := State.wand_within s w hw
  unfold State.quietZone; dsimp only; split
  · exact State.setWand_within _ _ _ hb hw
  · exact State.setWand_within _ _ _ hb hw
  · split
    · exact State.setWand_within _ _ _ (by simp [FrontEnd.quietWith]) hw
    · exact State.within_decoding _ _ (State.setWand_within _ _ _ hb hw)

theorem State.elementEnds_within (s : State) (w : Wand) (count : Nat) (hw : s.within) : (s.elementEnds w count).within := by
  have hb := State.wand_within s w hw
  unfold State.elementEnds; dsimp only
  have h0 : ∀ b, (s.setWand w ((s.wand w).quietWith b)).within := fun b => State.setWand_within _ _ _ (by simp [FrontEnd.quietWith]) hw
  split
  · split
    · exact State.tone_within _ _ _ (h0 _)
    · exact h0 _
  · split
    · exact State.tone_within _ _ _ (h0 _)
    · exact State.setWand_within _ _ _ (by simp; omega) hw

theorem State.levelChanges_within (s : State) (w : Wand) (ticks : Nat) (hw : s.within) : (s.levelChanges w ticks).within := by
  have hq : ∀ u : State, u.within → ∀ f : FrontEnd → FrontEnd, (∀ x, (f x).buffer.length ≤ x.buffer.length) → (u.mapWand w f).within := by
    intro u hu f hf
    exact State.mapWand_within _ _ _ (le_trans (hf _) (State.wand_within u w hu)) hu
  have hbar : ∀ x : FrontEnd, x.barBegins.buffer.length ≤ x.buffer.length := by
    intro x; unfold FrontEnd.barBegins; repeat' split
    all_goals simp
  have step : ∀ u : State, u.within → (if (u.wand w).state = .capturing then u.elementEnds w (min ticks Config.saturation) else u).within := by
    intro u hu; split
    · exact State.elementEnds_within _ _ _ hu
    · exact hu
  have last : ∀ u : State, u.within → (match (s.wand w).level with
      | .bar => u
      | .space => if (u.wand w).state = .capturing then u else u.mapWand w FrontEnd.barBegins : State).within := by
    intro u hu; split
    · exact hu
    · split
      · exact hu
      · exact hq u hu _ hbar
  unfold State.levelChanges; dsimp only
  apply last; apply step
  refine hq _ ?_ _ (fun x => le_refl _)
  split
  · exact State.quietZone_within _ _ hw
  · exact hw

theorem State.acceptLabel_within (s : State) (w : Wand) (ds : List Nat) (hw : s.within) : (State.acceptLabel s w ds).within := by
  unfold State.acceptLabel; grind [State.tone_within, State.offer_within]

theorem State.readLabel_within (s : State) (w : Wand) (ds : List Nat) (hw : s.within) : (s.readLabel w ds).within := by
  have hb := State.wand_within s w hw
  unfold State.readLabel; split
  · split
    · exact State.acceptLabel_within _ _ _ (State.mapWand_within _ _ _ hb hw)
    · exact State.tone_within _ _ _ (State.mapWand_within _ _ _ hb hw)
  · exact State.acceptLabel_within _ _ _ hw

theorem State.returnBuffer_within (s : State) (w : Wand) (hw : s.within) : (s.returnBuffer w).within := by
  exact State.within_decoding _ _ (State.mapWand_within _ _ _ (by simp [FrontEnd.quietWith]) hw)

theorem State.decodeDone_within (s : State) (hw : s.within) : (State.decodeDone s).within := by
  unfold State.decodeDone; grind [State.tone_within, State.readLabel_within, State.returnBuffer_within]

theorem State.cutMemory_within (s : State) (c : Cut) (hw : s.within) : (s.cutMemory c).within := by
  unfold State.cutMemory; dsimp only; split
  · exact hw
  · have h := fun fs => State.writeFields_within s fs c.memWrites (decide (0 < c.memBytes)) hw
    repeat' split
    all_goals first | exact h _ | exact State.writeBytes_within _ _ _ (h _) | exact State.within_attached _ _ (h _)

theorem State.keepRollBegin_within (s : State) (hw : s.within) : (State.keepRollBegin s).within := by
  unfold State.keepRollBegin; grind [State.writeField_within]

theorem State.cutSettings_within (s : State) (c : Cut) (hw : s.within) : (s.cutSettings c).within := by
  unfold State.cutSettings; split
  · exact hw
  · exact State.within_store _ _ hw

theorem State.resetBlocks_within (s : State) (cold : Bool) (x : ResetInputs) (hw : s.within) : (s.resetBlocks cold x).within := by
  have h : (((s.cutMemory x.cut).keepRollBegin).cutSettings x.cut).within :=
    State.cutSettings_within _ _ (State.keepRollBegin_within _ (State.cutMemory_within _ _ hw))
  unfold State.resetBlocks; dsimp only
  generalize ((s.cutMemory x.cut).keepRollBegin).cutSettings x.cut = u at h
  refine ⟨?_, Standing.reset_within, Nat.zero_le _, SlipUnit.reset_within, ?_, Nat.zero_le _, Nat.zero_le _, Nat.zero_le _⟩
  · cases cold
    · exact ⟨Nat.zero_le _, Nat.zero_le _, Nat.zero_le _, by simpa using h.line.4, Nat.zero_le _, Nat.zero_le _, Nat.zero_le _⟩
    · exact LineCtl.reset_within
  · intro g hg; cases hg

theorem State.settingsRead_within (s : State) (strap : Bool) (hw : s.within) : (s.settingsRead strap).within := by
  have h : ∀ a b c, State.within { s with settings := a, reckoner := b, port := c } := fun a b c => ⟨hw.1, hw.2, hw.3, hw.4, hw.5, hw.6, hw.7, hw.8⟩
  unfold State.settingsRead; dsimp only; split
  · exact State.stationFault_within _ (h _ _ _)
  · exact State.setMemory_within _ _ (h _ _ _)

theorem State.start_within (s : State) (cold : Bool) (x : ResetInputs) (hw : s.within) : (State.start s cold x).within := by
  unfold State.start; grind [State.resetBlocks_within, State.settingsRead_within]

theorem State.headerDone_within (s : State) (hw : s.within) : (State.headerDone s).within := by
  unfold State.headerDone; grind [State.setMemory_within, State.grant_within, State.memFault_within, State.startReplay_within]

theorem State.headerRead_within (s : State) (hw : s.within) : (State.headerRead s).within := by
  unfold State.headerRead; grind [State.settingsRead_within, State.headerDone_within]

theorem State.freshHeaderEnd_within (s : State) (e : HeaderEnd) (hw : s.within) : (s.freshHeaderEnd e).within := by
  unfold State.freshHeaderEnd; split
  · dsimp only
    have h := State.writeFields_within s (s.opFields .freshHeader) (HeaderEnd.good e ((s.opFields .freshHeader).length + 1)) true hw
    split
    · exact State.grant_within _ (State.startReplay_within _ (State.freePort_within _ (State.within_attached _ _ h)))
    · exact State.memFault_within _ h
  · exact hw

theorem State.mapPort_within (s : State) (f : Port → Port) (hw : s.within) : (State.mapPort s f).within := by
  unfold State.mapPort; grind [State.within_port]

theorem State.reportStatus_within (s : State) (hw : s.within) : (State.reportStatus s).within := by
  unfold State.reportStatus; grind [State.mapPort_within]

theorem State.commandStatus_within (s : State) (hw : s.within) : (State.commandStatus s).within := by
  unfold State.commandStatus; grind [State.reportStatus_within]

theorem State.answer_within (s : State) (r : Reply) (hw : s.within) : (State.answer s r).within := by
  unfold State.answer; grind [State.mapPort_within]

theorem State.openFrame_within (s : State) (hw : s.within) : (State.openFrame s).within := by
  unfold State.openFrame; grind [State.mapPort_within, State.reportStatus_within]

theorem State.badCommand_within (s : State) (hw : s.within) : (State.badCommand s).within := by
  unfold State.badCommand; grind [State.mapPort_within, State.commandStatus_within]

theorem State.resultRead_within (s : State) (l : LaneId) (hw : s.within) : (State.resultRead s l).within := by
  unfold State.resultRead; grind [State.mapLane_within, State.clearCause_within, State.takeSlot_within]

theorem State.clearing_within (s : State) (e : ClearEffect) (hw : s.within) : (State.clearing s e).within := by
  unfold State.clearing; grind [State.clearCause_within, State.setQuery_within, State.nextQuery_within, State.resultRead_within]

theorem State.answered_within (s : State) (hw : s.within) : (State.answered s).within := by
  unfold State.answered; grind [State.mapPort_within, State.clearing_within]

theorem State.release_within (s : State) (b : Bool) (x : ResetInputs) (hw : s.within) : (s.release b x).within := by
  have : ∀ z : Bool, (match s.port.frame with
      | FrameState.restarting => s.start false x
      | _ => s.mapPort fun p => { p with frame := .closed, errorLatch := p.errorLatch || z }).within := by
    intro z; split
    · exact State.start_within _ _ _ hw
    · exact State.mapPort_within _ _ hw
  exact this _

theorem State.endSessionNow_within (s : State) (l : LaneId) (hw : s.within) : (State.endSessionNow s l).within := by
  unfold State.endSessionNow; grind [State.endSession_within, State.takeSlot_within]

theorem laneModeCommand_within (l : LaneId) (mode : Byte) (s : State) (hw : s.within) : (laneModeCommand l mode s).1.within := by
  unfold laneModeCommand; grind [State.changeMode_within, State.takeSlot_within]

theorem laneModeCommand_within_of (l : LaneId) (mode : Byte) (s : State) (u) (ub) (hw : s.within) (h : laneModeCommand l mode s = (u, ub)) : u.within := by
  have h' := laneModeCommand_within l mode s hw
  rw [h] at h'
  exact h'

theorem keyedEntryCommand_within (l : LaneId) (count : Byte) (digits : BitVec 56) (s : State) (hw : s.within) : (keyedEntryCommand l count digits s).1.within := by
  unfold keyedEntryCommand; grind [State.offer_within]

theorem keyedEntryCommand_within_of (l : LaneId) (count : Byte) (digits : BitVec 56) (s : State) (u) (ub) (hw : s.within) (h : keyedEntryCommand l count digits s = (u, ub)) : u.within := by
  have h' := keyedEntryCommand_within l count digits s hw
  rw [h] at h'
  exact h'

theorem endSessionCommand_within (l : LaneId) (s : State) (hw : s.within) : (endSessionCommand l s).1.within := by
  unfold endSessionCommand; grind [State.mapLane_within, State.endSessionNow_within]

theorem endSessionCommand_within_of (l : LaneId) (s : State) (u) (ub) (hw : s.within) (h : endSessionCommand l s = (u, ub)) : u.within := by
  have h' := endSessionCommand_within l s hw
  rw [h] at h'
  exact h'

theorem cancelCommand_within (l : LaneId) (s : State) (hw : s.within) : (cancelCommand l s).1.within := by
  unfold cancelCommand; grind [State.cancelWork_within]

theorem cancelCommand_within_of (l : LaneId) (s : State) (u) (ub) (hw : s.within) (h : cancelCommand l s = (u, ub)) : u.within := by
  have h' := cancelCommand_within l s hw
  rw [h] at h'
  exact h'

theorem readResultCommand_within (l : LaneId) (s : State) (hw : s.within) : (readResultCommand l s).1.within := by
  unfold readResultCommand; grind []

theorem readResultCommand_within_of (l : LaneId) (s : State) (u) (ub) (hw : s.within) (h : readResultCommand l s = (u, ub)) : u.within := by
  have h' := readResultCommand_within l s hw
  rw [h] at h'
  exact h'

theorem State.operationCommand_within (s : State) (t : Txn) (hw : s.within) : (State.operationCommand s t).1.within := by
  unfold State.operationCommand; grind [State.startOperation_within]

theorem State.operationCommand_within_of (s : State) (t : Txn) (u) (ub) (hw : s.within) (h : State.operationCommand s t = (u, ub)) : u.within := by
  have h' := State.operationCommand_within s t hw
  rw [h] at h'
  exact h'

theorem blockCommand_within (op : Operation) (reason : Byte) (borrower : Nat) (s : State) (hw : s.within) : (blockCommand op reason borrower s).1.within := by
  unfold blockCommand; grind [State.start_within, State.operationCommand_within, State.operationCommand_within_of]

theorem blockCommand_within_of (op : Operation) (reason : Byte) (borrower : Nat) (s : State) (u) (ub) (hw : s.within) (h : blockCommand op reason borrower s = (u, ub)) : u.within := by
  have h' := blockCommand_within op reason borrower s hw
  rw [h] at h'
  exact h'

theorem paymentCommand_within (amount borrower : Nat) (s : State) (hw : s.within) : (paymentCommand amount borrower s).1.within := by
  unfold paymentCommand; grind [State.start_within, State.operationCommand_within, State.operationCommand_within_of]

theorem paymentCommand_within_of (amount borrower : Nat) (s : State) (u) (ub) (hw : s.within) (h : paymentCommand amount borrower s = (u, ub)) : u.within := by
  have h' := paymentCommand_within amount borrower s hw
  rw [h] at h'
  exact h'

theorem State.beginLoad_within (s : State)  (hw : s.within) : (s.beginLoad).within := by
  unfold State.beginLoad; dsimp only
  apply State.ask_within; apply State.setMemory_within; apply State.setCopy_within
  exact State.within_foldl _ State.holdAsserted_within _ _ (State.purgeLine_within _ hw)

theorem rollBeginCommand_within (s : State) (hw : s.within) : (rollBeginCommand s).1.within := by
  unfold rollBeginCommand; grind [State.beginLoad_within]

theorem rollBeginCommand_within_of (s : State) (u) (ub) (hw : s.within) (h : rollBeginCommand s = (u, ub)) : u.within := by
  have h' := rollBeginCommand_within s hw
  rw [h] at h'
  exact h'

theorem chunkCommand_within (list : Byte) (first : Nat) (count : Byte) (given : List (List Byte)) (s : State) (hw : s.within) : (chunkCommand list first count given s).1.within := by
  unfold chunkCommand; grind [State.setMemory_within, State.ask_within]

theorem chunkCommand_within_of (list : Byte) (first : Nat) (count : Byte) (given : List (List Byte)) (s : State) (u) (ub) (hw : s.within) (h : chunkCommand list first count given s = (u, ub)) : u.within := by
  have h' := chunkCommand_within list first count given s hw
  rw [h] at h'
  exact h'

theorem rollEndCommand_within (edition roll loans holds : Nat) (s : State) (hw : s.within) : (rollEndCommand edition roll loans holds s).1.within := by
  unfold rollEndCommand; grind [State.setMemory_within, State.ask_within]

theorem rollEndCommand_within_of (edition roll loans holds : Nat) (s : State) (u) (ub) (hw : s.within) (h : rollEndCommand edition roll loans holds s = (u, ub)) : u.within := by
  have h' := rollEndCommand_within edition roll loans holds s hw
  rw [h] at h'
  exact h'

theorem journalQueryCommand_within (field comparison : Byte) (value : BitVec 40) (step : Byte) (s : State) (hw : s.within) : (journalQueryCommand field comparison value step s).1.within := by
  unfold journalQueryCommand; grind [State.detachAsked_within, State.setQuery_within, State.nextQuery_within]

theorem journalQueryCommand_within_of (field comparison : Byte) (value : BitVec 40) (step : Byte) (s : State) (u) (ub) (hw : s.within) (h : journalQueryCommand field comparison value step s = (u, ub)) : u.within := by
  have h' := journalQueryCommand_within field comparison value step s hw
  rw [h] at h'
  exact h'

theorem queryNextCommand_within (s : State) (hw : s.within) : (queryNextCommand s).1.within := by
  unfold queryNextCommand; grind []

theorem queryNextCommand_within_of (s : State) (u) (ub) (hw : s.within) (h : queryNextCommand s = (u, ub)) : u.within := by
  have h' := queryNextCommand_within s hw
  rw [h] at h'
  exact h'

theorem setClockCommand_within (day minute second : Nat) (s : State) (hw : s.within) : (setClockCommand day minute second s).1.within := by
  unfold setClockCommand; grind [State.takeClock_within]

theorem setClockCommand_within_of (day minute second : Nat) (s : State) (u) (ub) (hw : s.within) (h : setClockCommand day minute second s = (u, ub)) : u.within := by
  have h' := setClockCommand_within day minute second s hw
  rw [h] at h'
  exact h'

theorem uploadNowCommand_within (s : State) (hw : s.within) : (uploadNowCommand s).1.within := by
  unfold uploadNowCommand; grind [State.makeCall_within]

theorem uploadNowCommand_within_of (s : State) (u) (ub) (hw : s.within) (h : uploadNowCommand s = (u, ub)) : u.within := by
  have h' := uploadNowCommand_within s hw
  rw [h] at h'
  exact h'

theorem resumeLineCommand_within (s : State) (hw : s.within) : (resumeLineCommand s).1.within := by
  unfold resumeLineCommand
  exact State.mapLine_within s (fun x => { x with
    collisions := 0, listenOnly := false, awaitIdle := x.awaitIdle || x.listenOnly }) ⟨hw.line.1, hw.line.2, hw.line.3, hw.line.4, Nat.zero_le _, hw.line.6, hw.line.7⟩ hw

theorem readPeerCommand_within (station : Nat) (s : State) (hw : s.within) : (readPeerCommand station s).1.within := by
  unfold readPeerCommand; grind []

theorem readPeerCommand_within_of (station : Nat) (s : State) (u) (ub) (hw : s.within) (h : readPeerCommand station s = (u, ub)) : u.within := by
  have h' := readPeerCommand_within station s hw
  rw [h] at h'
  exact h'

theorem identifyCommand_within (s : State) (hw : s.within) : (identifyCommand s).1.within := by
  unfold identifyCommand; grind []

theorem identifyCommand_within_of (s : State) (u) (ub) (hw : s.within) (h : identifyCommand s = (u, ub)) : u.within := by
  have h' := identifyCommand_within s hw
  rw [h] at h'
  exact h'

theorem readStatusCommand_within (s : State) (hw : s.within) : (readStatusCommand s).1.within := by
  unfold readStatusCommand; grind []

theorem readStatusCommand_within_of (s : State) (u) (ub) (hw : s.within) (h : readStatusCommand s = (u, ub)) : u.within := by
  have h' := readStatusCommand_within s hw
  rw [h] at h'
  exact h'

theorem takeAttentionCommand_within (s : State) (hw : s.within) : (takeAttentionCommand s).1.within := by
  unfold takeAttentionCommand; grind []

theorem takeAttentionCommand_within_of (s : State) (u) (ub) (hw : s.within) (h : takeAttentionCommand s = (u, ub)) : u.within := by
  have h' := takeAttentionCommand_within s hw
  rw [h] at h'
  exact h'

theorem setEnablesCommand_within (enables : BitVec 16) (s : State) (hw : s.within) : (setEnablesCommand enables s).1.within := by
  unfold setEnablesCommand; grind [State.mapPort_within]

theorem setEnablesCommand_within_of (enables : BitVec 16) (s : State) (u) (ub) (hw : s.within) (h : setEnablesCommand enables s = (u, ub)) : u.within := by
  have h' := setEnablesCommand_within enables s hw
  rw [h] at h'
  exact h'

theorem inquireBorrowerCommand_within (b : Nat) (s : State) (hw : s.within) : (inquireBorrowerCommand b s).1.within := by
  unfold inquireBorrowerCommand; grind []

theorem inquireBorrowerCommand_within_of (b : Nat) (s : State) (u) (ub) (hw : s.within) (h : inquireBorrowerCommand b s = (u, ub)) : u.within := by
  have h' := inquireBorrowerCommand_within b s hw
  rw [h] at h'
  exact h'

theorem inquireItemCommand_within (n : Nat) (s : State) (hw : s.within) : (inquireItemCommand n s).1.within := by
  unfold inquireItemCommand; grind []

theorem inquireItemCommand_within_of (n : Nat) (s : State) (u) (ub) (hw : s.within) (h : inquireItemCommand n s = (u, ub)) : u.within := by
  have h' := inquireItemCommand_within n s hw
  rw [h] at h'
  exact h'

theorem State.setReckoner_within (s : State) (r : Reckoner) (hw : s.within) : (State.setReckoner s r).within := by
  unfold State.setReckoner; grind [State.within_reckoner]

theorem stagePart_within (f : RuleSet → Option RuleSet) (s : State) (hw : s.within) : (stagePart f s).1.within := by
  unfold stagePart; grind [State.setReckoner_within]

theorem stagePart_within_of (f : RuleSet → Option RuleSet) (s : State) (u) (ub) (hw : s.within) (h : stagePart f s = (u, ub)) : u.within := by
  have h' := stagePart_within f s hw
  rw [h] at h'
  exact h'

theorem discardStaged_within (s : State) (hw : s.within) : (discardStaged s).1.within := by
  unfold discardStaged; grind [State.setReckoner_within]

theorem discardStaged_within_of (s : State) (u) (ub) (hw : s.within) (h : discardStaged s = (u, ub)) : u.within := by
  have h' := discardStaged_within s hw
  rw [h] at h'
  exact h'

theorem holidayAdd_within (day : Nat) (s : State) (hw : s.within) : (holidayAdd day s).1.within := by
  unfold holidayAdd; grind [stagePart_within, stagePart_within_of]

theorem holidayAdd_within_of (day : Nat) (s : State) (u) (ub) (hw : s.within) (h : holidayAdd day s = (u, ub)) : u.within := by
  have h' := holidayAdd_within day s hw
  rw [h] at h'
  exact h'

theorem applyNowCommand_within (s : State) (hw : s.within) : (applyNowCommand s).1.within := by
  unfold applyNowCommand; grind [State.activate_within, State.testOneShot_within]

theorem applyNowCommand_within_of (s : State) (u) (ub) (hw : s.within) (h : applyNowCommand s = (u, ub)) : u.within := by
  have h' := applyNowCommand_within s hw
  rw [h] at h'
  exact h'

theorem readSettingCommand_within (n : Nat) (s : State) (hw : s.within) : (readSettingCommand n s).1.within := by
  unfold readSettingCommand; grind []

theorem readSettingCommand_within_of (n : Nat) (s : State) (u) (ub) (hw : s.within) (h : readSettingCommand n s = (u, ub)) : u.within := by
  have h' := readSettingCommand_within n s hw
  rw [h] at h'
  exact h'

theorem State.mapSettings_within (s : State) (f : SettingsCtl → SettingsCtl) (hw : s.within) : (State.mapSettings s f).within := by
  unfold State.mapSettings; grind [State.within_settings]

theorem writeSettingCommand_within (n v : Nat) (s : State) (hw : s.within) : (writeSettingCommand n v s).1.within := by
  unfold writeSettingCommand; grind [State.mapSettings_within]

theorem writeSettingCommand_within_of (n v : Nat) (s : State) (u) (ub) (hw : s.within) (h : writeSettingCommand n v s = (u, ub)) : u.within := by
  have h' := writeSettingCommand_within n v s hw
  rw [h] at h'
  exact h'

theorem commitSettingsCommand_within (s : State) (hw : s.within) : (commitSettingsCommand s).1.within := by
  unfold commitSettingsCommand; grind [State.mapSettings_within]

theorem commitSettingsCommand_within_of (s : State) (u) (ub) (hw : s.within) (h : commitSettingsCommand s = (u, ub)) : u.within := by
  have h' := commitSettingsCommand_within s hw
  rw [h] at h'
  exact h'

theorem State.cycleDone_within (s : State) (e : SettingsEnd) (hw : s.within) : (s.cycleDone e).within := by
  unfold State.cycleDone; split
  · exact hw
  · dsimp only
    repeat' split
    all_goals exact ⟨hw.1, hw.2, hw.3, hw.4, hw.5, hw.6, hw.7, hw.8⟩

theorem State.takeWarmRestart_within (s : State) (hw : s.within) : (State.takeWarmRestart s).within := by
  unfold State.takeWarmRestart; grind [State.mapPort_within, State.commandStatus_within, State.answer_within]

theorem State.mapSlips_within (s : State) (f : SlipUnit → SlipUnit) (h : (f s.slips).within) (hw : s.within) : (s.mapSlips f).within := by
  exact State.within_slips s _ h hw

theorem State.warmed_within (s : State) (hw : s.within) : (State.warmed s).within := by
  unfold State.warmed; grind [State.setWarmTimer_within, State.startPrint_within, State.settleUnload_within]

theorem State.unloaded_within (s : State) (hw : s.within) : (State.unloaded s).within := by
  unfold State.unloaded; grind [State.setPrinter_within, State.setUnloadTimer_within]

theorem State.printed_within (s : State) (hw : s.within) : (State.printed s).within := by
  unfold State.printed; grind [State.setSlip_within, State.setQueue_within, State.startPrint_within, State.settleUnload_within]

theorem State.stopPrinter_within (s : State) (hw : s.within) : (State.stopPrinter s).within := by
  unfold State.stopPrinter; grind [State.setSlip_within, State.setWarmTimer_within, State.setUnloadTimer_within]

theorem State.align_within (s : State)  (hw : s.within) : (s.align).within := by
  have h := State.setPrinter_within s .aligning hw
  exact State.mapSlips_within _ _ ⟨h.slips.1, h.slips.2, h.slips.3⟩ h

theorem State.halt_within (s : State) (hw : s.within) : (State.halt s).within := by
  unfold State.halt; grind [State.latch_within, State.setPrinter_within, State.stopPrinter_within]

theorem State.sensed_within (s : State) (x : PrinterLevel) (hw : s.within) : (s.sensed x).within := by
  unfold State.sensed; split
  · have h : (s.mapSlips fun u => SlipUnit.levels u x).within := by
      refine State.mapSlips_within _ _ ?_ hw
      cases x <;> exact ⟨hw.slips.1, hw.slips.2, hw.slips.3⟩
    dsimp only
    generalize (s.mapSlips fun u => SlipUnit.levels u x) = u at h
    repeat' split
    all_goals first | exact h | exact State.align_within _ h | exact State.align_within _ (State.stopPrinter_within _ h) | exact State.halt_within _ h
  · exact hw

theorem State.alignOne_within (s : State) (mark : Bool) (hw : s.within) : (s.alignOne mark).within := by
  unfold State.alignOne; split
  · have h : (s.mapSlips fun u => { u with alignSteps := u.alignSteps + 1 }).within := State.mapSlips_within _ _ ⟨hw.slips.1, hw.slips.2, hw.slips.3⟩ hw
    dsimp only
    generalize (s.mapSlips fun u => { u with alignSteps := u.alignSteps + 1 }) = u at h
    repeat' split
    · exact State.settlePrinter_within _ (State.setPrinter_within _ _ h)
    · exact State.latch_within _ _ (State.setPrinter_within _ _ h)
    · exact h
  · exact hw

theorem State.padSensed_within (s : State) (p : PadId) (b : Bool) (hw : s.within) : (s.padSensed p b).within := by
  have hp := State.pad_within s p hw
  unfold State.padSensed; split
  · exact State.setPad_within _ _ _ hp hw
  · exact hw

theorem State.pulseEnded_within (s : State) (p : PadId) (hw : s.within) : (s.pulseEnded p).within := by
  have hp := State.pad_within s p hw
  unfold State.pulseEnded; dsimp only; split
  · exact hw
  · exact State.setPad_within _ _ _ hp hw
  · rename_i h; exact State.setPad_within _ _ _ (by rw [h] at hp; simp at hp ⊢; omega) hw

theorem State.idleExpired_within (s : State) (l : LaneId) (hw : s.within) : (State.idleExpired s l).within := by
  unfold State.idleExpired; grind [State.mapLane_within, State.endSessionNow_within]

theorem State.blockWaitExpired_within (s : State) (l : LaneId) (hw : s.within) : (State.blockWaitExpired s l).within := by
  unfold State.blockWaitExpired; grind [State.mapLane_within, State.mapTxn_within, State.markWithdrawn_within, State.endTxn_within]

theorem State.trapWaitExpired_within (s : State) (l : LaneId) (hw : s.within) : (State.trapWaitExpired s l).within := by
  unfold State.trapWaitExpired; grind [State.mapLane_within, State.mapTxn_within, State.markWithdrawn_within, State.abandonTrap_within, State.returnOn_within]

theorem State.carrierBegins_within (s : State)  (hw : s.within) : (s.carrierBegins).within := by
  unfold State.carrierBegins; split
  · exact State.mapLine_within _ _ ⟨hw.line.1, hw.line.2, hw.line.3, hw.line.4, hw.line.5, hw.line.6, hw.line.7⟩ hw
  · exact hw

theorem State.lineQuiet_within (s : State)  (hw : s.within) : (s.lineQuiet).within := by
  unfold State.lineQuiet; split
  · exact State.mapLine_within _ _ ⟨hw.line.1, hw.line.2, hw.line.3, hw.line.4, hw.line.5, hw.line.6, hw.line.7⟩ hw
  · exact hw

theorem State.take_within (s : State) (n : Nat) (f : State → State × Reply) (hf : ∀ s : State, s.within → (f s).1.within) (hw : s.within) :
    (s.take n f).within := by
  unfold State.take; split
  · dsimp only; split
    · exact State.answer_within _ _ (hf _ (State.commandStatus_within s hw))
    · exact State.answer_within _ _ (State.commandStatus_within s hw)
  · exact hw

theorem settingsCommand_within (b : State → List Byte) (f : State → State × Reply) (hf : ∀ s : State, s.within → (f s).1.within) (s : State) (hw : s.within) :
    (settingsCommand b f s).1.within := by
  unfold settingsCommand; split
  · exact hw
  · exact hf s hw

theorem stageCommand_within (f : State → State × Reply) (hf : ∀ s : State, s.within → (f s).1.within) (s : State) (hw : s.within) :
    (stageCommand f s).1.within := settingsCommand_within _ f hf s hw

theorem withLane_within (b : Byte) (n : Nat) (f : LaneId → State → State × Reply) (hf : ∀ l, ∀ s : State, s.within → (f l s).1.within) (s : State) (hw : s.within) :
    (withLane b n f s).1.within := by
  unfold withLane; split
  · exact hw
  · exact hf _ s hw

theorem withNumber_within (x : BitVec 48) (n : Nat) (f : Nat → State → State × Reply) (hf : ∀ k, ∀ s : State, s.within → (f k s).1.within) (s : State) (hw : s.within) :
    (withNumber x n f s).1.within := by
  unfold withNumber; split
  · exact hw
  · exact hf _ s hw

end Sys2Proof.Machine
end

