-- ==== Sys2Proof/Laws/Port.lean ====
section
/-! SUPPORT. Laws/Port.lean: what a taken command of the desk port leaves in the state (R178 to R180). -/

namespace Sys2Proof.Machine

/-- Taking the command byte changes nothing but the port. -/
theorem State.commandStatus_eq (s : State) : s.commandStatus = { s with port := s.commandStatus.port } := by
  unfold State.commandStatus State.reportStatus State.mapPort; split <;> rfl

/-- A command that the port serves runs its rule on the state with the fresh status byte, and answers. -/
theorem State.take_serves (s : State) (n : Nat) (f : State → State × Reply) (h : s.serves = true) :
    s.take n f = (f s.commandStatus).1.answer (f s.commandStatus).2 := by
  have h1 : s.takesCommand = true ∧ s.port.ready = true := by simpa [State.serves] using h
  have h2 : s.commandStatus.port.ready = s.port.ready := by
    unfold State.commandStatus State.reportStatus State.mapPort; split <;> rfl
  unfold State.take; simp [h1.1, h2, h1.2]

/-- While Ready is clear a command is answered BUSY. -/
theorem State.take_notReady (s : State) (n : Nat) (f : State → State × Reply) (h : s.takesCommand = true)
    (hr : s.port.ready = false) : s.take n f = s.commandStatus.answer (busyReply n) := by
  have h2 : s.commandStatus.port.ready = s.port.ready := by
    unfold State.commandStatus State.reportStatus State.mapPort; split <;> rfl
  unfold State.take; simp [h, h2, hr]

/-- The answer changes nothing but the port. -/
theorem State.answer_eq (s : State) (r : Reply) : s.answer r = s.replied (r.code :: r.bytes) r.effect := rfl

/-- An answer right after the command byte leaves the port as `portAfter` says. -/
theorem State.commandStatus_replied (s : State) (a : List Byte) (e : ClearEffect) :
    s.commandStatus.replied a e = { s with port := s.portAfter a e } := by
  rw [State.replied, State.commandStatus_eq]; rfl

/-! What the command byte leaves of the other blocks. -/

@[simp] theorem State.commandStatus_lane (s : State) (l : LaneId) : s.commandStatus.lane l = s.lane l := by
  rw [State.commandStatus_eq]; cases l <;> rfl
@[simp] theorem State.commandStatus_station (s : State) : s.commandStatus.station = s.station := by
  rw [State.commandStatus_eq]
@[simp] theorem State.commandStatus_laneA (s : State) : s.commandStatus.laneA = s.laneA := by
  rw [State.commandStatus_eq]
@[simp] theorem State.commandStatus_laneB (s : State) : s.commandStatus.laneB = s.laneB := by
  rw [State.commandStatus_eq]
@[simp] theorem State.commandStatus_reckoner (s : State) : s.commandStatus.reckoner = s.reckoner := by
  rw [State.commandStatus_eq]
@[simp] theorem State.commandStatus_standing (s : State) : s.commandStatus.standing = s.standing := by
  rw [State.commandStatus_eq]
@[simp] theorem State.commandStatus_overlay (s : State) : s.commandStatus.overlay = s.overlay := by
  rw [State.commandStatus_eq]
@[simp] theorem State.commandStatus_traps (s : State) : s.commandStatus.traps = s.traps := by
  rw [State.commandStatus_eq]
@[simp] theorem State.commandStatus_line (s : State) : s.commandStatus.line = s.line := by
  rw [State.commandStatus_eq]
@[simp] theorem State.commandStatus_memory (s : State) : s.commandStatus.memory = s.memory := by
  rw [State.commandStatus_eq]
@[simp] theorem State.commandStatus_attached (s : State) : s.commandStatus.attached = s.attached := by
  rw [State.commandStatus_eq]
@[simp] theorem State.commandStatus_slips (s : State) : s.commandStatus.slips = s.slips := by
  rw [State.commandStatus_eq]
@[simp] theorem State.commandStatus_clock (s : State) : s.commandStatus.clock = s.clock := by
  rw [State.commandStatus_eq]
@[simp] theorem State.commandStatus_upload (s : State) : s.commandStatus.upload = s.upload := by
  rw [State.commandStatus_eq]
@[simp] theorem State.commandStatus_settings (s : State) : s.commandStatus.settings = s.settings := by
  rw [State.commandStatus_eq]
@[simp] theorem State.commandStatus_pending (s : State) : s.commandStatus.port.pending = s.port.pending := by
  unfold State.commandStatus State.reportStatus State.mapPort; split <;> rfl
@[simp] theorem State.commandStatus_enabled (s : State) : s.commandStatus.port.enabled = s.port.enabled := by
  unfold State.commandStatus State.reportStatus State.mapPort; split <;> rfl
@[simp] theorem State.commandStatus_ready (s : State) : s.commandStatus.port.ready = s.port.ready := by
  unfold State.commandStatus State.reportStatus State.mapPort; split <;> rfl

end Sys2Proof.Machine
end

