-- ==== Sys2Proof/Certificates/Slice0/Obligations.lean ====
section
/-! DEFINITION. Certificates/Slice0/Obligations.lean: the statements about the part, chapter by chapter. -/

open Sys2Proof Sys2Proof.Machine

/-! ## The block and its invariants -/

/-- One step takes the command at the front of the queue and runs it on the rest. (The queue is the model's own:
assumption 4.) -/
def Obligations.StepRunsTheFrontCommand : Prop :=
  ∀ (c : Instr) (s : State),
    step { s with pending := c :: s.pending } = exec c s

/-- A command's effect falls on everything but the queue: whatever waits, waits on (the block's own rule for its
queue, INVENTORY.md, Agents). (The queue is the model's own: assumption 4.) -/
def Obligations.ExecLeavesTheQueue : Prop :=
  ∀ (c : Instr) (s t : State), exec c s = .next t → t.pending = s.pending

/-- Every step keeps the attached memory's byte list in its canonical form. (The form is the model's own:
assumption 2.) -/
def Obligations.StepKeepsMemoryCanonical : Prop :=
  ∀ s t : State, s.memoryCanonical → step s = .next t → t.memoryCanonical

/-- Every step keeps the standing table and its parked records, the overlay with its set-aside rooms, the trap
table, the transmit queues, the peer records and saturating counts, the slip records, the pads' waiting pulses, the
uplink queue and the element buffers within their capacities (R7, R66, R72, R87, R89, R96, R108, R114, R144, R156,
R173). That the peer table has 16 places, the own one unused, is the model's choice (assumption 27). -/
def Obligations.StepKeepsTablesWithinCapacity : Prop :=
  ∀ s t : State, s.within → step s = .next t → t.within

/-- The state after power-on has both invariants, with the station in STARTING, both lanes CLOSED in RETURN mode,
and every cause enabled but PEER (R45, R127, R158, R189). The model's own choices are the blank memory and its
canonical form (assumptions 1 and 2), the empty queue (assumption 4) and the 16 peer places (assumption 27). -/
def Obligations.ResetHoldsTheInvariants : Prop :=
  State.reset.memoryCanonical ∧ State.reset.within ∧ State.reset.station = .starting ∧ State.reset.pending = [] ∧
    (∀ l, (State.reset.lane l).state = .closed ∧ (State.reset.lane l).mode = .ret) ∧
    State.reset.port.ready = false ∧ State.reset.port.enabled = 0b01111111111#11 ∧ State.reset.port.pending = 0#11

/-! ## The desk port (chapter 10) -/

/-- Frames of the desk port (R178, R179): select opens a frame with the port status byte, which clears the error
latch it reports; a command byte outside the table puts the frame into the error state; and a release sets the
error latch when no command was taken in the frame, or a further one had begun. -/
def Obligations.FramesOpenEndAndLatchErrors : Prop :=
  (∀ s : State, s.port.frame = .closed →
    exec .selectActive s = .next { s with
      port := { s.port with status := s.statusByte, errorLatch := false, frame := .opened } }) ∧
  (∀ (b : Byte) (s : State), outsideCommandTable b = true → s.takesCommand = true →
    exec (.errorState b) s = .next { s with
      port := { s.commandStatus.port with frame := .error, errorLatch := true, answer := [] } }) ∧
  (∀ (x : ResetInputs) (s : State), s.port.frame = .opened → ∀ begun,
    exec (.selectRelease begun x) s = .next { s with port := { s.port with frame := .closed, errorLatch := true } }) ∧
  (∀ (x : ResetInputs) (s : State), (s.port.frame = .further ∨ s.port.frame = .answering .none) → ∀ begun,
    exec (.selectRelease begun x) s = .next { s with
      port := { s.port with frame := .closed, errorLatch := s.port.errorLatch || begun } }) ∧
  (∀ (x : ResetInputs) (s : State), (s.port.frame = .error ∨ ∃ e, e ≠ .none ∧ s.port.frame = .answering e) → ∀ begun,
    exec (.selectRelease begun x) s = .next { s with port := { s.port with frame := .closed } })

/-- The status byte of a taken command: the one clocked out at select for the first command of a frame, a fresh one
for each further command, with Ready, Attention pending, Error and the station state in its bits (R178). While
Ready is clear every command is answered BUSY with all answer bytes 0 and nothing is executed (R178): one command
of each answer length. TAKE ATTENTION answers the highest-priority cause that is pending and enabled, code 1 being
the highest, and leaves its clearing to the last answer byte; with none it answers 0 (R182, R183). SET ENABLES
replaces all eleven enables at once, ignoring bits 11 to 15, and clears no cause (R183). -/
def Obligations.PortStatusAndAttention : Prop :=
  (∀ s : State, s.port.frame = .opened → s.commandStatus = s) ∧
  (∀ s : State, s.port.frame ≠ .opened →
    s.commandStatus = { s with port := { s.port with status := s.statusByte, errorLatch := false } }) ∧
  (∀ s : State,
    s.statusByte.getLsbD 0 = s.port.ready ∧ s.statusByte.getLsbD 1 = (s.port.pending &&& s.port.enabled != 0#11) ∧
      s.statusByte.getLsbD 2 = s.port.errorLatch ∧
      (s.statusByte >>> 3 = match s.station with
        | .starting => 0
        | .replaying => 1
        | .gathering => 2
        | .ready => 3
        | .fault => 4)) ∧
  (∀ s : State, s.takesCommand = true → s.port.ready = false →
      let busy := fun (n : Nat) => Host.Outcome.next (φ := Fault) (ρ := Refusal)
        { s with port := s.portAfter (1#8 :: List.replicate n 0#8) .none }
      (∀ l m, exec (.laneMode l m) s = busy 0) ∧ exec .takeAttention s = busy 1 ∧
      (∀ c, exec (.stageRuleClosure c) s = busy 1) ∧ (∀ n, exec (.readSetting n) s = busy 4) ∧
      (∀ e r l h, exec (.rollEnd e r l h) s = busy 5) ∧ exec .identify s = busy 6 ∧
      (∀ n, exec (.readPeer n) s = busy 11) ∧ (∀ i, exec (.inquireItem i) s = busy 27) ∧ exec .queryNext s = busy 33 ∧
      (∀ l, exec (.readResult l) s = busy 36) ∧ exec .readStatus s = busy 37 ∧ exec .warmRestart s = busy 0) ∧
  (∀ (k : Nat) (s : State), s.serves = true → 1 ≤ k → k ≤ 11 →
    (s.port.pending &&& s.port.enabled).getLsbD (k - 1) = true →
    (∀ j, 1 ≤ j → j < k → (s.port.pending &&& s.port.enabled).getLsbD (j - 1) = false) →
    exec .takeAttention s = .next { s with port := s.portAfter [0#8, byteOf k] (.attention k) }) ∧
  (∀ s : State, s.serves = true → s.port.pending &&& s.port.enabled = 0#11 →
    exec .takeAttention s = .next { s with port := s.portAfter [0#8, 0#8] .none }) ∧
  (∀ (x : BitVec 16) (s : State), s.serves = true →
      exec (.setEnables x) s = .next { s with port := { s.portAfter [0#8] .none with enabled := x.setWidth 11 } })

/-- READ RESULT answers an unread record with its 36 bytes and clears nothing yet; with nothing unread it is
REFUSED(NO_RESULT), reason 12, with zero bytes (R44, R178). The 36 bytes of a result record (R44): lane, operation,
class, reason, flags, presence, mode and block reason set by their codes, then the optional fields, 0 where absent,
numbers most significant byte first and signed ones in two's complement. The three clearing effects are made when
the last answer byte has been clocked, and every other answer ends with the frame ready for a further command
(R178, R183, R140). -/
def Obligations.ReadResultAndClearingEffects : Prop :=
  (∀ (b : Byte) (l : LaneId) (s : State), s.serves = true → laneOfByte b = some l →
      ((s.lane l).unread = true →
        exec (.readResult b) s = .next { s with port := s.portAfter (0#8 :: (s.lane l).result.bytes) (.result l) } ∧
          (s.lane l).result.bytes.length = 36) ∧
      ((s.lane l).unread = false →
        exec (.readResult b) s = .next { s with port := s.portAfter (0x8C#8 :: List.replicate 36 0#8) .none })) ∧
  (∀ r : Result,
      let b := r.bytes
      let bits := fun (i : Nat) (l : List Bool) => ∀ k f, l[k]? = some f → (natAt b i 1).testBit k = f
      let digits := fun (i n : Nat) => ∀ k < 12, natAt b (i + k / 2) 1 / 16 ^ (1 - k % 2) % 16 = n / 10 ^ (11 - k) % 10
      b.length = 36 ∧ natAt b 0 1 = (match r.lane with
        | .a => 0
        | .b => 1) ∧
      [Operation.none, .borrowerCheck, .lend, .ret, .renew, .inquire, .block, .lift, .payment, .command, .label][natAt b 1 1]?
        = some r.operation ∧
      [ResultClass.none, .done, .refused, .failed, .invalid, .cancelled][natAt b 2 1]? = some r.cls ∧
      [Reason.none, .unknownBorrower, .noSession, .onLoan, .onLoanSame, .notForLoan, .classNotAllowed, .blocked, .limit,
        .cardExpired, .noDueDay, .cardExpiring, .tooLate, .closedToday, .notOnLoan, .notBorrowers, .renewLimit, .onHold,
        .tableFull, .notReady, .noRoll, .noClock, .journalFull, .stampsExhausted, .memoryFault, .lookupFault, .lineBusy,
        .fault, .wrongMode, .badKind, .badCommand, .nothingToCancel, .notFound][natAt b 3 1]? = some r.reason ∧
      bits 4 [r.flags.warning, r.flags.noSlip, r.flags.notOnPad, r.flags.holdTrapped, r.flags.holdUnconfirmed,
        r.flags.holdNotChecked, false, false] ∧
      bits 5 [r.borrower.isSome, r.item.isSome, r.due.isSome, r.amount.isSome, r.balance.isSome, r.count.isSome,
        r.renewCount.isSome, false] ∧
      [LaneMode.lend, .ret, .renew, .inquire][natAt b 6 1]? = some r.mode ∧
      bits 7 [r.blocks.lost, r.blocks.staff, r.blocks.fines, r.blocks.expired, false, false, false, false] ∧
      digits 8 (r.borrower.getD 0) ∧ digits 14 (r.item.getD 0) ∧ natAt b 20 2 = (r.due.getD (0, 0)).1 % 65536 ∧
      natAt b 22 2 = (r.due.getD (0, 0)).2 % 65536 ∧ natAt b 24 4 = r.amount.getD 0 % 2 ^ 32 ∧
      (-2 ^ 31 ≤ r.balance.getD 0 → r.balance.getD 0 < 2 ^ 31 → intOf (bytesAt b 28 4) = r.balance.getD 0) ∧
      (-2 ^ 15 ≤ (r.count.getD (0, 0)).1 → (r.count.getD (0, 0)).1 < 2 ^ 15 →
        intOf (bytesAt b 32 2) = (r.count.getD (0, 0)).1) ∧
      natAt b 34 1 = (r.count.getD (0, 0)).2 % 256 ∧ natAt b 35 1 = r.renewCount.getD 0 % 256) ∧
  (∀ s : State, s.port.frame = .answering .none →
    exec .answerComplete s = .next { s with port := { s.port with frame := .further } }) ∧
  (∀ (k : Nat) (s : State), s.port.frame = .answering (.attention k) →
    exec .answerComplete s = .next { s with
      port := { s.port with frame := .further, pending := s.port.pending &&& ~~~ (1#11 <<< (k - 1)) } }) ∧
  (∀ s : State, s.port.frame = .answering .query → s.memory.query.state = .ended →
    exec .answerComplete s = .next { s with
      port := { s.port with frame := .further }
      memory := { s.memory with query := { s.memory.query with buffer := none } } }) ∧
  (∀ (l : LaneId) (s : State), s.port.frame = .answering (.result l) → (s.lane l).unread = true →
    (s.lane l).slot = none → (s.lane l).state = .reporting →
    ∃ t, exec .answerComplete s = .next t ∧
      t.lane l = { s.lane l with
        unread := false, state := if (s.lane l).session.isSome then .session else .idle } ∧
      t.lane (otherLane l) = s.lane (otherLane l) ∧
      t = { s with laneA := t.laneA, laneB := t.laneB, port := { s.port with
        frame := .further, pending := s.port.pending &&& ~~~ (1#11 <<< (causeResult l - 1)) } })

/-- IDENTIFY, READ STATUS and READ PEER change nothing but the port, and answer what they show (R121, R181): the
part number 3140, the station number, the plan, the strap and the port format, 1; 37 status bytes; and the 11 bytes
of a peer's record. The 37 status bytes show every block as it stands (R181), and the 11 bytes of READ PEER the
peer's record (R121). INQUIRE BORROWER and INQUIRE ITEM with decimal digits answer a view of the tables and change
nothing but the port: all zero bytes where the table holds nothing (R84, R104); a half-byte above 9 is
REFUSED(BAD_ENTRY), reason 9 (R180). The views of INQUIRE BORROWER and INQUIRE ITEM where the tables hold the
borrower, the item or a trap of it (R84, R104): every field of the entry, of the item's loan state and of its trap
record, 0 for the loan of an item that is IN. One trap record names the item. (That the entry counts are 0 with no
gateway session is the model's reading: assumption 29.) -/
def Obligations.StatusAndInquiriesOnlyAnswer : Prop :=
  (∀ s : State, s.serves = true →
    let answer := [0#8, 0x0C#8, 0x44#8, byteOf s.number, byteOf s.oneLane.toNat, byteOf s.settings.strap.toNat, 1#8]
    exec .identify s = .next { s with port := s.portAfter answer .none }) ∧
  (∀ s : State, s.serves = true →
    exec .readStatus s = .next { s with port := s.portAfter (0#8 :: s.statusBytes) .none } ∧
      s.statusBytes.length = 37) ∧
  (∀ (b : Byte) (s : State), s.serves = true → b.toNat < 16 → b.toNat ≠ s.number →
    exec (.readPeer b) s = .next { s with port := s.portAfter (0#8 :: (s.peer b.toNat).view) .none } ∧
      (s.peer b.toNat).view.length = 11) ∧
  (∀ (b : Byte) (s : State), s.serves = true → (16 ≤ b.toNat ∨ b.toNat = s.number) →
    exec (.readPeer b) s = .next { s with port := s.portAfter (0x89#8 :: List.replicate 11 0#8) .none }) ∧
  (∀ s : State,
    let b := s.statusBytes
    let x := s.upload.sender
    let bits := fun (i : Nat) (l : List Bool) => ∀ k f, l[k]? = some f → (natAt b i 1).testBit k = f
    let lane := fun (i : Nat) (c : LaneCtl) =>
      [LaneState.closed, .idle, .checking, .session, .working, .reporting][natAt b i 1 % 8]? = some c.state ∧
      [LaneMode.lend, .ret, .renew, .inquire][natAt b i 1 / 16 % 4]? = some c.mode ∧
      (natAt b i 1).testBit 6 = c.slot.isSome ∧ (natAt b i 1).testBit 7 = c.session.isSome
    let counted := fun (p : GatewayState → Bool) => match s.upload.gateway with
      | none => 0
      | some g => (g.entries.filter fun e => p e.state).length
    [StationState.starting, .replaying, .gathering, .ready, .fault][natAt b 0 1]? = some s.station ∧
    natAt b 1 1 = s.number ∧ natAt b 2 1 = s.memory.copies.edition % 256 ∧
    bits 3 [s.clock.set, s.standing.incomplete, s.line.restateOwed, s.line.listenOnly, s.memory.faulted,
      s.settings.cycle.isSome, s.settings.lastFailed, s.settings.strap] ∧
    natAt b 4 2 = s.clock.day % 65536 ∧ natAt b 6 2 = s.clock.minute % 65536 ∧ lane 8 s.laneA ∧ lane 9 s.laneB ∧
    natAt b 10 2 = (s.memory.copies.head - s.memory.copies.tail) % 65536 ∧ natAt b 12 2 = s.line.stamps % 65536 ∧
    natAt b 14 1 = (s.slips.queue.length + 16 * (s.slips.slips.filter (·.state == .free)).length) % 256 ∧
    [PrinterState.off, .warming, .idleWarm, .printing, .aligning, .halted, .fault][natAt b 15 1]? = some s.slips.printer ∧
    natAt b 16 1 % 4 = (match s.reckoner.staged with
      | none => 0
      | some _ => if s.reckoner.recorded then 2 else 1) ∧
    (natAt b 16 1).testBit 2 = s.clock.armed ∧
    [SenderState.idle, .calling, .settling, .beginning, .reading, .sending][natAt b 17 1 % 16]? = some x.state ∧
    natAt b 17 1 / 16 = (match x.outcome with
      | .none => 0
      | .complete => 1
      | .noGateway => 2
      | .incomplete => 3
      | .refused _ => 4
      | .fault => 5) ∧
    natAt b 18 1 = (match x.outcome with
      | .refused k => k % 256
      | _ => 0) ∧
    natAt b 19 1 = x.gateway.getD 255 % 256 ∧ natAt b 20 2 = x.receipted % 65536 ∧
    natAt b 22 1 = (if s.upload.gateway.isSome then 1 else 0) ∧
    natAt b 23 1 = counted (· == .done) % 256 ∧
    natAt b 24 1 = counted (fun y => y == .gone .late || y == .gone .rejected) % 256 ∧
    natAt b 25 1 = s.upload.lastReject % 256 ∧ natAt b 26 2 = s.port.pending.toNat ∧ natAt b 28 2 = s.port.enabled.toNat ∧
    natAt b 30 2 = s.line.badFrames % 65536 ∧ natAt b 32 1 = s.line.collisions % 256 ∧
    natAt b 33 2 = s.line.ownFrames % 65536 ∧ natAt b 35 2 = s.clock.rollRefusals % 65536) ∧
  (∀ p : Peer,
    let b := p.view
    b.length = 11 ∧ natAt b 0 1 = (if p.present then 1 else 0) ∧ natAt b 1 1 = p.edition % 256 ∧
      natAt b 2 2 = p.lastStamp % 65536 ∧ natAt b 4 2 = p.day % 65536 ∧ natAt b 6 2 = p.minute % 65536 ∧
      (∀ k f, [p.clockSet, p.uplinkFitted, p.request.isSome][k]? = some f → (natAt b 8 1).testBit k = f) ∧
      natAt b 9 2 = p.mismatches % 65536) ∧
  (∀ (x : BitVec 48) (b : Nat) (s : State), s.serves = true → packedNumber x = some b →
    exec (.inquireBorrower x) s = .next { s with port := s.portAfter (0#8 :: s.borrowerView b) .none } ∧
      (s.borrowerView b).length = 37 ∧ (s.entry? b = none → s.borrowerView b = List.replicate 37 0#8)) ∧
  (∀ (x : BitVec 48) (n : Nat) (s : State), s.serves = true → packedNumber x = some n →
    exec (.inquireItem x) s = .next { s with port := s.portAfter (0#8 :: s.itemView n) .none } ∧
      (s.itemView n).length = 27 ∧
      (s.item? n = none → (∀ t ∈ s.traps, t.item ≠ n) → s.itemView n = List.replicate 27 0#8)) ∧
  (∀ (x : BitVec 48) (s : State), s.serves = true → packedNumber x = none →
    exec (.inquireBorrower x) s = .next { s with port := s.portAfter (0x89#8 :: List.replicate 37 0#8) .none } ∧
    exec (.inquireItem x) s = .next { s with port := s.portAfter (0x89#8 :: List.replicate 27 0#8) .none }) ∧
  (∀ (n : Nat) (e : Entry) (s : State), s.entry? n = some e →
    let b := s.borrowerView n
    let signed := fun (i k : Nat) (v : Int) => -2 ^ (8 * k - 1) ≤ v → v < 2 ^ (8 * k - 1) → intOf (bytesAt b i k) = v
    let bits := fun (i : Nat) (l : List Bool) => ∀ k f, l[k]? = some f → (natAt b i 1).testBit k = f
    let record := fun (i : Nat) (x : BlockRecord) =>
      natAt b i 1 = (match x.state with
        | .roll => 0
        | .raised _ _ => 1
        | .lifted _ _ => 2) + (if x.awaiting = [] then 0 else 128) ∧
      natAt b (i + 1) 1 = (match x.state with
        | .roll => 0
        | .raised st _ => st % 256
        | .lifted st _ => st % 256)
    natAt b 0 1 = 1 ∧ natAt b 1 1 = e.roll.category % 256 ∧ natAt b 2 2 = e.roll.expiry % 65536 ∧
    natAt b 4 1 = e.roll.loans % 256 ∧ signed 5 4 e.roll.balance ∧ signed 9 2 e.own.loans ∧ signed 11 4 e.own.balance ∧
    natAt b 15 2 = e.own.stamp % 65536 ∧ natAt b 17 1 = e.peers.length % 256 ∧
    signed 18 2 (e.peers.map fun p => p.tally.loans).sum ∧ signed 20 4 (e.peers.map fun p => p.tally.balance).sum ∧
    signed 24 2 e.count ∧ natAt b 26 1 = s.limitInForce e.roll.category % 256 ∧ signed 27 4 e.balance ∧
    bits 31 [e.fines, decide ((s.reckoner.active.warning : Int) ≤ e.balance), s.standing.incomplete, e.reservedA,
      e.reservedB, e.handA, e.handB, false] ∧
    record 32 e.lost ∧ record 34 e.staff ∧ bits 36 [e.roll.lost, e.roll.staff]) ∧
  (∀ (n : Nat) (s : State),
    let b := s.itemView n
    let digits := fun (i x : Nat) => ∀ k < 12, natAt b (i + k / 2) 1 / 16 ^ (1 - k % 2) % 16 = x / 10 ^ (11 - k) % 10
    (∀ i, s.item? n = some i →
      natAt b 0 1 = 1 ∧ natAt b 1 1 = (if i.loan.isSome then 1 else 0) ∧
      natAt b 2 1 = (match i.basis with
        | .roll => 0
        | .today => 1) ∧
      digits 3 ((i.loan.map (·.borrower)).getD 0) ∧ natAt b 9 2 = (i.loan.map (·.dueDay)).getD 0 % 65536 ∧
      natAt b 11 2 = (i.loan.map (·.dueMinute)).getD 0 % 65536 ∧ natAt b 13 1 = n / 10 ^ 11 % 10 ∧
      natAt b 14 1 = (i.loan.map (·.renewCount)).getD 0 % 256 ∧ natAt b 15 1 = i.station % 256 ∧
      natAt b 16 2 = i.stamp % 65536) ∧
    (∀ t, (s.traps.filter fun y => y.item == n) = [t] →
      natAt b 18 1 = (match t.state with
        | .provisional _ _ => 1
        | .confirmed => 2
        | .released => 3) ∧
      natAt b 19 1 = t.station % 256 ∧ natAt b 20 1 = t.rank % 256 ∧ digits 21 t.holdBorrower))

/-! ## Rules and settings (chapters 3 and 10) -/

/-- Each part of STAGE RULE that passes its checks is written into the staged set, or into a copy of the active set
where none is staged; the staged state becomes STAGED UNRECORDED (answer byte 1), and nothing else changes. DISCARD
makes it NONE (R47, R48, R49). A part that fails its checks leaves the staged set as it is: REFUSED(BAD_RULE),
reason 13, with the staged state as it was; a new day in a full holiday list is REFUSED(HOLIDAYS_FULL), reason 14;
and every part is BUSY while a settings write cycle runs (R47, R48). -/
def Obligations.StageRuleStagesOrRefuses : Prop :=
  (∀ s : State, s.serves = true → s.settings.cycle = none →
      let base := s.reckoner.staged.getD s.reckoner.active
      let staged := fun (rs : RuleSet) => Host.Outcome.next (φ := Fault) (ρ := Refusal)
        { s with
          reckoner := { s.reckoner with staged := some rs, recorded := false }, port := s.portAfter [0#8, 1#8] .none }
      (exec .stageRuleDiscard s = .next { s with
        reckoner := { s.reckoner with staged := none, recorded := false }, port := s.portAfter [0#8, 0#8] .none }) ∧
      (∀ (c p g k : Byte) (rate cap : BitVec 16), c.toNat ≤ 9 → rate.toNat ≤ 5000 → cap.toNat ≤ 60000 → k.toNat ≤ 9 →
        (1 ≤ p.toNat → p.toNat ≤ 120 → g.toNat ≤ 7 →
          exec (.stageRuleClass c 1 p rate cap g k) s = staged { base with
            classes := base.classes.set c.toNat ⟨.days, p.toNat, rate.toNat, cap.toNat, g.toNat, k.toNat⟩ }) ∧
        (1 ≤ p.toNat → p.toNat ≤ 12 →
          exec (.stageRuleClass c 2 p rate cap g k) s = staged { base with
            classes := base.classes.set c.toNat ⟨.hours, p.toNat, rate.toNat, cap.toNat, 0, k.toNat⟩ }) ∧
        exec (.stageRuleClass c 0 p rate cap g k) s = staged { base with
          classes := base.classes.set c.toNat ⟨.none, 0, rate.toNat, cap.toNat, 0, k.toNat⟩ }) ∧
      (∀ (c k : Byte) (mask : BitVec 16), c.toNat ≤ 7 → k.toNat ≤ 99 →
        exec (.stageRuleCategory c k mask) s = staged { base with
          categories := base.categories.set c.toNat ⟨k.toNat, mask.setWidth 10⟩ }) ∧
      (∀ (w : Byte) (o c : BitVec 16), w.toNat ≤ 6 → c.toNat ≤ 1439 → o.toNat < c.toNat →
        exec (.stageRuleHours w o c) s = staged { base with hours := base.hours.set w.toNat ⟨o.toNat, c.toNat⟩ }) ∧
      (∀ m : Byte, exec (.stageRuleClosure m) s = staged { base with closure := m.setWidth 7 }) ∧
      (∀ d : BitVec 16, (d.toNat ∈ base.holidays ∨ base.holidays.length < 48) →
        exec (.stageRuleHolidayAdd d) s = staged { base with holidays := insertDay d.toNat base.holidays }) ∧
      (∀ d : BitVec 16,
        exec (.stageRuleHolidayRemove d) s = staged { base with holidays := base.holidays.filter (· != d.toNat) }) ∧
      (∀ w b : BitVec 16, exec (.stageRuleWindow w b) s = staged { base with
        warning := if b.toNat < w.toNat then b.toNat else w.toNat, blocking := b.toNat }) ∧
      (∀ m : BitVec 16, m.toNat ≤ 1439 → exec (.stageRuleUploadMinute m) s = staged { base with uploadMinute := m.toNat })) ∧
  (∀ s : State, s.serves = true →
      let code := byteOf s.reckoner.stagedCode
      let answers := fun (b : Byte) => Host.Outcome.next (φ := Fault) (ρ := Refusal)
        { s with port := s.portAfter [b, code] .none }
      (s.settings.cycle = none →
        (∀ c u p g k rate cap, (9 < c.toNat ∨ 2 < u.toNat ∨ 5000 < rate.toNat ∨ 60000 < cap.toNat ∨ 9 < k.toNat ∨
            (u = 1 ∧ (p.toNat = 0 ∨ 120 < p.toNat ∨ 7 < g.toNat)) ∨ (u = 2 ∧ (p.toNat = 0 ∨ 12 < p.toNat))) →
          exec (.stageRuleClass c u p rate cap g k) s = answers 0x8D#8) ∧
        (∀ c k mask, (7 < c.toNat ∨ 99 < k.toNat) → exec (.stageRuleCategory c k mask) s = answers 0x8D#8) ∧
        (∀ w o c, (6 < w.toNat ∨ 1439 < c.toNat ∨ c.toNat ≤ o.toNat) →
          exec (.stageRuleHours w o c) s = answers 0x8D#8) ∧
        (∀ m, 1439 < m.toNat → exec (.stageRuleUploadMinute m) s = answers 0x8D#8) ∧
        (∀ b, 8 < b.toNat → exec (.stageRuleBadPartCode b) s = answers 0x8D#8) ∧
        (∀ d, d.toNat ∉ s.reckoner.base.holidays → 48 ≤ s.reckoner.base.holidays.length →
          exec (.stageRuleHolidayAdd d) s = answers 0x8E#8)) ∧
      (s.settings.cycle.isSome = true →
        exec .stageRuleDiscard s = answers 1#8 ∧
        (∀ c u p g k rate cap, exec (.stageRuleClass c u p rate cap g k) s = answers 1#8) ∧
        (∀ c k mask, exec (.stageRuleCategory c k mask) s = answers 1#8) ∧
        (∀ w o c, exec (.stageRuleHours w o c) s = answers 1#8) ∧
        (∀ m, exec (.stageRuleClosure m) s = answers 1#8) ∧
        (∀ d, exec (.stageRuleHolidayAdd d) s = answers 1#8) ∧
        (∀ d, exec (.stageRuleHolidayRemove d) s = answers 1#8) ∧
        (∀ w b, exec (.stageRuleWindow w b) s = answers 1#8) ∧
        (∀ m, exec (.stageRuleUploadMinute m) s = answers 1#8) ∧
        (∀ b, 8 < b.toNat → exec (.stageRuleBadPartCode b) s = answers 1#8)))

/-- Adding a day keeps a holiday list strictly ascending and adds that day and no other; removing one keeps it so
and takes that day and no other (R48). -/
def Obligations.HolidaysStayAscending : Prop :=
  ∀ (d : Nat) (hs : List Nat), hs.Pairwise (· < ·) →
    ((insertDay d hs).Pairwise (· < ·) ∧ ∀ x, x ∈ insertDay d hs ↔ x = d ∨ x ∈ hs) ∧
    ((hs.filter (· != d)).Pairwise (· < ·) ∧ ∀ x, x ∈ hs.filter (· != d) ↔ x ≠ d ∧ x ∈ hs)

/-- APPLY NOW with both lanes IDLE or CLOSED makes the staged set the active one whole, leaves none staged and asks
the settings store to record it; a lane in another state makes it BUSY, and with nothing staged it is
REFUSED(NOTHING_STAGED), reason 15 (R50, R51, R52). The day's one-shot must not fire by the new upload minute
(R165). -/
def Obligations.ApplyNowActivatesTheStagedSet : Prop :=
  ∀ s : State, s.serves = true → s.settings.cycle = none →
    (∀ rs, (∀ l, (s.lane l).state = .idle ∨ (s.lane l).state = .closed) → s.reckoner.staged = some rs →
      (s.clock.set = false ∨ s.clock.armed = false ∨ s.clock.minute < rs.uploadMinute) →
      exec .applyNow s = .next { s with
        reckoner := ⟨rs, none, false⟩
        settings := { s.settings with cycle := some ⟨none, some rs, none⟩ }
        port := s.portAfter [0#8] .none }) ∧
    ((∃ l, (s.lane l).state ≠ .idle ∧ (s.lane l).state ≠ .closed) →
      exec .applyNow s = .next { s with port := s.portAfter [1#8] .none }) ∧
    ((∀ l, (s.lane l).state = .idle ∨ (s.lane l).state = .closed) → s.reckoner.staged = none →
      exec .applyNow s = .next { s with port := s.portAfter [0x8F#8] .none })

/-- READ SETTING answers the draft value and the value in force, WRITE SETTING replaces a draft value in range and
nothing in force, and COMMIT SETTINGS starts a write cycle of the draft and the staged set (R185, R186). A settings
write cycle that completes with no cycle waiting: all slots good, the images are written and the staged state is
RECORDED; a slot bad, the flag is set, STATION FAULT is latched, and the staged state stands (R186, R52). The
station image is written by COMMIT SETTINGS alone and the active image by an activation alone. -/
def Obligations.SettingsAreDraftedAndCommitted : Prop :=
  (∀ s : State, s.serves = true → s.settings.cycle = none →
      (∀ n : Byte, n.toNat < 10 → exec (.readSetting n) s = .next { s with
        port := s.portAfter
          (0#8 :: bytesOf 2 (s.settings.draft.value n.toNat) ++ bytesOf 2 (s.settings.inForce.value n.toNat)) .none }) ∧
      (exec (.readSetting 10) s = .next { s with
        port := s.portAfter [0#8, 0#8, byteOf s.settings.strap.toNat, 0#8, byteOf s.settings.strap.toNat] .none }) ∧
      (∀ n : Byte, 10 < n.toNat →
        exec (.readSetting n) s = .next { s with port := s.portAfter [0x89#8, 0#8, 0#8, 0#8, 0#8] .none }) ∧
      (∀ (n : Byte) (v : BitVec 16) (d : Settings), s.settings.draft.withValue n.toNat v.toNat = some d →
        exec (.writeSetting n v) s = .next { s with
          settings := { s.settings with draft := d }, port := s.portAfter [0#8] .none } ∧
        d.value n.toNat = v.toNat ∧ ∀ k, k < 10 → k ≠ n.toNat → d.value k = s.settings.draft.value k) ∧
      (∀ (n : Byte) (v : BitVec 16), s.settings.draft.withValue n.toNat v.toNat = none →
        exec (.writeSetting n v) s = .next { s with port := s.portAfter [0x99#8] .none }) ∧
      (∀ n v : Nat, (s.settings.draft.withValue n v).isSome =
        ((n == 0 && decide (v ≤ 15)) || (n == 1 && decide (v ≤ 2)) || (n == 2 && decide (v ≤ 3)) ||
          (n == 3 && decide (500 ≤ v) && decide (v ≤ 65535)) || (n == 4 && decide (12 ≤ v) && decide (v ≤ 24)) ||
          ((n == 5 || n == 6) && decide (1 ≤ v) && decide (v ≤ 2)) ||
          (n == 7 && decide (30 ≤ v) && decide (v ≤ 600)) || (n == 8 && decide (v ≤ 99)) ||
          (n == 9 && decide (1 ≤ v) && decide (v ≤ 60)))) ∧
      exec .commitSettings s = .next { s with
        settings := { s.settings with cycle := some ⟨some s.settings.draft, none, s.reckoner.staged⟩ }
        port := s.portAfter [0#8] .none }) ∧
  (∀ (e : SettingsEnd) (w : WriteCycle) (s : State), s.settings.cycle = some w → s.settings.recordWaiting = false →
      let store : Store :=
        { station := (w.station.map fun a => s.store.station.write a (!e.badStation)).getD s.store.station
          active := (w.active.map fun a => s.store.active.write a (!e.badActive)).getD s.store.active
          staged := s.store.staged.write w.staged (!e.badStaged) }
      let bad := (w.station.isSome && e.badStation) || (w.active.isSome && e.badActive) || e.badStaged
      let settings := { s.settings with cycle := none, lastFailed := bad }
      (bad = false → s.reckoner.staged = w.staged →
        exec (.settingsWriteComplete e) s = .next { s with
          store := store, settings := settings, reckoner := { s.reckoner with recorded := true } }) ∧
      (bad = true →
        exec (.settingsWriteComplete e) s = .next { s with
          store := store, settings := settings, port := { s.port with pending := s.port.pending ||| 1#11 } }))

/-- An image of the settings store, the station's settings, the active rule set or the staged one (R52, R184), that
has one write more keeps its former copy whole while the new one is written, and gives the new one at the next
start when its write was good, the former one when it was not (R184, R186): stated once for images of any content.
Counts of two whole slots must differ, and none may wrap. A header field's write goes to the damaged or lower-count
cell, so that the field reads as the new value when the write was good and as before when it was cut off or failed
(R128, R129, R130). Counts of two whole cells must differ, and none may wrap. (A damaged cell is written first:
assumption 14.) -/
def Obligations.TwoCopiesKeepTheFormerOne : Prop :=
  (∀ (α : Type) (i : Image α) (a : α),
      (i.slot0.good = true → i.slot1.good = true → i.slot0.count ≠ i.slot1.count) → i.slot0.count ≠ BitVec.allOnes 32 → i.slot1.count ≠ BitVec.allOnes 32 →
      (i.write a true).current = some a ∧
      ((i.slot0.good = true ∨ i.slot1.good = true) → (i.write a false).current = i.current) ∧
      ((i.write a true).slot0 = i.slot0 ∨ (i.write a true).slot1 = i.slot1)) ∧
  (∀ (p : CellPair) (v : Nat),
      (p.cell0.good = true → p.cell1.good = true → p.cell0.count ≠ p.cell1.count) → p.cell0.count ≠ BitVec.allOnes 32 →
      p.cell1.count ≠ BitVec.allOnes 32 →
      (p.write v true).value? = some v ∧
      ((p.cell0.good = true ∨ p.cell1.good = true) → (p.write v false).value? = p.value?) ∧
      ((p.write v true).cell0 = p.cell0 ∨ (p.write v true).cell1 = p.cell1))

/-- WARM RESTART is ACCEPTED and takes effect when select is released; in FAULT it is REFUSED(FAULT), reason 2, and
during a settings write cycle BUSY (R188). With no write in flight, with or without a read or a lookup in progress,
of a controller not faulted, the restart keeps the attached memory, the settings store, the clock and the peers'
mismatch counts, and sets every block to its values after a reset before the settings are read (R18, R127, R177,
R189). That REFUSED(FAULT) comes before BUSY is the model's choice (assumption 30). A cold start with no write in
flight, from any state: every block at its values after power-on, the settings, rule images, strap and wand levels
as they are found, Ready set, and the header check begun (R185, R187, R188, R52). Only the attached memory and the
settings store are kept. A cold start after ROLL BEGIN leaves edition 0 in the header, whether its write still
waits, is cut off, has failed or was dropped by a memory fault (R134, R142, R143), where both cells' write counts
are short of their last value. (That the settings are read in the same step is the model's: assumption 5; that R134
prevails over R130 there: assumption 45; the values of fields to which no rule gives one: assumption 35.) -/
def Obligations.RestartsResetTheBlocks : Prop :=
  (∀ s : State, s.serves = true → s.station ≠ .fault → s.settings.cycle = none →
    exec .warmRestart s = .next { s with port := { s.portAfter [0#8] .none with frame := .restarting } }) ∧
  (∀ s : State, s.serves = true → s.station = .fault →
    exec .warmRestart s = .next { s with port := s.portAfter [0x82#8] .none }) ∧
  (∀ s : State, s.serves = true → s.station ≠ .fault → s.settings.cycle.isSome = true →
    exec .warmRestart s = .next { s with port := s.portAfter [1#8] .none }) ∧
  (∀ (b : Bool) (x : ResetInputs) (s : State), s.port.frame = .restarting → s.writesNothing = true →
    s.memory.beginUnwritten = false → s.settings.cycle = none → s.memory.faulted = false →
    exec (.selectRelease b x) s = .next { State.reset with
      pending := s.pending, attached := s.attached, store := s.store, races := s.races
      wand0 := .reset x.level0, wand1 := .reset x.level1
      clock := { s.clock with rollMark := false, rollRefusals := 0 }
      line := { LineCtl.reset with peers := s.line.peers.map fun p => { Peer.reset with mismatches := p.mismatches } }
      settings := { SettingsCtl.reset with
        draft := s.store.station.current.getD .default
        inForce := (s.store.station.current.getD .default).taken, strap := x.strap }
      reckoner := ⟨s.store.active.current.getD .default, s.store.staged.current.getD none, true⟩
      port := { Port.reset with ready := true }
      memory := { MemCtl.reset with busy := some ⟨.headerRead, false⟩ } }) ∧
  (∀ (x : ResetInputs) (s : State), s.writesNothing = true → s.memory.beginUnwritten = false → s.settings.cycle = none →
    exec (.coldStart x) s = .next { State.reset with
      pending := s.pending, attached := s.attached, store := s.store, races := s.races
      wand0 := .reset x.level0, wand1 := .reset x.level1
      settings := { SettingsCtl.reset with
        draft := s.store.station.current.getD .default
        inForce := (s.store.station.current.getD .default).taken, strap := x.strap }
      reckoner := ⟨s.store.active.current.getD .default, s.store.staged.current.getD none, true⟩
      port := { Port.reset with ready := true }
      memory := { MemCtl.reset with busy := some ⟨.headerRead, false⟩ } }) ∧
  (∀ (x : ResetInputs) (d : Bool) (s : State), s.memory.beginUnwritten = true →
    (s.memory.busy = some ⟨.rollBeginWrite, d⟩ ∨ s.memory.busy = some ⟨.takeSnapshot, d⟩ ∨
      s.writesNothing = true) →
    s.attached.header.edition.cell0.count ≠ BitVec.allOnes 32 → s.attached.header.edition.cell1.count ≠ BitVec.allOnes 32 →
    ∃ t, exec (.coldStart x) s = .next t ∧ t.attached.header.edition.value? = some 0 ∧
      t.attached.cells = s.attached.cells ∧ t.attached.header.head = s.attached.header.head)

/-- The header read ends: blank memory gets its fresh header written, and a fresh header verified leaves all nine
fields 0 and takes the station through REPLAYING, with nothing to replay, into GATHERING; its failing takes the
station to FAULT with STATION FAULT latched (R129, R130, R141, R142, R187, R188). Write counts are as
`TwoCopiesKeepTheFormerOne` asks. (The header is its fields, a failed write a damaged cell: assumption 13.) -/
def Obligations.HeaderCheckDecidesTheStart : Prop :=
  (∀ s : State, s.port.ready = true → s.memory.busy = some ⟨.headerRead, false⟩ →
    s.attached.header.formatted = false →
    exec .headerReadComplete s = .next { s with memory := { s.memory with busy := some ⟨.freshHeader, false⟩ } }) ∧
  (∀ (c : Copies) (s : State), s.port.ready = true → s.memory.busy = some ⟨.headerRead, false⟩ →
    s.attached.header.formatted = true → s.attached.header.copies? = some c → c.tail < c.head →
    s.station = .starting → s.memory.waiting = [] → s.line.s = [] →
    exec .headerReadComplete s = .next { s with
      station := .replaying
      line := { s.line with
        presenceTimer := some 10000, s := [⟨0, 255, .presence ⟨0, 0, 0, false, false, []⟩⟩] }
      memory := { s.memory with
        copies := c, busy := some ⟨.replayLast, false⟩, replay := some ⟨c.head - 1, .last⟩ } }) ∧
  (∀ s : State, s.port.ready = true → s.memory.busy = some ⟨.headerRead, false⟩ →
    s.attached.header.formatted = true → s.attached.header.copies? = none →
    ∃ t, exec .headerReadComplete s = .next t ∧ t.station = .fault ∧ t.memory.faulted = true ∧
      t.port.pending.getLsbD 0 = true ∧ (t.lane .a).state = .closed ∧ (t.lane .b).state = .closed ∧
      t.attached = s.attached ∧ t.clock = s.clock) ∧
  (∀ s : State, s.memory.busy = some ⟨.freshHeader, false⟩ → s.memory.waiting = [] → s.memory.copies = .zero →
    s.station = .starting → s.line = .reset →
    (∀ f, let p := s.attached.header.pair f
      (p.cell0.good = true → p.cell1.good = true → p.cell0.count ≠ p.cell1.count) ∧
        p.cell0.count ≠ BitVec.allOnes 32 ∧ p.cell1.count ≠ BitVec.allOnes 32) →
    ∃ t, exec (.freshHeaderWriteComplete .verified) s = .next t ∧ t.station = .gathering ∧
      t.attached.header.formatted = true ∧ t.attached.header.copies? = some .zero ∧ t.memory.copies = .zero ∧
      t.minimumTimer = some 5000 ∧ t.quietTimer = some 3000 ∧ t.line.engine = .idle ∧
      t.line.s = [⟨0, 255, .presence ⟨0, 0, 0, false, false, []⟩⟩, ⟨0, 255, .restateRequest 1⟩] ∧
      t.attached.cells = s.attached.cells) ∧
  (∀ (k : Nat) (s : State), s.memory.busy = some ⟨.freshHeader, false⟩ → k < 10 →
    ∃ t, exec (.freshHeaderWriteComplete (.failsAt k)) s = .next t ∧ t.station = .fault ∧
      t.memory.faulted = true ∧ t.attached.header.formatted = s.attached.header.formatted)

/-- GATHERING ends when its minimum and quiet timers have both expired, whichever is last: the station is READY,
and every lane of its plan opens IDLE in RETURN mode with no session, slot or unread result; until then an expiry
only stops its timer (R187, R19). -/
def Obligations.GatheringEndsWithBothTimers : Prop :=
  (∀ (k : Nat) (s : State), s.minimumTimer = some k → s.station = .gathering → s.quietTimer.isSome = true →
    exec .minimumTimerExpiry s = .next { s with minimumTimer := none }) ∧
  (∀ (k : Nat) (s : State), s.quietTimer = some k → s.station = .gathering → s.minimumTimer.isSome = true →
    exec .quietTimerExpiry s = .next { s with quietTimer := none }) ∧
  (∀ (k : Nat) (s : State), s.station = .gathering →
    let opened := fun (c : LaneCtl) =>
      { c with state := .idle, mode := .ret, session := none, slot := none, unread := false }
    let ready := { s with
      station := .ready, minimumTimer := none, quietTimer := none, laneA := opened s.laneA
      laneB := if s.settings.inForce.lanePlan = 1 then s.laneB else opened s.laneB }
    (s.minimumTimer = some k → s.quietTimer = none → exec .minimumTimerExpiry s = .next ready) ∧
    (s.quietTimer = some k → s.minimumTimer = none → exec .quietTimerExpiry s = .next ready))

/-- Replay (R141): a last record that is damaged is discarded by a head write, one that is good starts the replay
at tail, and a head write that verifies lowers head by one. A record read whose borrower has no entry asks for the
roll record first (R85); a record that does not hold faults the controller. When the loans list answers for an item
record, the overlay gets its entry, or, on a damaged entry of the list, stays as it is and INCOMPLETE is set, with
or without an entry of the item (R82, R94); the next record is read. That a RENEW record raises a count of 9 to 10
is the model's choice (assumption 56). That a RETURN record of an item that neither table holds makes an entry IN
of basis TODAY is the model's choice (assumption 18). -/
def Obligations.ReplayReadsTheJournal : Prop :=
  ∀ s : State, s.memory.waiting = [] →
    let c := s.memory.copies
    (s.memory.busy = some ⟨.replayLast, false⟩ → c.tail < c.head →
      (slotHolds (s.slotBytes (c.head - 1)) (c.head - 1) = false →
        exec .replayLastRecordRead s = .next { s with memory := { s.memory with
          busy := some ⟨.replayHead, false⟩, replay := some ⟨c.head - 1, .head⟩ } }) ∧
      (slotHolds (s.slotBytes (c.head - 1)) (c.head - 1) = true →
        exec .replayLastRecordRead s = .next { s with memory := { s.memory with
          busy := some ⟨.replayRead c.tail, false⟩, replay := some ⟨c.tail, .read⟩ } })) ∧
    (s.memory.busy = some ⟨.replayHead, false⟩ → c.tail + 1 < c.head →
      exec (.replayHeadWriteComplete .verified) s = .next { s with
        attached := { s.attached with header := { s.attached.header with
          head := s.attached.header.head.write (c.head - 1) true } }
        memory := { s.memory with
          copies := { c with head := c.head - 1 }, busy := some ⟨.replayRead c.tail, false⟩
          replay := some ⟨c.tail, .read⟩ } }) ∧
    (∀ n r, s.memory.busy = some ⟨.replayRead n, false⟩ → slotHolds (s.slotBytes n) n = true →
      recordOf (s.slotBytes n) = some r → s.entry? r.borrower = none → s.memory.load.loading = false →
      exec .replayReadComplete s = .next { s with memory := { s.memory with
        busy := some ⟨.rollLookup .replay r.borrower, false⟩, replay := some ⟨n, .standing r⟩ } }) ∧
    (∀ n, s.memory.busy = some ⟨.replayRead n, false⟩ → slotHolds (s.slotBytes n) n = false →
      ∃ t, exec .replayReadComplete s = .next t ∧ t.station = .fault ∧ t.memory.faulted = true ∧
        t.attached = s.attached) ∧
    (∀ n r, s.memory.busy = some ⟨.loansLookup .replay r.item, false⟩ → s.memory.replay = some ⟨n, .overlay r⟩ →
      r.number + 1 < c.head → (r.kind = .loan ∨ r.kind = .renew ∨ r.kind = .ret ∧ r.outcome ≠ 1) →
      let goesOn := { s.memory with
        busy := some ⟨.replayRead (r.number + 1), false⟩, replay := some ⟨r.number + 1, .read⟩ }
      let applied := fun (basis : Basis) (before : Option LoanPart) =>
        exec .loansListLookupComplete s = .next { s with
          memory := goesOn
          overlay := { s.overlay with entries := s.overlay.entries ++ [⟨r.item, basis, match r.kind with
            | .loan => some ⟨r.borrower, r.dueDay, r.dueMinute, 0⟩
            | .renew => some ⟨r.borrower, r.dueDay, r.dueMinute, (before.map (·.renewCount)).getD 0 + 1⟩
            | _ => none, s.number, r.stamp⟩] } }
      (s.lookupLoan r.item = .fault → exec .loansListLookupComplete s = .next { s with
        memory := goesOn, standing := { s.standing with incomplete := true } }) ∧
      (∀ a, s.lookupLoan r.item = .found a → s.item? r.item = none → s.overlay.used < 8192 →
        applied a.basis a.loan) ∧
      (s.lookupLoan r.item = .missing → s.item? r.item = none → s.overlay.used < 8192 → applied .today none))

/-! ## Lanes (chapter 2) -/

/-- The end of an open session (R27, R29, R148): the context is cleared, the idle timer stopped, a lane in SESSION
goes to IDLE, the borrower's entry goes out of hand when no transaction needs it, and an OPEN slip gets its TOTAL
line and joins the print queue. No other entry changes, and nothing outside the lane, the standing table and the
slip unit does. -/
def Obligations.SessionEndClearsTheContext : Prop :=
  ∀ (l : LaneId) (ss : Session) (s : State), (s.lane l).session = some ss →
    let t := s.endSession l
    t.lane l = { s.lane l with
      session := none, endPending := false, idleTimer := none
      state := if (s.lane l).state = .session then .idle else (s.lane l).state } ∧
    t.lane (otherLane l) = s.lane (otherLane l) ∧
    t = { s with laneA := t.laneA, laneB := t.laneB, standing := t.standing, slips := t.slips } ∧
    (∀ e, e.borrower ≠ ss.borrower → (e ∈ t.standing.entries ↔ e ∈ s.standing.entries)) ∧
    ((s.lane l).txn = none → ∀ e, t.entry? ss.borrower = some e →
      (match l with
        | .a => e.handA
        | .b => e.handB) = false) ∧
    (∀ i, ss.slip = some i → i < s.slips.slips.length → (s.slip i).hold = none →
      (∀ e, s.entry? ss.borrower = some e →
        (t.slip i).lines = (s.slip i).lines ++ [.total e.count e.balance (s.rules.warningMark e.balance)]) ∧
      ((t.slip i).state = .ready ∨ (t.slip i).state = .printing) ∧ i ∈ t.slips.queue)

/-- LANE MODE puts the lane's mode to the one named; a change to another mode ends an open session. A lane in
CHECKING or WORKING answers BUSY, a CLOSED one NOT_READY (reason 1) or LANE_CLOSED (reason 7); a mode above 3 is
BAD_ENTRY (reason 9) and a lane above 1 BAD_LANE (reason 8) (R20, R180). The order of these tests, BAD_LANE first
and BAD_ENTRY before the lane's state, is the model's choice (assumption 30). The lane's slot is empty unless it is
in REPORTING, where the slot waits. That a lane the plan excludes, at a station not READY, answers NOT_READY is the
model's choice (assumption 50). END SESSION and the expiry of the session idle timer end an open session at once in
SESSION and REPORTING; during CHECKING and WORKING END SESSION is accepted and takes effect with the result (R27).
With no session open it is ACCEPTED and changes nothing. -/
def Obligations.LaneModeAndEndSession : Prop :=
  (∀ (l : LaneId) (m : LaneMode) (s : State), s.serves = true →
      let lane := byteOf (laneCode l)
      let c := s.lane l
      let answers := fun (b : Byte) => Host.Outcome.next (φ := Fault) (ρ := Refusal)
        { s with port := s.portAfter [b] .none }
      ((c.state = .reporting ∨ ((c.state = .idle ∨ c.state = .session) ∧ c.slot = none)) →
        (c.session = none → c.endPending = false →
          exec (.laneMode lane (byteOf m.code)) s = .next { s.mapLane l fun c => { c with mode := m } with
            port := s.portAfter [0#8] .none }) ∧
        (c.mode = m → exec (.laneMode lane (byteOf m.code)) s = answers 0#8) ∧
        (c.session.isSome = true → c.mode ≠ m →
          exec (.laneMode lane (byteOf m.code)) s = .next
            (((s.commandStatus.endSession l).mapLane l fun c => { c with mode := m }).replied [0#8] .none))) ∧
      (c.state = .checking ∨ c.state = .working → exec (.laneMode lane (byteOf m.code)) s = answers 1#8) ∧
      (c.state = .closed → s.station ≠ .ready → exec (.laneMode lane (byteOf m.code)) s = answers 0x81#8) ∧
      (c.state = .closed → s.station = .ready → exec (.laneMode lane (byteOf m.code)) s = answers 0x87#8) ∧
      (∀ b, 3 < b.toNat → exec (.laneMode lane b) s = answers 0x89#8) ∧
      (∀ b x, 1 < b.toNat → exec (.laneMode b x) s = answers 0x88#8)) ∧
  (∀ (l : LaneId) (s : State), s.serves = true →
    let lane := byteOf (laneCode l)
    let c := s.lane l
    ((c.state = .reporting ∨ ((c.state = .idle ∨ c.state = .session) ∧ c.slot = none)) →
      (c.session.isSome = true →
        exec (.endSession lane) s = .next ((s.commandStatus.endSession l).replied [0#8] .none)) ∧
      (c.session = none → c.endPending = false →
        exec (.endSession lane) s = .next { s with port := s.portAfter [0#8] .none })) ∧
    (c.state = .checking ∨ c.state = .working →
      exec (.endSession lane) s = .next { s.mapLane l fun c => { c with endPending := true } with
        port := s.portAfter [0#8] .none }) ∧
    (c.state = .closed → s.station = .ready →
      exec (.endSession lane) s = .next { s with port := s.portAfter [0x87#8] .none })) ∧
  (∀ (l : LaneId) (k : Nat) (s : State), (s.lane l).idleTimer = some k → (s.lane l).session.isSome = true →
    ((s.lane l).state = .reporting ∨ ((s.lane l).state = .session ∧ (s.lane l).slot = none)) →
    exec (.sessionIdleTimerExpiry l) s = .next ((s.mapLane l fun c => { c with idleTimer := none }).endSession l))

/-- KEYED ENTRY of 6 or 14 decimal digits with a good check digit (R24, R21, R22): a busy lane with an empty slot
keeps the offer there, and one with a full slot answers BUSY; a free lane takes the offer, and a mode label puts
its mode with a COMMAND result. A CLOSED lane answers NOT_READY (reason 1) or LANE_CLOSED (reason 7), the first
where both hold, the model's choice (assumption 50). Other entries are BAD_ENTRY, reason 9. (What a free lane
leaves of a borrower or item label is LabelsAreTakenAsNewWork.) -/
def Obligations.KeyedEntryOffersALabel : Prop :=
  ∀ (l : LaneId) (n : Byte) (digits : BitVec 56) (s : State), s.serves = true →
    let lane := byteOf (laneCode l)
    let ds := (halfBytes 14 digits.toNat).take n.toNat
    let c := s.lane l
    let valid := (n = 6 ∨ n = 14) ∧ (∀ d ∈ ds, d ≤ 9) ∧ ds.getLast? = some (checkDigit ds.dropLast)
    (¬ valid → exec (.keyedEntry lane n digits) s = .next { s with port := s.portAfter [0x89#8] .none }) ∧
    (valid → labelKind ds ≠ .deskCommand 20 → (c.state = .checking ∨ c.state = .working ∨ c.state = .reporting) →
      (c.slot = none →
        exec (.keyedEntry lane n digits) s = .next
          { s.mapLane l fun c => { c with slot := some ⟨.keyed, labelKind ds, ds⟩ } with
            port := s.portAfter [0#8] .none }) ∧
      (c.slot.isSome = true →
        exec (.keyedEntry lane n digits) s = .next { s with port := s.portAfter [1#8] .none })) ∧
    (valid → c.state = .closed →
      exec (.keyedEntry lane n digits) s = .next { s with
        port := s.portAfter [if s.station = .ready then 0x87#8 else 0x81#8] .none }) ∧
    (valid → (c.state = .idle ∨ c.state = .session) →
      exec (.keyedEntry lane n digits) s =
        .next ((s.commandStatus.takeOffer l ⟨.keyed, labelKind ds, ds⟩).replied [0#8] .none)) ∧
    (∀ m, valid → c.state = .idle → c.session = none → c.endPending = false → c.txn = none →
      labelKind ds = .deskCommand (10 + m.code) →
      exec (.keyedEntry lane n digits) s = .next
        { s.mapLane l fun c => { c with
            mode := m, state := .reporting, txn := none, unread := true, trapWait := none, blockWait := none
            idleTimer := none
            result := { Result.blank l with operation := .command, cls := .done, mode := m } } with
          port := { s.portAfter [0#8] .none with pending := s.port.pending ||| causeBit (causeResult l) } })

/-- A borrower label that a free lane takes as new work (R21, R25, R26, R27, R28, R39, R63): in RETURN mode INVALID
WRONG_MODE; in LEND or RENEW mode an open session ends first, and a borrower check begins, with the station's
refusals of its columns, asks for the roll record in CHECKING where the table has no entry, and else ends DONE with
the session open and the entry in hand; in INQUIRE mode the refusals of its columns, then the view of the entry, or
the roll lookup, for which the lane shows WORKING, the model's choice (assumption 49). That the view carries
WARNING as a borrower check does, for INCOMPLETE alone too, and a refused check or inquiry no borrower number, is
the model's choice (assumption 21). A BAD_KIND label is INVALID BAD_KIND. An item label that a free lane takes as
new work (R28, R31, R34, R35, R37, R39, R87, R88): the station's refusals of its columns; in LEND or RENEW mode
with no session NO_SESSION; an item that the overlay does not hold asks for its loans-list lookup; and the
overlay's entry is judged at once. An inquiry reports it. A lend of an item OUT is ON_LOAN or ON_LOAN_SAME, and of
one IN requests its LOAN record on the basis found when its tests pass. A return of an item IN is NOT_ON_LOAN, and
of one OUT has its fine reckoned and asks for the hold lookup with the borrower's entry in hand, or for the roll
record where there is none. A renewal of an item IN is NOT_ON_LOAN, of one OUT to another NOT_BORROWERS, and asks
for the hold lookup when its tests pass. That a refusal reports the block reason set and no borrower or item
number, and an inquiry of an item IN a renew count of 0, is the model's choice (assumption 21). -/
def Obligations.LabelsAreTakenAsNewWork : Prop :=
  (∀ (l : LaneId) (src : Source) (b : Nat) (ds : List Nat) (s : State), (s.lane l).txn = none →
      (s.lane l).endPending = false →
      let c := s.lane l
      let offer : Offer := ⟨src, .borrower b, ds⟩
      let free := s.memory.busy = none ∧ s.memory.waiting = [] ∧ s.memory.load.loading = false
      let result := { Result.blank l with mode := c.mode }
      let begins := fun (state : LaneState) (op : Operation) (r : Asker) => s.takeOffer l offer =
        { s.mapLane l fun c => { c with
            state := state, txn := some { Txn.start op .borrower src with borrower := some b }, idleTimer := none } with
          memory := { s.memory with busy := some ⟨.rollLookup r b, false⟩, lastLane := some l } }
      let unable := if s.memory.faulted then some Reason.fault
        else if s.station ≠ .ready then some .notReady
        else if s.edition = 0 then some .noRoll
        else none
      let unableToCheck := unable.or (if s.clock.set then none else some .noClock)
      s.takeOffer l ⟨src, .badKind, ds⟩ =
        s.reporting l src { result with operation := .label, cls := .invalid, reason := .badKind } ∧
      (c.mode = .ret → s.takeOffer l offer =
        s.reporting l src { result with operation := .label, cls := .invalid, reason := .wrongMode }) ∧
      (c.mode = .inquire →
        (∀ why, unable = some why → s.takeOffer l offer =
          s.reporting l src { result with operation := .inquire, cls := .refused, reason := why }) ∧
        (unable = none → s.entry? b = none → free → begins .working .inquire (.view l)) ∧
        (∀ e, unable = none → s.entry? b = some e → s.takeOffer l offer =
          s.reporting l src { result with
            operation := .inquire, cls := .done, borrower := some b, balance := some e.balance
            count := some (e.count, s.limitInForce e.roll.category), blocks := e.blockSet s.clock.day
            flags := { ResultFlags.clear with
              warning := decide ((s.rules.warning : Int) ≤ e.balance) || s.standing.incomplete } })) ∧
      (c.mode = .lend ∨ c.mode = .renew →
        (c.session.isSome = true → s.takeOffer l offer = (s.endSession l).takeOffer l offer) ∧
        (c.session = none →
          (∀ why, unableToCheck = some why → s.takeOffer l offer =
            s.reporting l src { result with
              operation := .borrowerCheck, cls := .refused, reason := why
              flags := { ResultFlags.clear with warning := s.standing.incomplete } }) ∧
          (unableToCheck = none → s.entry? b = none → free → begins .checking .borrowerCheck (.lane l)) ∧
          (∀ e, unableToCheck = none → s.entry? b = some e → (s.slips.printer = .idleWarm → s.slips.queue = []) →
            let t := s.takeOffer l offer
            let r := { result with
              operation := .borrowerCheck, cls := .done, borrower := some b, balance := some e.balance
              count := some (e.count, s.limitInForce e.roll.category), blocks := e.blockSet s.clock.day
              flags := { ResultFlags.clear with
                warning := decide ((s.rules.warning : Int) ≤ e.balance) || s.standing.incomplete } }
            t = { s.reporting l src r with laneA := t.laneA, laneB := t.laneB, standing := t.standing, slips := t.slips } ∧
            t.lane (otherLane l) = s.lane (otherLane l) ∧
            t.lane l = { (s.reporting l src r).lane l with
              session := some ⟨b, none⟩, idleTimer := some (s.settings.inForce.idleSeconds * 1000) } ∧
            t.slips.slips = s.slips.slips ∧ t.slips.queue = s.slips.queue ∧
            (∃ e', t.entry? b = some e' ∧ e'.inHand l = true ∧ { e' with
              handA := e.handA, handB := e.handB, lastUse := e.lastUse } = e) ∧
            ∀ d, d ≠ b → t.entry? d = s.entry? d)))) ∧
  (∀ (l : LaneId) (src : Source) (n : Nat) (ds : List Nat) (s : State), (s.lane l).txn = none →
      (s.lane l).endPending = false →
      let c := s.lane l
      let takes := s.takeOffer l ⟨src, .item n, ds⟩
      let free := s.memory.busy = none ∧ s.memory.waiting = [] ∧ s.memory.load.loading = false
      let op := match c.mode with
        | .lend => Operation.lend
        | .ret => .ret
        | .renew => .renew
        | .inquire => .inquire
      let needsSession := c.mode = .lend ∨ c.mode = .renew
      let result := { Result.blank l with operation := op, mode := c.mode }
      let refused := fun (why : Reason) (blocks : BlockSet) => takes =
        s.reporting l src { result with cls := .refused, reason := why, blocks := blocks }
      let unable := if s.memory.faulted then some Reason.fault
        else if s.station ≠ .ready then some .notReady
        else if s.edition = 0 then some .noRoll
        else if c.mode = .inquire then none
        else if s.clock.set = false then some .noClock
        else if 16384 ≤ s.memory.copies.head - s.memory.copies.tail + s.memory.requested then some .journalFull
        else if 65535 ≤ s.line.stamps then some .stampsExhausted
        else none
      let works := fun (t : State) (x : Txn) => t.lane l = { c with state := .working, txn := some x, idleTimer := none } ∧
        t.lane (otherLane l) = s.lane (otherLane l)
      let asks := fun (t : State) (x : Txn) (m : MemOp) => works t x ∧
        t = { s with laneA := t.laneA, laneB := t.laneB, standing := t.standing
                     memory := { s.memory with busy := some ⟨m, false⟩, lastLane := some l } }
      let start := fun (b : Option Nat) => { Txn.start op .lookup src with item := some n, borrower := b }
      (∀ why, unable = some why → refused why .empty) ∧
      (unable = none → needsSession → c.session = none → refused .noSession .empty) ∧
      (unable = none → s.item? n = none → free →
        (needsSession → ∀ q, c.session = some q →
          asks takes (start (some q.borrower)) (.loansLookup (.lane l) n) ∧ takes.standing = s.standing) ∧
        (¬ needsSession →
          asks takes (start none) (.loansLookup (.lane l) n) ∧ takes.standing = s.standing)) ∧
      (∀ i, unable = none → s.item? n = some i → free → s.overlay.room l = false → s.provisionalOf l = none →
        (c.mode = .inquire → takes = s.reporting l src { result with
          cls := .done, item := some n, borrower := i.loan.map (·.borrower)
          due := i.loan.map fun a => (a.dueDay, a.dueMinute), renewCount := some ((i.loan.map (·.renewCount)).getD 0)
          itemOut := some i.loan.isSome }) ∧
        (c.mode = .ret →
          (i.loan = none → refused .notOnLoan .empty) ∧
          (∀ a, i.loan = some a →
            let x := { start (some a.borrower) with found := some ⟨i.basis, some a⟩, stage := .borrower }
            (s.entry? a.borrower = none →
              asks takes x (.rollLookup (.lane l) a.borrower) ∧ takes.standing = s.standing) ∧
            (∀ e, s.entry? a.borrower = some e →
              asks takes { x with
                fine := s.rules.fine (itemClass n) a.dueDay a.dueMinute s.clock.day s.clock.minute
                due := (a.dueDay, a.dueMinute), reckonDay := s.clock.day, stage := .hold }
                (.holdLookup (.lane l) (itemTitle n)) ∧
              ∃ e', takes.entry? a.borrower = some e' ∧ e'.inHand l = true ∧ e'.count = e.count ∧
                e'.balance = e.balance))) ∧
        (∀ b e slip, c.session = some ⟨b, slip⟩ → s.entry? b = some e → e.reserved l = false →
          (∀ w ∈ e.lost.awaiting, w.stamp ≠ 0) →
          let x := start (some b)
          (c.mode = .lend →
            (∀ a, i.loan = some a →
              refused (if a.borrower = b then .onLoanSame else .onLoan) (e.blockSet s.clock.day)) ∧
            (∀ due, i.loan = none → s.lendCheck e n = none →
              s.rules.due (itemClass n) e.roll.expiry s.clock.day s.clock.minute = .ok due →
              s.commits takes l { x with found := some ⟨i.basis, none⟩, due := due, reckonDay := s.clock.day } .loan b n
                due 0 s.overlay.entries ∧ (takes.lane l).state = .working ∧
              ∃ e', takes.entry? b = some e' ∧ e'.count = e.count ∧ e'.reservations = e.reservations + 1)) ∧
          (c.mode = .renew →
            let rule := s.rules.classRule (itemClass n)
            (i.loan = none → refused .notOnLoan (e.blockSet s.clock.day)) ∧
            (∀ a, i.loan = some a →
              (a.borrower ≠ b → refused .notBorrowers (e.blockSet s.clock.day)) ∧
              (a.borrower = b → rule.unit ≠ .none → s.clock.day ≤ e.roll.expiry → a.renewCount < rule.renewLimit →
                asks takes { x with found := some ⟨i.basis, some a⟩, stage := .hold }
                  (.holdLookup (.lane l) (itemTitle n)) ∧ takes.standing = s.standing))))))

/-- CANCEL (R43): in REPORTING it empties the slot; a transaction not committed and with no BLOCK frame on the line
ends CANCELLED: at LOOKUP, BORROWER (a borrower check in CHECKING among them) and HOLD with its lookup dropped, in
AWAIT_TRAP with its TRAP notice withdrawn and its PROVISIONAL record removed, or both at the end of a frame on the
line, and with a BLOCK notice still queued that notice withdrawn (R109). One committed, or with its BLOCK frame on
the line, is TOO_LATE; IDLE and SESSION answer NOTHING_TO_CANCEL, reason 11. -/
def Obligations.CancelEndsUncommittedWork : Prop :=
  ∀ (l : LaneId) (s : State), s.serves = true →
    let lane := byteOf (laneCode l)
    let c := s.lane l
    (c.state = .reporting → c.txn = none →
      exec (.cancel lane) s = .next { s.mapLane l fun c => { c with slot := none } with
        port := s.portAfter [0#8] .none }) ∧
    (c.state = .idle ∨ c.state = .session →
      exec (.cancel lane) s = .next { s with port := s.portAfter [0x8B#8] .none }) ∧
    (∀ x, c.state = .working ∨ c.state = .checking → c.txn = some x → x.committed = true →
      exec (.cancel lane) s = .next { s with port := s.portAfter [2#8] .none }) ∧
    (∀ x y, c.state = .working → c.txn = some x → x.stage = .awaitLine → s.line.sending = some y →
      isBlockNotice x.stamp y.notice = true →
      exec (.cancel lane) s = .next { s with port := s.portAfter [2#8] .none }) ∧
    (∀ x, (c.state = .working ∨ c.state = .checking) → c.txn = some x → x.committed = false → c.endPending = false →
      x.trap = .none → s.awaitingOwn x = false →
      let cancels := fun (holds : State → Prop) => ∃ t, exec (.cancel lane) s = .next t ∧
        (t.lane l).state = .reporting ∧ (t.lane l).txn = none ∧ (t.lane l).unread = true ∧
        (t.lane l).result.cls = .cancelled ∧ (t.lane l).result.operation = x.operation ∧
        (t.lane l).session = c.session ∧ (t.lane l).trapWait = none ∧ (t.lane l).blockWait = none ∧
        t.port.pending.getLsbD (causeResult l - 1) = true ∧ t.port.answer = [0#8] ∧
        (∀ r ∈ t.memory.waiting, r.op.lookupLane ≠ some l) ∧
        (∀ r, t.memory.busy = some r → r.op.lookupLane = some l → r.discard = true) ∧
        t.attached = s.attached ∧ t.memory.copies = s.memory.copies ∧
        t.lane (otherLane l) = s.lane (otherLane l) ∧ holds t
      ((x.stage = .lookup ∨ x.stage = .borrower ∨ x.stage = .hold) → s.provisionalOf l = none →
        cancels fun t => t.line = s.line ∧ t.traps = s.traps) ∧
      (x.stage = .awaitTrap → ∀ p, s.provisionalOf l = some p →
        (s.line.sending = none → cancels fun t =>
          t.line.u = s.line.u.filter (fun n => !p.isNotice n) ∧
            t.traps = s.traps.filter fun y => !y.isFor p.title p.rank) ∧
        (∀ y, s.line.sending = some y → p.isNotice y.notice = true → cancels fun t =>
          t.line.sending = some { y with withdrawn := true } ∧
            t.trap? p.title p.rank = some { p with state := .provisional l true })) ∧
      (x.stage = .awaitLine → s.line.sending = none → s.provisionalOf l = none → cancels fun t =>
        t.line.u = s.line.u.filter (fun n => !isBlockNotice x.stamp n) ∧ t.traps = s.traps))

/-- BLOCK, LIFT and PAYMENT take the free lane, A before B, and begin in WORKING with the borrower's roll record
asked for when no entry holds it (R40): no lane free is BUSY, a reason outside 1 and 2 BAD_ENTRY (reason 9), an
amount outside 1..99,999 BAD_AMOUNT (reason 10). The station must allow the work: in FAULT the answer is
REFUSED(FAULT) and short of READY NOT_READY, reason 1 (R28). The amount is tested first, then the station's state,
then the lanes (R40); that a bad reason is answered first too is the model's choice (assumption 30). A PAYMENT
whose borrower has an entry commits at once: its record, with the next stamp, the amount and the station's edition,
is requested at the journal (R30, R42, R110). A BLOCK or LIFT off listen-only hands its notice with the next stamp
and waits for the line 2 s, and in listen-only requests its record at once (R41, R78). -/
def Obligations.BorrowerOperationsBeginAndGoOn : Prop :=
  (∀ (x : BitVec 48) (b : Nat) (s : State), s.serves = true → packedNumber x = some b →
      let start := fun (op : Operation) (why : BlockReason) (amount : Nat) =>
        { Txn.start op .borrower .port with borrower := some b, blockReason := why, amount := amount }
      let begins := fun (l : LaneId) (op : Operation) (why : BlockReason) (amount : Nat) =>
        Host.Outcome.next (φ := Fault) (ρ := Refusal)
          { s.mapLane l fun c => { c with state := .working, txn := some (start op why amount), idleTimer := none } with
            memory := { s.memory with busy := some ⟨.rollLookup (.lane l) b, false⟩, lastLane := some l }
            port := s.portAfter [0#8] .none }
      let answers := fun (r : Byte) (a : BitVec 24) (code : Byte) =>
        exec (.block x r) s = .next { s with port := s.portAfter [code] .none } ∧
        exec (.lift x r) s = .next { s with port := s.portAfter [code] .none } ∧
        exec (.payment x a) s = .next { s with port := s.portAfter [code] .none }
      ((s.stationRefusal ⟨true, true⟩ = none → s.entry? b = none → s.memory.busy = none → s.memory.waiting = [] →
        s.memory.load.loading = false →
        ∀ l, (l = .a ∧ s.laneA.free = true ∨ l = .b ∧ s.laneA.free = false ∧ s.laneB.free = true) →
          exec (.block x 1) s = begins l .block .lost 0 ∧ exec (.block x 2) s = begins l .block .staff 0 ∧
          exec (.lift x 1) s = begins l .lift .lost 0 ∧ exec (.lift x 2) s = begins l .lift .staff 0 ∧
          ∀ a : BitVec 24, 1 ≤ a.toNat → a.toNat ≤ 99999 → exec (.payment x a) s = begins l .payment .lost a.toNat) ∧
      (s.stationRefusal ⟨true, true⟩ = none → s.laneA.free = false → s.laneB.free = false →
        ∀ a : BitVec 24, 1 ≤ a.toNat → a.toNat ≤ 99999 → ∀ r : Byte, (r = 1 ∨ r = 2) → answers r a 1#8) ∧
      (∀ a : BitVec 24, 1 ≤ a.toNat → a.toNat ≤ 99999 → ∀ r : Byte, (r = 1 ∨ r = 2) →
        (s.memory.faulted = true → answers r a 0x82#8) ∧
        (s.memory.faulted = false → s.station ≠ .ready → answers r a 0x81#8)) ∧
      (∀ r : Byte, r ≠ 1 → r ≠ 2 →
        exec (.block x r) s = .next { s with port := s.portAfter [0x89#8] .none } ∧
        exec (.lift x r) s = .next { s with port := s.portAfter [0x89#8] .none }) ∧
      (∀ a : BitVec 24, (a.toNat = 0 ∨ 99999 < a.toNat) →
        exec (.payment x a) s = .next { s with port := s.portAfter [0x8A#8] .none }))) ∧
  (∀ (l : LaneId) (x : BitVec 48) (b : Nat) (e : Entry) (s : State), s.serves = true → packedNumber x = some b →
      s.stationRefusal ⟨true, true⟩ = none → s.entry? b = some e →
      (l = .a ∧ s.laneA.free = true ∨ l = .b ∧ s.laneA.free = false ∧ s.laneB.free = true) →
      let commits := fun (t : State) (kind : RecordKind) (amount outcome : Nat) =>
        (t.lane l).state = .working ∧ t.line = { s.line with stamps := s.line.stamps + 1 } ∧
          t.memory.requested = s.memory.requested + 1 ∧ t.port.answer = [0#8] ∧
          t.lane (otherLane l) = s.lane (otherLane l) ∧ t.attached = s.attached ∧
          (∃ y, (t.lane l).txn = some y ∧ y.committed = true ∧ y.stage = .commit ∧ y.stamp = s.line.stamps + 1) ∧
          t.memory.busy = some ⟨.append
            { number := s.memory.copies.head + s.memory.requested, stamp := s.line.stamps + 1, kind := kind, lane := l
              day := s.clock.day, minute := s.clock.minute, borrower := b, item := 0, dueDay := 0, dueMinute := 0
              holdBorrower := 0, amount := amount, outcome := outcome, edition := s.edition }, false⟩
      let waits := fun (t : State) (action : BlockAction) (why : BlockReason) =>
        t.line = { s.line with
          stamps := s.line.stamps + 1
          u := s.line.u ++ [⟨s.line.stamps + 1, 255, .block ⟨b, e.own.loans, e.own.balance⟩ action why⟩] } ∧
        (t.lane l).state = .working ∧ (t.lane l).blockWait = some 2000 ∧ t.memory = s.memory ∧
        t.lane (otherLane l) = s.lane (otherLane l) ∧ t.port.answer = [0#8] ∧
        ∃ y, (t.lane l).txn = some y ∧ y.stage = .awaitLine ∧ y.stamp = s.line.stamps + 1 ∧ y.committed = false
      (s.memory.busy = none → s.memory.waiting = [] →
        (∀ a : BitVec 24, 1 ≤ a.toNat → a.toNat ≤ 99999 →
          ∃ t, exec (.payment x a) s = .next t ∧ commits t .payment a.toNat 0) ∧
        (s.line.listenOnly = true →
          (∃ t, exec (.block x 1) s = .next t ∧ commits t .block 0 1) ∧
          (∃ t, exec (.block x 2) s = .next t ∧ commits t .block 0 2) ∧
          (∃ t, exec (.lift x 1) s = .next t ∧ commits t .lift 0 1) ∧
          (∃ t, exec (.lift x 2) s = .next t ∧ commits t .lift 0 2))) ∧
      (s.line.listenOnly = false → s.line.u.length < 8 →
        (∃ t, exec (.block x 1) s = .next t ∧ waits t .raise .lost) ∧
        (∃ t, exec (.block x 2) s = .next t ∧ waits t .raise .staff) ∧
        (∃ t, exec (.lift x 1) s = .next t ∧ waits t .lift .lost) ∧
        (∃ t, exec (.lift x 2) s = .next t ∧ waits t .lift .staff)))

/-- The 2 s waits (R35, R41): while the frame is on the line an expiry marks it for withdrawal and waits for its
end; with the notice only queued, a block ends FAILED(LINE_BUSY) with the notice withdrawn, and a return gives up
its PROVISIONAL trap and its notice and goes to COMMIT with HOLD_UNCONFIRMED: where the item is still OUT to the
borrower (R88), on the day of its RECKON, with the journal, the stamps and the overlay not full, its RETURN record
is requested with the outcome UNCONFIRMED, no hold borrower and the next stamp, and the lane is committed (R36,
R98, R137). -/
def Obligations.LineWaitsExpire : Prop :=
  ∀ (l : LaneId) (x : Txn) (k : Nat) (s : State), (s.lane l).txn = some x →
    ((s.lane l).blockWait = some k → x.stage = .awaitLine →
      (∀ y, s.line.sending = some y → isBlockNotice x.stamp y.notice = true →
        exec (.blockWaitExpiry l) s = .next
          { s.mapLane l fun c => { c with blockWait := none, txn := some { x with waitExpired := true } } with
            line := { s.line with sending := some { y with withdrawn := true } } }) ∧
      (s.line.sending = none → (s.lane l).endPending = false → s.provisionalOf l = none → x.trap = .none →
        ∃ t, exec (.blockWaitExpiry l) s = .next t ∧ (t.lane l).state = .reporting ∧ (t.lane l).txn = none ∧
          (t.lane l).blockWait = none ∧ (t.lane l).result.cls = .failed ∧ (t.lane l).result.reason = .lineBusy ∧
          t.line.u = s.line.u.filter (fun n => !isBlockNotice x.stamp n) ∧ t.attached = s.attached ∧
          t.lane (otherLane l) = s.lane (otherLane l))) ∧
    ((s.lane l).trapWait = some k → ∀ p, s.provisionalOf l = some p →
      (∀ y, s.line.sending = some y → p.isNotice y.notice = true →
        exec (.trapWaitExpiry l) s = .next
          { s.mapLane l fun c => { c with trapWait := none, txn := some { x with waitExpired := true } } with
            line := { s.line with sending := some { y with withdrawn := true } } }) ∧
      (s.line.sending = none → exec (.trapWaitExpiry l) s = .next
        (State.returnOn
          { s.mapLane l fun c => { c with trapWait := none } with
            line := { s.line with u := s.line.u.filter fun n => !p.isNotice n }
            traps := s.traps.filter fun y => !y.isFor p.title p.rank } l .unconfirmed)) ∧
      (∀ n b basis a, s.line.sending = none → x.operation = .ret → x.item = some n → x.borrower = some b →
        x.found = some ⟨basis, some a⟩ → a.borrower = b → x.due = (a.dueDay, a.dueMinute) →
        x.reckonDay = s.clock.day →
        (s.item? n = none ∧ basis = .roll ∨ ∃ i, s.item? n = some i ∧ i.loan = some a) →
        s.commitRefusal = none → s.overlay.used < 8192 →
        s.memory.faulted = false → s.memory.busy = none → s.memory.waiting = [] →
        exec (.trapWaitExpiry l) s = .next
          { s.mapLane l fun c => { c with
              trapWait := none
              txn := some { x with
                trap := .unconfirmed, hold := none, waitExpired := false, stage := .commit, committed := true
                stamp := s.line.stamps + 1 } } with
            line := { s.line with
              stamps := s.line.stamps + 1, u := s.line.u.filter fun q => !p.isNotice q }
            traps := s.traps.filter fun y => !y.isFor p.title p.rank
            overlay := if (s.item? n).isSome then s.overlay else s.overlay.setRoom l true
            memory := { s.memory with
              requested := s.memory.requested + 1
              busy := some ⟨.append
                { number := s.memory.copies.head + s.memory.requested, stamp := s.line.stamps + 1, kind := .ret
                  lane := l, day := s.clock.day, minute := s.clock.minute, borrower := b, item := n, dueDay := 0
                  dueMinute := 0, holdBorrower := 0, amount := x.fine, outcome := 2, edition := s.edition }, false⟩ } }))

/-! ## Wands and labels (chapter 1) -/

/-- Level changes and the quiet zone at a front end (R3 to R8): a bar after the quiet zone begins a capture, the
end of an element of 3 ticks or more is stored up to 96 counts, a shorter one or a 97th abandons the capture, and a
space of the quiet-zone count ends it: 7 counts or more go to the decoder, fewer are dropped. In DECODING a bar
leaves the condition UNMET, and a space that reaches the count there leaves it as it stands. Only the wand's own
front end and the decoder's choice of wand change. That a space reaches the count once, by its event or by its
length at the next level change, is the model's reading (assumption 32). -/
def Obligations.FrontEndCapturesElements : Prop :=
  ∀ (w : Wand) (s : State), s.port.ready = true →
    let fe := s.wand w
    let short := fun (n : Nat) => fe.reached = true ∨ min n 65535 < s.settings.inForce.quietZone
    (∀ n, fe.level = .space → fe.state = .quiet → (fe.met = true ∨ ¬ short n) →
      exec (.levelChange w n) s = .next (s.setWand w
        { fe with level := .bar, state := .capturing, met := false, reached := false, buffer := [] })) ∧
    (∀ n, fe.level = .space → fe.state = .quiet → fe.met = false → short n →
      exec (.levelChange w n) s = .next (s.setWand w { fe with level := .bar, reached := false })) ∧
    (∀ n, fe.level = .space → fe.state = .decoding →
      exec (.levelChange w n) s = .next (s.setWand w { fe with level := .bar, met := false, reached := false })) ∧
    (∀ n, fe.level = .bar → fe.state ≠ .capturing →
      exec (.levelChange w n) s = .next (s.setWand w { fe with level := .space, reached := false })) ∧
    (∀ n, fe.state = .capturing → (fe.level = .space → short n) → 3 ≤ n →
      let other := match fe.level with
        | .bar => Level.space
        | .space => Level.bar
      (fe.buffer.length < 96 → exec (.levelChange w n) s = .next (s.setWand w
        { fe with level := other, reached := false, buffer := fe.buffer ++ [min n 65535] })) ∧
      (96 ≤ fe.buffer.length → exec (.levelChange w n) s = .next (s.setWand w
        { fe with
          level := other, state := .quiet, met := false, reached := false, buffer := [], tone := some .error }))) ∧
    (∀ n, fe.state = .capturing → (fe.level = .space → short n) → n < 3 →
      let other := match fe.level with
        | .bar => Level.space
        | .space => Level.bar
      exec (.levelChange w n) s = .next (s.setWand w
        { fe with
          level := other, state := .quiet, met := false, reached := false, buffer := []
          tone := if 7 ≤ fe.buffer.length then some .error else fe.tone })) ∧
    (fe.level = .space → fe.state = .quiet →
      exec (.quietZoneReached w) s = .next (s.setWand w { fe with met := true, reached := true })) ∧
    (fe.level = .space → fe.state = .decoding →
      exec (.quietZoneReached w) s = .next (s.setWand w { fe with reached := true })) ∧
    (fe.level = .space → fe.state = .capturing → fe.buffer.length < 7 →
      exec (.quietZoneReached w) s = .next (s.setWand w
        { fe with state := .quiet, met := true, reached := true, buffer := [] })) ∧
    (fe.level = .space → fe.state = .capturing → 7 ≤ fe.buffer.length →
      exec (.quietZoneReached w) s = .next { s.setWand w { fe with state := .decoding, met := true, reached := true } with
        decoding := some (s.decoding.getD w) })

/-- The decoder's work ends (R8, R10, R15, R16, R17, R9): the buffer goes back and a waiting buffer of the other
wand is taken; a decode fault sounds ERROR; the first of two agreeing reads sounds TICK and is held 3 s; an
accepted label is offered to the wand's lane, where a CLOSED lane answers with the REFUSAL tone. The agreement
timer's expiry empties the memory, and a tone's end makes the beeper silent. (What a buffer decodes to is
LabelsDecodeAndCheck.) -/
def Obligations.DecoderJudgesLabels : Prop :=
  (∀ (w : Wand) (s : State), s.decoding = some w →
    let fe := s.wand w
    let back := { fe with state := .quiet, buffer := [] }
    let next := if (s.wand (otherWand w)).state = .decoding then some (otherWand w) else none
    let after := fun (x : FrontEnd) => { s.setWand w x with decoding := next }
    let read := decodeBuffer s.settings.inForce.ratio fe.buffer
    (∀ f, read = .error f → exec .decodeComplete s = .next (after { back with tone := some .error })) ∧
    (∀ ds, read = .ok ds → s.agreementOf w = 2 → fe.agreement ≠ some ds →
      exec .decodeComplete s = .next (after
        { back with tone := some .tick, agreement := some ds, agreementTimer := some 3000 })) ∧
    (∀ ds, read = .ok ds → s.agreementOf w = 2 → fe.agreement = some ds →
      exec .decodeComplete s = .next ((after
        { back with tone := some .goodRead, agreement := none, agreementTimer := none }).offer (s.laneFor w)
          ⟨.wand w, labelKind ds, ds⟩)) ∧
    (∀ ds, read = .ok ds → s.agreementOf w ≠ 2 →
      exec .decodeComplete s = .next ((after { back with tone := some .goodRead }).offer (s.laneFor w)
        ⟨.wand w, labelKind ds, ds⟩) ∧
      ((s.lane (s.laneFor w)).state = .closed →
        exec .decodeComplete s = .next (after { back with tone := some .refusal })))) ∧
  (∀ (w : Wand) (k : Nat) (s : State), (s.wand w).agreementTimer = some k →
    exec (.agreementTimerExpiry w) s = .next (s.setWand w
      { s.wand w with agreement := none, agreementTimer := none })) ∧
  (∀ (w : Wand) (s : State), exec (.toneEnd w) s = .next (s.setWand w { s.wand w with tone := none }))

/-- The check digit catches every error in a single digit of a label (R13: the weights 3 and 1 are prime to 10). A
character of two equal wide and three equal narrow counts that meets the least ratio, followed by a narrow gap,
decodes to the digit whose two wide positions the table of section 1.5 gives; one below the ratio is BAD_RATIO, and
a wide gap after it GAP_FAULT (R11). A buffer of other than 43 or 91 counts is a LENGTH_FAULT (R10). A scan of 6 or
14 clean characters with start W N N and stop W W N against the threshold decodes to its digits, forward and
backward alike, when the check digit holds, and is a CHECK_FAULT when it does not (R10 to R13); with another stop,
or with a lead that is neither W N N nor N W W, it is a FRAME_FAULT, and so is a backward scan whose last three
counts are not N N W (R10, R12). -/
def Obligations.LabelsDecodeAndCheck : Prop :=
  (∀ (ds : List Nat) (i d : Nat), (∀ x ∈ ds, x ≤ 9) → i < ds.length → d ≤ 9 → ds[i]? ≠ some d →
      checkHolds ds = true → checkHolds (ds.set i d) = false) ∧
  (∀ (ratio narrow wide gap a b : Nat), narrow < wide →
      ∀ d, [(1, 2), (1, 3), (1, 4), (1, 5), (2, 3), (2, 4), (2, 5), (3, 4), (3, 5), (4, 5)][d]? = some (a, b) →
        let read := decodeCharacter ratio
          ((List.range 5).map fun j => if j + 1 = a ∨ j + 1 = b then wide else narrow) gap
        (8 * wide < ratio * narrow → read = .error .badRatio) ∧
        (ratio * narrow ≤ 8 * wide → (wide + narrow + 1) / 2 ≤ gap → read = .error .gap) ∧
        (ratio * narrow ≤ 8 * wide → gap < (wide + narrow + 1) / 2 → read = .ok d)) ∧
  (∀ (ratio : Nat) (counts : List Nat), counts.length ≠ 43 → counts.length ≠ 91 →
    decodeBuffer ratio counts = .error .length) ∧
  (∀ (ratio narrow wide gap : Nat) (ds start stop : List Nat), narrow < wide → ratio * narrow ≤ 8 * wide →
    gap < (wide + narrow + 1) / 2 → (ds.length = 6 ∨ ds.length = 14) → (∀ d ∈ ds, d ≤ 9) →
    start.length = 3 → stop.length = 3 →
    let pairs := [(1, 2), (1, 3), (1, 4), (1, 5), (2, 3), (2, 4), (2, 5), (3, 4), (3, 5), (4, 5)]
    let character := fun (d : Nat) => (List.range 5).map fun j =>
      if pairs[d]?.map Prod.fst = some (j + 1) ∨ pairs[d]?.map Prod.snd = some (j + 1) then wide else narrow
    let scan := start ++ [gap] ++ (ds.map fun d => character d ++ [gap]).flatten ++ stop
    let wides := fun (xs : List Nat) => xs.map fun c => decide ((wide + narrow + 1) / 2 ≤ c)
    (wides start = [true, false, false] → wides stop = [true, true, false] →
      let answer := if checkHolds ds = true then Except.ok ds else .error DecodeFault.check
      decodeBuffer ratio scan = answer ∧ decodeBuffer ratio scan.reverse = answer) ∧
    (wides start = [true, false, false] → wides stop ≠ [true, true, false] →
      decodeBuffer ratio scan = .error .frame) ∧
    (wides start ≠ [true, false, false] → wides start ≠ [false, true, true] →
      decodeBuffer ratio scan = .error .frame) ∧
    (wides stop = [true, true, false] → wides start ≠ [true, false, false] →
      decodeBuffer ratio scan.reverse = .error .frame))

/-! ## The memory port (chapters 4, 5 and 7) -/

/-- A roll lookup ends at the borrower check that asked for it (R26, R67, R132): an unknown borrower is
REFUSED(UNKNOWN_BORROWER), a damaged list FAILED(LOOKUP_FAULT); a record found makes the entry, opens the session
with the entry in hand, and reports count, limit and balance. A check that ends otherwise carries WARNING while the
station is INCOMPLETE (R63). No other request is waiting. Which optional fields the result of a check that fails
leaves out is the model's choice (assumption 21). The table's own lookup ends (R67, R73): a record found makes the
borrower's entry and applies the parked tally to it; no record, or a damaged list, drops the parked record and sets
INCOMPLETE. A lane whose cancelled lookup is still in progress asks for nothing until it completes (R43, R131): an
item taken meanwhile waits at LOOKUP, and the completion, whose answer is discarded, lets its lookup be asked for.
That the request waits at the lane is the model's reading (assumption 44). -/
def Obligations.RollLookupsAreAnswered : Prop :=
  (∀ (l : LaneId) (b : Nat) (x : Txn) (s : State), s.memory.busy = some ⟨.rollLookup (.lane l) b, false⟩ →
      s.memory.waiting = [] → (s.lane l).txn = some x → x.operation = .borrowerCheck → x.borrower = some b →
      x.stage = .borrower → x.trap = .none → (s.lane l).session = none → (s.lane l).endPending = false →
      s.entry? b = none → s.provisionalOf l = none →
      let ended := fun (c : ResultClass) (why : Reason) => ∃ t, exec .rollLookupComplete s = .next t ∧
        (t.lane l).state = .reporting ∧ (t.lane l).txn = none ∧ (t.lane l).unread = true ∧ (t.lane l).session = none ∧
        (t.lane l).result = { Result.blank l with
          operation := .borrowerCheck, cls := c, reason := why, mode := (s.lane l).mode
          flags := { ResultFlags.clear with warning := s.standing.incomplete } } ∧
        t.memory = { s.memory with busy := none } ∧ t.standing.entries = s.standing.entries ∧ t.attached = s.attached ∧
        t.line = s.line ∧ t.traps = s.traps ∧ t.lane (otherLane l) = s.lane (otherLane l)
      (s.lookupRoll b = .missing → ended .refused .unknownBorrower) ∧
      (s.lookupRoll b = .fault → ended .failed .lookupFault) ∧
      (∀ roll, s.lookupRoll b = .found roll → s.standing.entries.length < 4096 →
        s.standing.parked.any (·.borrower == b) = false →
        ∃ t, exec .rollLookupComplete s = .next t ∧ (t.lane l).state = .reporting ∧ (t.lane l).txn = none ∧
          (t.lane l).unread = true ∧ (t.lane l).session = some ⟨b, none⟩ ∧ (t.lane l).result.cls = .done ∧
          (t.lane l).result.operation = .borrowerCheck ∧ (t.lane l).result.borrower = some b ∧
          (t.lane l).result.count = some ((roll.loans : Int), s.limitInForce roll.category) ∧
          (t.lane l).result.balance = some (clampInt (-99999) 999999 roll.balance) ∧
          (∃ e, t.entry? b = some e ∧ e.roll = roll ∧ e.own = ⟨0, 0, 0⟩ ∧ e.peers = [] ∧
            (match l with
              | .a => e.handA
              | .b => e.handB) = true ∧
            e.fines = decide ((s.rules.blocking : Int) ≤ clampInt (-99999) 999999 roll.balance)) ∧
          (∀ c, c ≠ b → t.entry? c = s.entry? c) ∧ t.memory = { s.memory with busy := none } ∧ t.attached = s.attached ∧
          t.line = s.line ∧ t.lane (otherLane l) = s.lane (otherLane l))) ∧
  (∀ (p : Parked) (s : State), s.memory.busy = some ⟨.rollLookup .standing p.borrower, false⟩ → s.memory.waiting = [] →
      s.standing.lookup = some ⟨p.borrower, false⟩ → s.standing.parked = [p] → s.entry? p.borrower = none →
      (∀ roll, s.lookupRoll p.borrower = .found roll → s.standing.entries.length < 4096 →
        ∃ t, exec .rollLookupComplete s = .next t ∧ t.standing.parked = [] ∧ t.standing.lookup = none ∧
          t.standing.incomplete = s.standing.incomplete ∧
          (∃ e, t.entry? p.borrower = some e ∧ e.roll = roll ∧ e.own = ⟨0, 0, 0⟩ ∧ e.peers = [⟨p.station, p.tally⟩]) ∧
          (∀ c, c ≠ p.borrower → t.entry? c = s.entry? c) ∧
          t = { s with standing := t.standing, memory := { s.memory with busy := none } }) ∧
      ((s.lookupRoll p.borrower = .missing ∨ s.lookupRoll p.borrower = .fault) →
        exec .rollLookupComplete s = .next { s with
          standing := { s.standing with parked := [], lookup := none, incomplete := true }
          memory := { s.memory with busy := none } })) ∧
  (∀ (l : LaneId) (b n : Nat) (x : Txn) (s : State), s.memory.busy = some ⟨.rollLookup (.lane l) b, true⟩ →
      s.memory.waiting = [] → (s.lane l).txn = some x → x.item = some n → x.stage = .lookup →
      (x.deferred = false → s.askLane l = s.mapLane l fun c => { c with txn := some { x with deferred := true } }) ∧
      (x.deferred = true → s.lookupRoll b = .missing → s.memory.load.loading = false →
        exec .rollLookupComplete s = .next
          { s.mapLane l fun c => { c with txn := some { x with deferred := false } } with
            memory := { s.memory with busy := some ⟨.loansLookup (.lane l) n, false⟩, lastLane := some l } }))

/-- A loans-list lookup ends at the lane that asked for it (R31, R34, R39, R88): an inquiry reports the loan,
NOT_FOUND where the list holds none; a lend of an item on loan is refused ON_LOAN, to the same borrower
ON_LOAN_SAME; a return of an item not on loan is NOT_ON_LOAN; and a damaged list ends the work
FAILED(LOOKUP_FAULT). That the NOT_FOUND record carries the item number and a renew count of 0 is the model's
choice (assumption 21). (The item's status has no place in the 36 bytes: assumption 7.) -/
def Obligations.LoansLookupJudgesTheItem : Prop :=
  ∀ (l : LaneId) (n : Nat) (x : Txn) (s : State), s.memory.busy = some ⟨.loansLookup (.lane l) n, false⟩ →
    s.memory.waiting = [] → (s.lane l).txn = some x → x.item = some n → x.stage = .lookup → x.trap = .none →
    (s.lane l).endPending = false → s.provisionalOf l = none → s.awaitingOwn x = false →
    let reports := fun (t : State) => (t.lane l).state = .reporting ∧ (t.lane l).txn = none ∧
      (t.lane l).unread = true ∧ (t.lane l).session = (s.lane l).session ∧ t.memory = { s.memory with busy := none } ∧
      t.attached = s.attached ∧ t.overlay.entries = s.overlay.entries ∧ t.traps = s.traps ∧ t.line = s.line ∧
      t.lane (otherLane l) = s.lane (otherLane l)
    (x.operation = .inquire → ∀ a, s.lookupLoan n = .found ⟨.roll, some a⟩ →
      ∃ t, exec .loansListLookupComplete s = .next t ∧ reports t ∧
        (t.lane l).result = { Result.blank l with
          operation := .inquire, cls := .done, mode := (s.lane l).mode, item := some n, borrower := some a.borrower
          due := some (a.dueDay, a.dueMinute), renewCount := some a.renewCount, itemOut := some true }) ∧
    (x.operation = .inquire → s.lookupLoan n = .missing →
      ∃ t, exec .loansListLookupComplete s = .next t ∧ reports t ∧
        (t.lane l).result = { Result.blank l with
          operation := .inquire, cls := .done, reason := .notFound, mode := (s.lane l).mode, item := some n
          renewCount := some 0, itemOut := some false }) ∧
    (x.operation = .lend → ∀ b a, x.borrower = some b → s.lookupLoan n = .found ⟨.roll, some a⟩ →
      ∃ t, exec .loansListLookupComplete s = .next t ∧ reports t ∧ (t.lane l).result.cls = .refused ∧
        (t.lane l).result.reason = if a.borrower = b then .onLoanSame else .onLoan) ∧
    (x.operation = .ret → s.lookupLoan n = .missing →
      ∃ t, exec .loansListLookupComplete s = .next t ∧ reports t ∧ (t.lane l).result.cls = .refused ∧
        (t.lane l).result.reason = .notOnLoan) ∧
    (s.lookupLoan n = .fault →
      ∃ t, exec .loansListLookupComplete s = .next t ∧ reports t ∧ (t.lane l).result.cls = .failed ∧
        (t.lane l).result.reason = .lookupFault)

/-- Lending (R29, R30, R31, R32, R63, R64, R74, R89, R90, R110). An item that LOOKUP finds IN is tested in order:
NOT_FOR_LOAN, CLASS_NOT_ALLOWED, BLOCKED, CARD_EXPIRED and LIMIT, which counts the reservations and the loan. Then
the lane takes its reservation, a reckoner's refusal ends the lend, and COMMIT tests: the item still IN, else
ON_LOAN or ON_LOAN_SAME; JOURNAL_FULL, STAMPS_EXHAUSTED, TABLE_FULL; else the LOAN record with the next stamp and
the reckoned due date is requested, in room set aside. A refusal gives the reservation and the room back. A lend
that waited in COMMIT for the lane's discarded lookup, which is the model's reading (assumption 44), makes the
tests of COMMIT in full: a due date reckoned on another day is reckoned again, then ON_LOAN, BLOCKED and LIMIT,
with its reservation counted, and the last three. That a refused lend reports the block reason set is the model's
choice (assumption 21). -/
def Obligations.LendIsCheckedReckonedAndCommitted : Prop :=
  ∀ (l : LaneId) (n b : Nat) (x : Txn) (e : Entry) (s : State), s.memory.waiting = [] → (s.lane l).txn = some x →
    x.operation = .lend → x.item = some n → x.borrower = some b → x.trap = .none → s.entry? b = some e →
    s.overlay.room l = false →
    let lookupEnds := exec .loansListLookupComplete s
    let rule := s.rules.classRule (itemClass n)
    let limit : Int := s.limitInForce e.roll.category
    let effective := fun (r : BlockRecord) (flag : Bool) => match r.state with
      | .roll => flag
      | .raised _ _ => true
      | .lifted _ _ => false
    let blocked := (effective e.lost e.roll.lost || effective e.staff e.roll.staff || e.fines) = true
    let reckoned := s.rules.due (itemClass n) e.roll.expiry s.clock.day s.clock.minute
    let records := s.memory.copies.head - s.memory.copies.tail + s.memory.requested
    let quiet := (s.lane l).endPending = false ∧ s.provisionalOf l = none ∧ s.awaitingOwn x = false
    let refused := fun (why : Reason) => quiet → ∃ t, lookupEnds = .next t ∧ s.endsWork t l .lend .refused b e why
    let goesOn := fun (y : Txn) (due : Nat × Nat) (reservations : Nat) =>
      (16384 ≤ records → refused .journalFull) ∧
      (records < 16384 → 65535 ≤ s.line.stamps → refused .stampsExhausted) ∧
      (records < 16384 → s.line.stamps < 65535 →
        (s.noRoomFor n → refused .tableFull) ∧
        (∀ left, s.roomLeaves n left → s.memory.faulted = false → ∃ t, lookupEnds = .next t ∧
          s.commits t l { y with due := due, reckonDay := s.clock.day } .loan b n due 0 left ∧
          (t.lane l).state = (s.lane l).state ∧
          ∃ e', t.entry? b = some e' ∧ e'.count = e.count ∧ e'.reservations = reservations))
    (s.memory.busy = some ⟨.loansLookup (.lane l) n, false⟩ → s.lookupLoan n = .missing → x.stage = .lookup →
      e.reserved l = false →
      let free := rule.unit ≠ .none ∧ (s.rules.categoryRule e.roll.category).mask.getLsbD (itemClass n) = true
      let allowed := free ∧ ¬ blocked ∧ s.clock.day ≤ e.roll.expiry ∧ e.count + e.reservations + 1 ≤ limit
      (rule.unit = .none → refused .notForLoan) ∧
      (rule.unit ≠ .none → (s.rules.categoryRule e.roll.category).mask.getLsbD (itemClass n) = false →
        refused .classNotAllowed) ∧
      (free → blocked → refused .blocked) ∧
      (free → ¬ blocked → e.roll.expiry < s.clock.day → refused .cardExpired) ∧
      (free → ¬ blocked → s.clock.day ≤ e.roll.expiry → limit < e.count + e.reservations + 1 → refused .limit) ∧
      (allowed → ∀ why, reckoned = .error why → refused why) ∧
      (allowed → ∀ due, reckoned = .ok due →
        (∀ i a, s.item? n = some i → i.loan = some a → refused (if a.borrower = b then .onLoanSame else .onLoan)) ∧
        ((∀ i, s.item? n = some i → i.loan = none) →
          goesOn { x with found := some ⟨.today, none⟩ } due (e.reservations + 1)))) ∧
    (∀ k basis, s.memory.busy = some ⟨.loansLookup (.lane l) k, true⟩ → x.stage = .commit → x.deferred = true →
      x.found = some ⟨basis, none⟩ →
      (x.reckonDay ≠ s.clock.day → ∀ why, reckoned = .error why → refused why) ∧
      (∀ due, (x.reckonDay = s.clock.day ∧ due = x.due ∨ x.reckonDay ≠ s.clock.day ∧ reckoned = .ok due) →
        (∀ i a, s.item? n = some i → i.loan = some a → refused (if a.borrower = b then .onLoanSame else .onLoan)) ∧
        ((∀ i, s.item? n = some i → i.loan = none) →
          (blocked → refused .blocked) ∧
          (¬ blocked → limit < e.count + e.reservations → refused .limit) ∧
          (¬ blocked → e.count + e.reservations ≤ limit → goesOn { x with deferred := false } due e.reservations))))

/-- Renewing (R37, R38, R59, R88, R89, R90, R110). LOOKUP's answer is tested in order: NOT_ON_LOAN, NOT_BORROWERS,
NOT_FOR_LOAN, CARD_EXPIRED, RENEW_LIMIT; then the hold lookup is asked for, whose fault ends the renewal
FAILED(LOOKUP_FAULT) and an untrapped hold ON_HOLD. A reckoner's refusal ends it with its reason. COMMIT tests that
the item is still OUT, NOT_ON_LOAN, to the session's borrower, NOT_BORROWERS, below the renew limit, RENEW_LIMIT,
then JOURNAL_FULL, STAMPS_EXHAUSTED, TABLE_FULL; and requests the RENEW record with the next stamp, the new due
date and the fine accrued against the due date as it now stands, in room set aside. Blocks and FINES do not prevent
it. A test that fails changes nothing but the lane. That a refused renewal reports the block reason set is the
model's choice (assumption 21). -/
def Obligations.RenewalsAreCheckedAndCommitted : Prop :=
  ∀ (l : LaneId) (n b : Nat) (x : Txn) (e : Entry) (s : State), s.memory.waiting = [] → (s.lane l).txn = some x →
    x.operation = .renew → x.item = some n → x.borrower = some b → x.trap = .none → s.entry? b = some e →
    s.overlay.room l = false → e.reserved l = false →
    let rule := s.rules.classRule (itemClass n)
    let quiet := (s.lane l).endPending = false ∧ s.provisionalOf l = none ∧ s.awaitingOwn x = false
    let ends := fun (c : Instr) (cls : ResultClass) (why : Reason) => quiet →
      ∃ t, exec c s = .next t ∧ s.endsWork t l .renew cls b e why
    (s.memory.busy = some ⟨.loansLookup (.lane l) n, false⟩ → x.stage = .lookup →
      let refused := ends .loansListLookupComplete .refused
      (s.lookupLoan n = .missing → refused .notOnLoan) ∧
      (∀ a, s.lookupLoan n = .found ⟨.roll, some a⟩ →
        (a.borrower ≠ b → refused .notBorrowers) ∧
        (a.borrower = b → rule.unit = .none → refused .notForLoan) ∧
        (a.borrower = b → rule.unit ≠ .none → e.roll.expiry < s.clock.day → refused .cardExpired) ∧
        (a.borrower = b → rule.unit ≠ .none → s.clock.day ≤ e.roll.expiry → rule.renewLimit ≤ a.renewCount →
          refused .renewLimit) ∧
        (a.borrower = b → rule.unit ≠ .none → s.clock.day ≤ e.roll.expiry → a.renewCount < rule.renewLimit →
          s.memory.load.loading = false → exec .loansListLookupComplete s = .next
            { s.mapLane l fun c => { c with txn := some { x with found := some ⟨.roll, some a⟩, stage := .hold } } with
              memory := { s.memory with
                busy := some ⟨.holdLookup (.lane l) (itemTitle n), false⟩, lastLane := some l } }))) ∧
    (∀ basis a, s.memory.busy = some ⟨.holdLookup (.lane l) (itemTitle n), false⟩ → x.stage = .hold →
      x.found = some ⟨basis, some a⟩ → a.borrower = b →
      let refused := ends .holdLookupComplete .refused
      let waits := fun (h : Hold) => (s.trap? (itemTitle n) h.rank).all (·.state == .released) = true
      let clear := ∃ hs, s.lookupHolds (itemTitle n) = .found hs ∧ ∀ h ∈ hs, ¬ waits h
      let reckoned := s.rules.due (itemClass n) e.roll.expiry s.clock.day s.clock.minute
      let records := s.memory.copies.head - s.memory.copies.tail + s.memory.requested
      (s.lookupHolds (itemTitle n) = .fault → ends .holdLookupComplete .failed .lookupFault) ∧
      (∀ hs h, s.lookupHolds (itemTitle n) = .found hs → h ∈ hs → waits h → refused .onHold) ∧
      (clear → ∀ why, reckoned = .error why → refused why) ∧
      (clear → ∀ due, reckoned = .ok due →
        (∀ i, s.item? n = some i → i.loan = none → refused .notOnLoan) ∧
        (s.item? n = none → basis = .today → refused .notOnLoan) ∧
        (∀ q, (s.item? n = none ∧ basis = .roll ∧ q = a ∨ ∃ i, s.item? n = some i ∧ i.loan = some q) →
          let fine := s.rules.fine (itemClass n) q.dueDay q.dueMinute s.clock.day s.clock.minute
          let passes := q.borrower = b ∧ q.renewCount < rule.renewLimit
          (q.borrower ≠ b → refused .notBorrowers) ∧
          (q.borrower = b → rule.renewLimit ≤ q.renewCount → refused .renewLimit) ∧
          (passes → 16384 ≤ records → refused .journalFull) ∧
          (passes → records < 16384 → 65535 ≤ s.line.stamps → refused .stampsExhausted) ∧
          (passes → records < 16384 → s.line.stamps < 65535 →
            (s.noRoomFor n → refused .tableFull) ∧
            (∀ left, s.roomLeaves n left → s.memory.faulted = false → ∃ t, exec .holdLookupComplete s = .next t ∧
              s.commits t l { x with fine := fine, due := due, reckonDay := s.clock.day, renewRead := q.renewCount }
                .renew b n due fine left ∧
              (t.lane l).state = (s.lane l).state ∧ t.standing = s.standing)))))

/-- A return whose hold lookup finds a title with no untrapped hold, or a damaged hold list, goes to COMMIT with no
trap (R35), and COMMIT tests in order (R36): the item, as the overlay or else LOOKUP has it, is still OUT to the
borrower, NOT_ON_LOAN, where an item found OUT with basis TODAY that has no entry any more is IN (R88, R90);
JOURNAL_FULL; STAMPS_EXHAUSTED; TABLE_FULL (R89). Else its RETURN record is requested with the next stamp and the
fine, reckoned again where the day or the due date has changed, in room set aside (R110, R137). The lowest
untrapped hold is trapped PROVISIONAL with a TRAP notice of the next stamp and a wait of 2 s (R95, R97). That a
refused return reports the block reason set is the model's choice (assumption 21), and so is that it does not report
the HOLD_NOT_CHECKED that a damaged hold list has set (assumption 59). -/
def Obligations.HoldLookupTrapsOrCommitsAReturn : Prop :=
  ∀ (l : LaneId) (n b : Nat) (basis : Basis) (a : LoanPart) (x : Txn) (e : Entry) (s : State),
    s.memory.busy = some ⟨.holdLookup (.lane l) (itemTitle n), false⟩ → s.memory.waiting = [] →
    (s.lane l).txn = some x → x.operation = .ret → x.item = some n → x.borrower = some b → x.stage = .hold →
    x.found = some ⟨basis, some a⟩ → x.trap = .none → s.entry? b = some e → e.reserved l = false →
    s.overlay.room l = false →
    let out := fun (q : LoanPart) =>
      s.item? n = none ∧ basis = .roll ∧ q = a ∨ ∃ i, s.item? n = some i ∧ i.loan = some q
    let records := s.memory.copies.head - s.memory.copies.tail + s.memory.requested
    let quiet := (s.lane l).endPending = false ∧ s.provisionalOf l = none ∧ s.awaitingOwn x = false
    let refused := fun (why : Reason) => quiet → ∃ t, exec .holdLookupComplete s = .next t ∧
      s.endsWork t l .ret .refused b e why
    let commits := fun (y : Txn) =>
      ((∀ q, out q → q.borrower ≠ b) → refused .notOnLoan) ∧
      (∀ q, out q → q.borrower = b →
        let fine := if s.clock.day = x.reckonDay ∧ x.due = (q.dueDay, q.dueMinute) then x.fine
          else s.rules.fine (itemClass n) q.dueDay q.dueMinute s.clock.day s.clock.minute
        (16384 ≤ records → refused .journalFull) ∧
        (records < 16384 → 65535 ≤ s.line.stamps → refused .stampsExhausted) ∧
        (records < 16384 → s.line.stamps < 65535 →
          (s.noRoomFor n → refused .tableFull) ∧
          (∀ left, s.roomLeaves n left → s.memory.faulted = false → ∃ t, exec .holdLookupComplete s = .next t ∧
            s.commits t l { y with
              hold := none, waitExpired := false, fine := fine, due := (q.dueDay, q.dueMinute), reckonDay := s.clock.day }
              .ret b n (0, 0) fine left ∧
            (t.lane l).state = (s.lane l).state ∧ t.standing = s.standing)))
    (∀ hs, s.lookupHolds (itemTitle n) = .found hs → (∀ h ∈ hs, s.untrapped (itemTitle n) h = false) →
      commits { x with holds := hs, trap := .none }) ∧
    (s.lookupHolds (itemTitle n) = .fault → commits { x with trap := .notChecked }) ∧
    (∀ hs h, s.lookupHolds (itemTitle n) = .found hs → s.firstUntrapped (itemTitle n) hs = some h →
      s.trap? (itemTitle n) h.rank = none → s.traps.length < 512 → s.line.u.length < 8 → s.line.stamps < 65535 →
      (s.lane l).trapWait = none →
      exec .holdLookupComplete s = .next { s.mapLane l fun c => { c with
          trapWait := some 2000, txn := some { x with holds := hs, stage := .awaitTrap, hold := some h } } with
        memory := { s.memory with busy := none }
        line := { s.line with
          stamps := s.line.stamps + 1
          u := s.line.u ++
            [⟨s.line.stamps + 1, 255, .trap ⟨itemTitle n, h.rank, h.borrower, n⟩ s.number .trapped⟩] }
        traps := s.traps ++
          [⟨itemTitle n, h.rank, h.borrower, n, s.number, .provisional l false, s.line.stamps + 1⟩] })

/-- A verified append (R137): the head field takes the record's number plus one, the record's 32 bytes stand in its
slot, no other byte of the memory changes, and the count of requested appends falls. A PAYMENT then reduces the own
balance, hands its notice and reports amount and balance (R42, R69, R108). A verified append of a loan (R33, R69,
R91): the own net loans rise by one, the reservation and the room go back, the overlay holds the item OUT to the
borrower on the basis found at LOOKUP, in the room set aside for it where it had no entry (R89), the LOAN notice is
handed with the record's stamp, and the lane reports DONE with the due date. Its ITEM DUE line goes onto the
session's slip, a new one, or one that continues a full slip (R146, R147), and its pad is asked to desensitise
(R156). A verified append of a block or lift (R41, R69, R76, R78): its awaiting own action is applied, unless a
later action of a peer was heard, and leaves the record; an action made in listen-only, with none awaiting, is
applied and its BLOCK notice handed with the record's stamp, also with the counter at 65,535, the model's choice
(assumption 51). The lane reports DONE with the borrower's block reason set. -/
def Obligations.AppendsCompletePaymentsAndLoans : Prop :=
  (∀ (r : JournalRecord) (b : Nat) (x : Txn) (e : Entry) (s : State), s.memory.busy = some ⟨.append r, false⟩ →
      s.memory.waiting = [] → s.memoryCanonical → r.kind = .payment → (s.lane r.lane).txn = some x →
      x.operation = .payment → x.borrower = some b → x.stamp = r.stamp → s.entry? b = some e →
      (s.lane r.lane).endPending = false → s.line.s.length < 32 →
      ∃ t, exec (.appendComplete .verified) s = .next t ∧
        t.attached.header = { s.attached.header with head := s.attached.header.head.write (r.number + 1) true } ∧
        t.slotBytes r.number = r.bytes ∧
        (∀ a, a < slotAddress r.number ∨ slotAddress r.number + 32 ≤ a →
          Memory.read t.attached.cells a = Memory.read s.attached.cells a) ∧
        t.memory = { s.memory with
          busy := none, requested := s.memory.requested - 1, copies := { s.memory.copies with head := r.number + 1 } } ∧
        (∃ e', t.entry? b = some e' ∧
          e'.own = ⟨clampLoans e.own.loans, clampBalance (e.own.balance - x.amount), max e.own.stamp r.stamp⟩ ∧
          e'.roll = e.roll ∧ e'.peers = e.peers ∧
          t.line = { s.line with s := s.line.s ++ [⟨r.stamp, 255, .payment ⟨b, e'.own.loans, e'.own.balance⟩⟩] } ∧
          (t.lane r.lane).result.balance = some e'.balance) ∧
        (t.lane r.lane).state = .reporting ∧ (t.lane r.lane).txn = none ∧ (t.lane r.lane).result.cls = .done ∧
        (t.lane r.lane).result.operation = .payment ∧ (t.lane r.lane).result.amount = some x.amount ∧
        t.lane (otherLane r.lane) = s.lane (otherLane r.lane) ∧ t.overlay = s.overlay ∧ t.traps = s.traps) ∧
  (∀ (r : JournalRecord) (b n : Nat) (basis : Basis) (x : Txn) (e : Entry) (s : State),
      s.memory.busy = some ⟨.append r, false⟩ → s.memory.waiting = [] → r.kind = .loan → (s.lane r.lane).txn = some x → x.operation = .lend →
      x.borrower = some b → x.item = some n → x.found = some ⟨basis, none⟩ → x.stamp = r.stamp → s.entry? b = some e →
      (s.lane r.lane).endPending = false → s.line.s.length < 32 →
      ((s.item? n).isSome = true ∨ s.overlay.used ≤ 8192 ∧
        (match r.lane with
          | .a => s.overlay.roomA
          | .b => s.overlay.roomB) = true) →
      ∃ t, exec (.appendComplete .verified) s = .next t ∧ t.memory.copies.head = r.number + 1 ∧
        (∃ e', t.entry? b = some e' ∧ e'.own.loans = clampLoans (e.own.loans + 1) ∧
          e'.own.balance = clampBalance e.own.balance ∧ e'.own.stamp = max e.own.stamp r.stamp ∧
          (match r.lane with
            | .a => e'.reservedA
            | .b => e'.reservedB) = false ∧
          t.line = { s.line with s := s.line.s ++
            [⟨r.stamp, 255, .loan ⟨b, e'.own.loans, e'.own.balance⟩ n basis x.due.1 x.due.2 0⟩] }) ∧
        t.item? n = some ⟨n, basis, some ⟨b, x.due.1, x.due.2, 0⟩, s.number, r.stamp⟩ ∧
        (∀ k, k ≠ n → t.item? k = s.item? k) ∧
        (match r.lane with
          | .a => t.overlay.roomA
          | .b => t.overlay.roomB) = false ∧
        (t.lane r.lane).state = .reporting ∧ (t.lane r.lane).txn = none ∧ (t.lane r.lane).result.cls = .done ∧
        (t.lane r.lane).result.operation = .lend ∧ (t.lane r.lane).result.borrower = some b ∧
        (t.lane r.lane).result.item = some n ∧ (t.lane r.lane).result.due = some x.due ∧
        t.lane (otherLane r.lane) = s.lane (otherLane r.lane) ∧ t.traps = s.traps ∧
        s.itemDueLeaves t r.lane n x.due ∧ s.pulseLeaves t r.lane x.source .desensitise) ∧
  (∀ (r : JournalRecord) (b : Nat) (x : Txn) (e : Entry) (lifts : Bool) (s : State),
      s.memory.busy = some ⟨.append r, false⟩ → s.memory.waiting = [] → (s.lane r.lane).txn = some x →
      x.operation = (if lifts then .lift else .block) → x.borrower = some b → x.stamp = r.stamp → s.entry? b = some e →
      (s.lane r.lane).endPending = false →
      let action := if lifts then BlockAction.lift else .raise
      let applied := if lifts then BlockState.lifted s.number r.stamp else .raised s.number r.stamp
      let record := fun (y : Entry) => match x.blockReason with
        | .lost => y.lost
        | .staff => y.staff
      let completes := fun (state : BlockState) (line : Entry → LineCtl) =>
        ∃ t e', exec (.appendComplete .verified) s = .next t ∧ t.memory.copies.head = r.number + 1 ∧
          t.entry? b = some e' ∧ record e' = ⟨state, []⟩ ∧
          (match x.blockReason with
            | .lost => e'.staff = e.staff
            | .staff => e'.lost = e.lost) ∧
          e'.own = ⟨clampLoans e.own.loans, clampBalance e.own.balance, max e.own.stamp r.stamp⟩ ∧ e'.roll = e.roll ∧
          e'.peers = e.peers ∧ t.line = line e' ∧ (t.lane r.lane).state = .reporting ∧ (t.lane r.lane).txn = none ∧
          (t.lane r.lane).result.cls = .done ∧ (t.lane r.lane).result.operation = x.operation ∧
          (t.lane r.lane).result.blocks = e'.blockSet s.clock.day ∧
          t.lane (otherLane r.lane) = s.lane (otherLane r.lane) ∧ t.overlay = s.overlay ∧ t.traps = s.traps
      (∀ heard, (record e).awaiting = [⟨action, r.stamp, heard⟩] →
        completes (if heard then (record e).state else applied) fun _ => s.line) ∧
      ((record e).awaiting = [] → s.line.u.length < 8 → completes applied fun e' => { s.line with
        u := s.line.u ++ [⟨r.stamp, 255, .block ⟨b, e'.own.loans, e'.own.balance⟩ action x.blockReason⟩] }))

/-- A verified append of a return or a renewal (R36, R38, R69, R89, R91): the own tally takes the loan off, or
keeps it, and the fine on; the overlay holds the item, on the basis found at LOOKUP, IN, or OUT with the new due
date and the renew count read at COMMIT plus one; the RETURN or RENEW notice is handed with the record's stamp; and
the lane reports DONE with the fine and the balance. A fine of a return makes a FINE slip and a trap that still
stands a HOLD slip, HELD or READY, each where a record is FREE (R149, R150); the return's pad is asked to
resensitise (R156); a renewal adds its ITEM DUE line (R146, R147) and asks no pad. (That the FINE slip shows the
due day read at COMMIT is the model's reading: assumption 22.) -/
def Obligations.AppendsCompleteReturnsAndRenewals : Prop :=
  ∀ (r : JournalRecord) (b n : Nat) (basis : Basis) (a : LoanPart) (x : Txn) (e : Entry) (s : State),
    s.memory.busy = some ⟨.append r, false⟩ → s.memory.waiting = [] → (s.lane r.lane).txn = some x →
    x.borrower = some b → x.item = some n → x.found = some ⟨basis, some a⟩ → x.stamp = r.stamp →
    s.entry? b = some e → (s.lane r.lane).endPending = false → s.line.s.length < 32 →
    ((s.item? n).isSome = true ∨ s.overlay.used ≤ 8192 ∧
      (match r.lane with
        | .a => s.overlay.roomA
        | .b => s.overlay.roomB) = true) →
    let completes := fun (loans : Int) (loan : Option LoanPart) (body : TallyPart → Body) (holds : State → Prop) =>
      ∃ t e', exec (.appendComplete .verified) s = .next t ∧ t.memory.copies.head = r.number + 1 ∧
        t.entry? b = some e' ∧
        e'.own = ⟨clampLoans (e.own.loans + loans), clampBalance (e.own.balance + x.fine), max e.own.stamp r.stamp⟩ ∧
        t.item? n = some ⟨n, basis, loan, s.number, r.stamp⟩ ∧ (∀ k, k ≠ n → t.item? k = s.item? k) ∧
        (match r.lane with
          | .a => t.overlay.roomA
          | .b => t.overlay.roomB) = false ∧
        t.line = { s.line with s := s.line.s ++ [⟨r.stamp, 255, body ⟨b, e'.own.loans, e'.own.balance⟩⟩] } ∧
        (t.lane r.lane).state = .reporting ∧ (t.lane r.lane).txn = none ∧ (t.lane r.lane).result.cls = .done ∧
        (t.lane r.lane).result.operation = x.operation ∧ (t.lane r.lane).result.borrower = some b ∧
        (t.lane r.lane).result.item = some n ∧ (t.lane r.lane).result.amount = some x.fine ∧
        (t.lane r.lane).result.balance = some e'.balance ∧ t.lane (otherLane r.lane) = s.lane (otherLane r.lane) ∧
        t.traps = s.traps ∧ holds t
    (x.operation = .ret → completes (-1) none (fun p => .ret p n basis) fun t =>
      (t.lane r.lane).result.flags.holdTrapped = (x.trap == .trapped) ∧
      (t.lane r.lane).result.flags.holdUnconfirmed = (x.trap == .unconfirmed) ∧
      (t.lane r.lane).result.flags.holdNotChecked = (x.trap == .notChecked) ∧
      (x.trap ≠ .trapped → x.fine = 0 → t.slips.slips = s.slips.slips ∧ t.slips.queue = s.slips.queue) ∧
      (x.trap ≠ .trapped → x.fine ≠ 0 → ∀ i, s.freeSlip = some i →
        (t.lane r.lane).result.flags.noSlip = false ∧ i ∈ t.slips.queue ∧ (t.slip i).kind = some .fine ∧
          SlipLine.fine n (dateOf x.due.1) x.fine ∈ (t.slip i).lines) ∧
      s.returnSlipsLeave t r.lane x n b ∧ s.pulseLeaves t r.lane x.source .resensitise) ∧
    (x.operation = .renew → completes 0 (some ⟨b, x.due.1, x.due.2, x.renewRead + 1⟩)
      (fun p => .renew p n basis x.due.1 x.due.2 (x.renewRead + 1)) fun t =>
        (t.lane r.lane).result.due = some x.due ∧ (t.lane r.lane).result.renewCount = some (x.renewRead + 1) ∧
        s.itemDueLeaves t r.lane n x.due ∧ t.slips.pad0 = s.slips.pad0 ∧ t.slips.pad1 = s.slips.pad1)

/-- An append whose head write or slot fails its read-back takes the station to FAULT: the lane's work ends
FAILED(MEMORY_FAULT), both lanes close, STATION FAULT is latched, and the bytes outside the record's slot stand
(R129, R137, R142, R188). (A failed header write is a damaged cell: assumption 13.) -/
def Obligations.FailingAppendsFaultTheStation : Prop :=
  ∀ (r : JournalRecord) (x : Txn) (s : State), s.memory.busy = some ⟨.append r, false⟩ →
    (s.lane r.lane).txn = some x → s.memoryCanonical →
    ∀ e, (e = .headFails ∨ ∃ bs, bs ≠ r.bytes ∧ e = .readsBack bs) →
      ∃ t, exec (.appendComplete e) s = .next t ∧ t.station = .fault ∧ t.memory.faulted = true ∧ t.memory.busy = none ∧
        t.memory.waiting = [] ∧ t.port.pending.getLsbD 0 = true ∧ (t.lane .a).state = .closed ∧
        (t.lane .b).state = .closed ∧ (t.lane r.lane).result.cls = .failed ∧
        (t.lane r.lane).result.reason = .memoryFault ∧ (t.lane r.lane).result.operation = x.operation ∧
        t.memory.copies = s.memory.copies ∧
        (∀ a, a < slotAddress r.number ∨ slotAddress r.number + 32 ≤ a →
          Memory.read t.attached.cells a = Memory.read s.attached.cells a)

/-- ROLL BEGIN (R126, R134): with the lanes free, the loading path quiet and the journal empty, the on-chip edition
becomes 0, the load state LOADING with nothing loaded, the header write is asked for, and the queues keep only
frames that carry no edition check; requests and RESTATE OWED are dropped. Otherwise NOT_READY (1), FAULT (2), BUSY
or JOURNAL_NOT_EMPTY (16). Its write then puts edition 0 into the header. One that fails its read-back, or is
dropped waiting by a memory fault, takes the station to FAULT and stays marked for the next start (R129, R142; the
mark is assumption 45). -/
def Obligations.RollBeginStartsALoad : Prop :=
  (∀ s : State, s.serves = true →
    let answers := fun (b : Byte) => exec .rollBegin s = .next { s with port := s.portAfter [b] .none }
    let admitted := s.station ≠ .starting ∧ s.station ≠ .replaying ∧ s.memory.faulted = false
    ((s.station = .starting ∨ s.station = .replaying) → answers 0x81#8) ∧
    (s.station ≠ .starting → s.station ≠ .replaying → s.memory.faulted = true → answers 0x82#8) ∧
    (admitted → (s.laneFree .a = false ∨ s.laneFree .b = false) → answers 1#8) ∧
    (admitted → s.laneFree .a = true → s.laneFree .b = true → s.loadingBusy = false →
      (s.memory.copies.head ≠ s.memory.copies.tail ∨ s.memory.requested ≠ 0) → answers 0x90#8) ∧
    (admitted → s.laneFree .a = true → s.laneFree .b = true → s.memory.busy = none → s.memory.waiting = [] →
      s.memory.copies.head = s.memory.copies.tail → s.memory.requested = 0 → s.line.sending = none →
      (∀ n ∈ s.line.u, kindCode n.body ≠ 2) →
      exec .rollBegin s = .next { s with
        memory := { s.memory with
          copies := { s.memory.copies with edition := 0 }, busy := some ⟨.rollBeginWrite, false⟩, beginUnwritten := true
          load := ⟨true, ⟨0, none, none⟩, ⟨0, none, none⟩, ⟨0, none, none⟩⟩ }
        line := { s.line with
          u := s.line.u.filter fun n => !codeEditionChecked (kindCode n.body)
          s := s.line.s.filter fun n => !codeEditionChecked (kindCode n.body)
          b := s.line.b.filter fun n => !codeEditionChecked (kindCode n.body)
          peers := s.line.peers.map fun p => { p with request := none }
          broadcastOwed := false, restateOwed := false, engine := .idle }
        port := s.portAfter [0#8] .none })) ∧
  (∀ s : State, s.memory.busy = some ⟨.rollBeginWrite, false⟩ → s.memory.waiting = [] →
    exec (.rollBeginWriteComplete .verified) s = .next { s with
      attached := { s.attached with header := { s.attached.header with
        edition := s.attached.header.edition.write 0 true } }
      memory := { s.memory with
        busy := none, copies := { s.memory.copies with edition := 0 }, beginUnwritten := false } }) ∧
  (∀ (d : Bool) (s : State), s.memory.beginUnwritten = true →
    let kept := fun (c : Instr) => ∃ t, exec c s = .next t ∧ t.station = .fault ∧ t.memory.faulted = true ∧
      t.memory.waiting = [] ∧ t.memory.beginUnwritten = true
    (s.memory.busy = some ⟨.rollBeginWrite, d⟩ → kept (.rollBeginWriteComplete (.failsAt 0))) ∧
    (s.memory.busy = some ⟨.takeSnapshot, false⟩ → ⟨.rollBeginWrite, d⟩ ∈ s.memory.waiting →
      kept (.takeSnapshotComplete (.failsAt 0))))

/-- ROLL CHUNK (R135): entries in range at the list's next index are asked to be written, and the answer is the
index after them; the tests refuse NOT_LOADING (17), BAD_ENTRY (9), BAD_INDEX (18) and AREA_FULL (19). When the
write verifies, the entries' bytes stand at their places with their check bytes and no other byte changes. -/
def Obligations.RollChunkWritesEntries : Prop :=
  (∀ (l : ListId) (first : BitVec 32) (count : Byte) (entries : List (List Byte)) (s : State), s.serves = true →
    entries.length = 4 →
    let x := s.memory.load.list l
    let chunk := exec (.rollChunk (byteOf l.code) first count entries) s
    let given := entries.take count.toNat
    let answers := fun (b : Byte) => chunk = .next { s with port := s.portAfter [b, 0#8, 0#8, 0#8, 0#8] .none }
    let counted := 1 ≤ count.toNat ∧ count.toNat ≤ 4
    (s.memory.load.loading = false → answers 0x91#8) ∧
    (s.memory.load.loading = true → s.loadingBusy = true → answers 1#8) ∧
    (s.memory.load.loading = true → s.loadingBusy = false → ¬ counted → answers 0x89#8) ∧
    (s.memory.load.loading = true → s.loadingBusy = false → counted → first.toNat ≠ x.next → answers 0x92#8) ∧
    (s.memory.load.loading = true → s.loadingBusy = false → counted → first.toNat = x.next →
      l.capacity < x.next + count.toNat → answers 0x93#8) ∧
    (s.memory.load.loading = true → s.loadingBusy = false → counted → first.toNat = x.next →
      x.next + count.toNat ≤ l.capacity → given.all l.inRange = false → answers 0x89#8) ∧
    (s.memory.load.loading = true → s.memory.busy = none → s.memory.waiting = [] → counted → first.toNat = x.next →
      x.next + count.toNat ≤ l.capacity → given.all l.inRange = true →
      ∃ y, y.next = x.next + count.toNat ∧ y = (given.map l.key).foldl LoadList.addKey x ∧
        chunk = .next { s with
          memory := { s.memory with
            load := s.memory.load.setList l y, busy := some ⟨.chunkWrite l first.toNat given, false⟩ }
          port := s.portAfter (0#8 :: bytesOf 4 y.next) .none })) ∧
  (∀ (l : ListId) (first : Nat) (given : List (List Byte)) (s : State),
    s.memory.busy = some ⟨.chunkWrite l first given, false⟩ → s.memory.waiting = [] → s.memoryCanonical →
    first + given.length ≤ l.capacity →
    ∃ t, exec (.chunkWriteComplete .verified) s = .next t ∧
      (∀ i e, given[i]? = some e → t.entryBytes l (first + i) = withCheck (l.stored e)) ∧
      (∀ a, (a < l.base + 16 * first ∨ l.base + 16 * (first + given.length) ≤ a) →
        Memory.read t.attached.cells a = Memory.read s.attached.cells a) ∧
      t = { s with memory := { s.memory with busy := none }, attached := t.attached } ∧
      t.attached.header = s.attached.header)

/-- ROLL END (R136): counts that agree and lists in order ask for the edition write and end LOADING; outside
LOADING it is REFUSED(NOT_LOADING), reason 17, and with a write of the loading path outstanding BUSY; edition 0, a
count or an order mark of any list refuses, with the first list at fault in the order roll, loans list, hold list.
When the write verifies, the header and its copies hold the counts, the edition's start and the edition, and the
standing table, the overlay and the trap table are empty, the stamps 0 and INCOMPLETE clear (R83, R105, R126). -/
def Obligations.RollEndBringsTheNewEdition : Prop :=
  (∀ (edition : Byte) (roll loans holds : BitVec 32) (s : State), s.serves = true →
    let c := s.memory.load
    let ends := exec (.rollEnd edition roll loans holds) s
    let answers := fun (reason list : Byte) (i : Nat) => ends = .next { s with
      port := s.portAfter (reason :: list :: bytesOf 4 i) .none }
    let counts := roll.toNat = c.roll.next ∧ loans.toNat = c.loans.next ∧ holds.toNat = c.holds.next
    let tested := c.loading = true ∧ s.loadingBusy = false ∧ edition ≠ 0
    (c.loading = false → answers 0x91#8 0#8 0) ∧
    (c.loading = true → s.loadingBusy = true → answers 1#8 0#8 0) ∧
    (c.loading = true → s.loadingBusy = false → edition = 0 → answers 0x94#8 0#8 0) ∧
    (tested → roll.toNat ≠ c.roll.next → answers 0x95#8 1#8 c.roll.next) ∧
    (tested → roll.toNat = c.roll.next → loans.toNat ≠ c.loans.next → answers 0x95#8 2#8 c.loans.next) ∧
    (tested → roll.toNat = c.roll.next → loans.toNat = c.loans.next → holds.toNat ≠ c.holds.next →
      answers 0x95#8 3#8 c.holds.next) ∧
    (tested → counts → ∀ i, c.roll.order = some i → answers 0x96#8 1#8 i) ∧
    (tested → counts → c.roll.order = none → ∀ i, c.loans.order = some i → answers 0x96#8 2#8 i) ∧
    (tested → counts → c.roll.order = none → c.loans.order = none → ∀ i, c.holds.order = some i →
      answers 0x96#8 3#8 i) ∧
    (tested → counts → c.roll.order = none → c.loans.order = none → c.holds.order = none → s.memory.busy = none →
      s.memory.waiting = [] → ends = .next { s with
        memory := { s.memory with
          load := { c with loading := false }
          busy := some ⟨.editionWrite edition.toNat roll.toNat loans.toNat holds.toNat, false⟩ }
        port := s.portAfter (0#8 :: bytesOf 5 0) .none })) ∧
  (∀ (edition roll loans holds : Nat) (s : State),
    s.memory.busy = some ⟨.editionWrite edition roll loans holds, false⟩ → s.memory.waiting = [] →
    ∃ t, exec (.editionWriteComplete .verified) s = .next t ∧
      t.memory = { s.memory with
        busy := none
        copies := { s.memory.copies with
          rollCount := roll, loansCount := loans, holdCount := holds, editionStart := s.memory.copies.head
          edition := edition } } ∧
      t.attached = { s.attached with header := { s.attached.header with
        rollCount := s.attached.header.rollCount.write roll true
        loansCount := s.attached.header.loansCount.write loans true
        holdCount := s.attached.header.holdCount.write holds true
        editionStart := s.attached.header.editionStart.write s.memory.copies.head true
        edition := s.attached.header.edition.write edition true } } ∧
      t.standing = { s.standing with
        entries := [], uses := 0, parked := [], incomplete := false
        lookup := s.standing.lookup.map fun x => { x with discard := true } } ∧
      t.overlay = ⟨[], false, false⟩ ∧ t.traps = [] ∧
      t.line = { s.line with stamps := 0, peers := s.line.peers.map fun p => { p with lastStamp := 0 } } ∧
      t.laneA = s.laneA ∧ t.laneB = s.laneB ∧ t.clock = s.clock ∧ t.upload = s.upload ∧ t.station = s.station)

/-- JOURNAL QUERY and QUERY NEXT (R139, R140): an accepted query, EQUAL to a borrower, an item or a record number
or AT OR ABOVE a record number, scans from tail to the head of that moment, the answer being the head; it replaces
a query in progress, whose read is discarded when it completes; a record read that matches at the step is buffered,
a record that does not goes by; QUERY NEXT hands the buffered record over, answers BUSY while scanning without one,
and 2 at the end. That a comparison above 1 is BAD_ENTRY whatever the station's state is the model's choice
(assumption 30). That the read of a replaced query tests nothing, and that byte 2 of the parameters is ignored in a
record-number query, are the model's choices too (assumptions 42 and 61). -/
def Obligations.JournalQueryScansTheJournal : Prop :=
  (∀ (value : BitVec 40) (step : Byte) (s : State), s.serves = true → s.memory.faulted = false →
    s.station ≠ .starting → s.station ≠ .replaying → step ≠ 0 → s.memory.waiting = [] →
    s.memory.copies.tail < s.memory.copies.head →
    let query := fun (field : QueryField) (above : Bool) (v : Nat) => ({
        state := .scanning, field := field, atOrAbove := above, value := v, step := step.toNat
        position := s.memory.copies.tail, finish := s.memory.copies.head, found := 0, buffer := none } : Query)
    let scans := fun (field comparison : Byte) (q : Query) =>
      (s.memory.busy = none → exec (.journalQuery field comparison value step) s = .next { s with
        memory := { s.memory with busy := some ⟨.queryRead, false⟩, query := q }
        port := s.portAfter (0#8 :: bytesOf 4 s.memory.copies.head) .none }) ∧
      (∀ d, s.memory.busy = some ⟨.queryRead, d⟩ → exec (.journalQuery field comparison value step) s = .next { s with
        memory := { s.memory with busy := some ⟨.queryRead, true⟩, query := q }
        port := s.portAfter (0#8 :: bytesOf 4 s.memory.copies.head) .none })
    scans 0 0 (query .borrower false value.toNat) ∧ scans 1 0 (query .item false value.toNat) ∧
      scans 2 0 (query .number false (value.toNat % 2 ^ 32)) ∧ scans 2 1 (query .number true (value.toNat % 2 ^ 32))) ∧
  (∀ s : State, s.memory.busy = some ⟨.queryRead, true⟩ → s.memory.waiting = [] →
    let q := s.memory.query
    q.state = .scanning → q.buffer = none → s.memory.copies.tail ≤ q.position → q.position < q.finish →
    exec .queryReadComplete s = .next { s with memory := { s.memory with busy := some ⟨.queryRead, false⟩ } }) ∧
  (∀ (q : Query) (bs : List Byte) (n : Nat), q.matches bs n = match q.field with
    | .borrower => natAt bs 11 5 == q.value
    | .item => natAt bs 16 5 == q.value
    | .number => if q.atOrAbove then decide (q.value ≤ n) else n == q.value) ∧
  (∀ (c : Byte) (value : BitVec 40) (step : Byte) (s : State), s.serves = true → 1 < c.toNat →
    exec (.journalQuery 0 c value step) s = .next { s with port := s.portAfter (0x89#8 :: bytesOf 4 0) .none }) ∧
  (∀ s : State, s.memory.busy = some ⟨.queryRead, false⟩ → s.memory.waiting = [] →
    let q := s.memory.query
    let bs := s.slotBytes q.position
    q.state = .scanning → q.buffer = none → s.memory.copies.tail ≤ q.position → q.position < q.finish →
    slotHolds bs q.position = true →
    (q.matches bs q.position = true → q.found % q.step = 0 →
      exec .queryReadComplete s = .next { s with memory := { s.memory with
        busy := none
        query := { q with
          position := q.position + 1, found := q.found + 1, buffer := some bs
          state := if q.finish ≤ q.position + 1 then .ended else .scanning } } }) ∧
    (q.matches bs q.position = false → q.position + 1 < q.finish →
      exec .queryReadComplete s = .next { s with memory := { s.memory with
        busy := some ⟨.queryRead, false⟩, query := { q with position := q.position + 1 } } })) ∧
  (∀ s : State, s.serves = true →
    let q := s.memory.query
    (∀ bs, q.state ≠ .none → q.buffer = some bs →
      exec .queryNext s = .next { s with port := s.portAfter (0#8 :: 1#8 :: bytesAt bs 0 32) .query }) ∧
    (q.state = .scanning → q.buffer = none →
      exec .queryNext s = .next { s with port := s.portAfter (1#8 :: List.replicate 33 0#8) .none }) ∧
    (q.state = .ended → q.buffer = none →
      exec .queryNext s = .next { s with port := s.portAfter (0#8 :: 2#8 :: List.replicate 32 0#8) .none }) ∧
    (q.state = .none →
      exec .queryNext s = .next { s with port := s.portAfter (0#8 :: List.replicate 33 0#8) .none }))

/-- The upload requests at a sender away from the gateway (R138, R169, R170, R171): a snapshot taken writes it,
fixes the range and hands UPLOAD BEGIN; a read that holds hands the block's first try and starts the receipt timer;
marks moved write send first and tail second and go on to the next block. -/
def Obligations.UploadRequestsDriveTheSender : Prop :=
  ∀ (g : Nat) (s : State), s.upload.sender.gateway = some g → g ≠ s.number → s.memory.waiting = [] →
    let x := s.upload.sender
    let c := s.memory.copies
    (s.memory.busy = some ⟨.takeSnapshot, false⟩ → s.line.s.length < 32 →
      exec (.takeSnapshotComplete .verified) s = .next { s with
        attached := { s.attached with header := { s.attached.header with
          snapshot := s.attached.header.snapshot.write c.head true } }
        memory := { s.memory with busy := none, copies := { c with snapshot := c.head } }
        upload := { s.upload with sender := { x with
          state := .beginning, first := c.tail, count := c.head - c.tail, beginTimer := some 10000 } }
        line := { s.line with s := s.line.s ++ [⟨0, g, .uploadBegin c.tail (c.head - c.tail)⟩] } }) ∧
    (∀ first count, s.memory.busy = some ⟨.uploadRead first count, false⟩ → c.tail ≤ first → first + count ≤ c.head →
      (∀ i < count, slotHolds (s.slotBytes (first + i)) (first + i) = true) → s.line.b.length < 16 →
      let records := (List.range count).map fun i => s.slotBytes (first + i)
      exec .uploadReadComplete s = .next { s with
        memory := { s.memory with busy := none }
        upload := { s.upload with sender := { x with
          state := .sending, records := records, tries := 1, receiptTimer := some 5000 } }
        line := { s.line with b := s.line.b ++ [⟨0, g, .uploadBlock x.block records⟩] } }) ∧
    (∀ m, s.memory.busy = some ⟨.moveMarks m m, false⟩ → c.tail ≤ m → m ≤ c.snapshot → s.memory.faulted = false →
      x.state = .sending → x.moving = true → x.afterBlock = m → m + 3 ≤ x.first + x.count →
      m = x.first + 3 * x.block →
      exec (.moveMarksComplete .verified) s = .next { s with
        attached := { s.attached with header := { s.attached.header with
          send := s.attached.header.send.write m true, tail := s.attached.header.tail.write m true } }
        memory := { s.memory with
          busy := some ⟨.uploadRead m 3, false⟩, copies := { c with send := m, tail := m } }
        upload := { s.upload with sender := { x with state := .reading, block := x.block + 1, moving := false } } })

/-! ## The desk line (chapter 6) -/

/-- Carrier and idle (R106): carrier begins a frame in the receive buffer, and 12 bit times without carrier make
the line idle, the idle that a station which has left listen-only waited for (R115). The station must have left
STARTING, and not be sending. Transmission starts when the slots since idle reach the deferral of the contending
class (R111, R112): U at the station number, S at 17 and B at 34 more, with 16 more for a courtesy mark; before
that nothing changes. A PRESENCE takes its body as it starts (R119). Listen-only sends nothing, nor does a station
that has left it before the next idle (R115). -/
def Obligations.LineIsFollowedAndTaken : Prop :=
  (∀ s : State, s.station ≠ .starting → s.line.sending = none →
      (s.line.state ≠ .busy →
        exec .frameStart s = .next { s with line := { s.line with state := .carrier, receiving := true } }) ∧
      (s.line.receiving = false → exec .lineIdle s = .next { s with line := { s.line with state := .idle, awaitIdle := false } })) ∧
  (∀ (k : Nat) (n : Notice) (rest : List Notice) (s : State), s.station ≠ .starting → s.line.state = .idle →
      s.line.sending = none →
      let starts := fun (c : TxClass) (x : Notice) => exec (.transmitStart k) s = .next { s with line := { s.line with
        state := .carrier, sending := some ⟨c, s.number, s.edition, x, false⟩ } }
      let sends := s.line.listenOnly = false ∧ s.line.awaitIdle = false
      let waits := exec (.transmitStart k) s = .next s
      let marks := fun (b : Bool) => if b then 16 else 0
      (sends → s.line.u = n :: rest → kindCode n.body ≠ 0x14 →
        (s.number ≤ k → starts .u n) ∧ (k < s.number → waits)) ∧
      (sends → s.line.u = [] → s.line.s = n :: rest → kindCode n.body ≠ 0x14 →
        (17 + s.number + marks s.line.courtesyS ≤ k → starts .s n) ∧
        (k < 17 + s.number + marks s.line.courtesyS → waits)) ∧
      (sends → s.line.u = [] → s.line.s = [] → s.line.b = n :: rest → kindCode n.body ≠ 0x14 →
        (34 + s.number + marks s.line.courtesyB ≤ k → starts .b n) ∧
        (k < 34 + s.number + marks s.line.courtesyB → waits)) ∧
      (sends → s.line.u = [] → s.line.s = n :: rest → 33 + s.number ≤ k → ∀ p, n.body = .presence p →
        let filled : PresencePart :=
          { currentStamp := s.line.stamps, day := if s.clock.set then s.clock.day else 0
            minute := if s.clock.set then s.clock.minute else 0, clockSet := s.clock.set
            uplinkFitted := s.settings.strap
            heard := (List.range 16).map fun m =>
              if m = s.number then s.line.stamps
              else if (s.peer m).edition = s.edition then (s.peer m).lastStamp else 0 }
        starts .s { n with body := .presence filled }) ∧
      ((s.line.listenOnly = true ∨ s.line.awaitIdle = true ∨ (s.line.u = [] ∧ s.line.s = [] ∧ s.line.b = [])) → waits))

/-- A transmission that completes leaves its queue, clears the collision count and sets the courtesy mark of its
class (R112, R113). A frame of a kind that reports to no block does no more, but for what a place in B lets a
PAUSED walk do: it hands its next frame and, with B full again, is PAUSED behind it, or IDLE behind its last (R124;
assumption 46). An own TRAPPED notice confirms its PROVISIONAL trap, and the waiting return's record with that trap
is requested (R97), or, where the item is no longer OUT to its borrower (R88), the return ends NOT_ON_LOAN and the
trap is RELEASED with a notice (R36, R99); a BLOCK notice of either lane places its awaiting action and requests
the record of the block or lift with the same stamp, or ends it FAILED with the action dropped where the journal is
full or no stamp is left (R41, R76); a DAY ROLL clears the roll-notice mark (R162); a GATEWAY CLAIM opens the
gateway session and names this station its own gateway, at a sender in IDLE or CALLING (R168, R172); and an UPLOAD
BEGIN stops the begin timer and asks for block 1, or with no records hands UPLOAD DONE and ends COMPLETE (R170). A
BLOCK that no lane waits for, applied in listen-only before it was sent, places nothing on the record (R78). That
the session opens anew where one was open is the model's choice (assumption 58). That an own claim that completes
with its sender busy opens nothing, and that at a station not able to take part, FAULT among them, the session
opens with the sender in IDLE and its outcome kept, is the model's choice (assumption 29), and so is the number of
blocks receipted 0 on entry to SETTLING (assumption 53). (That a record keeps several awaiting own actions, in
order, is the model's choice: assumption 36.) -/
def Obligations.TransmissionCompletesAndReports : Prop :=
  ∀ (x : Sending) (rest : List Notice) (s : State), s.line.sending = some x →
    let n := x.notice
    let sent := exec .transmitComplete s
    let ended := { s.line with sending := none, state := .gap, collisions := 0 }
    let owesNothing := s.line.restateOwed = false ∧ s.line.broadcastOwed = false ∧ ∀ p ∈ s.line.peers, p.request = none
    let portFree := s.memory.busy = none ∧ s.memory.waiting = []
    let c := s.memory.copies
    let up := s.upload.sender
    let latched := { s.port with pending := s.port.pending ||| (1#11 <<< 7) }
    (∀ m, s.line.u = m :: rest → x.cls = .u →
      (kindCode n.body = 5 ∨ kindCode n.body = 6 ∨ ∃ p k, n.body = .trap p k .released) →
      sent = .next { s with line := { ended with u := rest } }) ∧
    (∀ m, s.line.s = m :: rest → x.cls = .s → kindClass n.body = .s → kindCode n.body ≠ 0x17 → owesNothing →
      sent = .next { s with line := { ended with s := rest, courtesyS := true } }) ∧
    (∀ m, s.line.b = m :: rest → x.cls = .b → kindClass n.body = .b →
      ((∀ f p, s.line.engine ≠ .paused f p) →
        sent = .next { s with line := { ended with b := rest, courtesyB := true } }) ∧
      (∀ f p e, s.line.engine = .paused f (.tallies p) → rest.length = 15 → e ∈ s.standing.entries → p < e.own.stamp →
        (∀ z ∈ s.standing.entries, z ≠ e → p < z.own.stamp → e.own.stamp < z.own.stamp) →
        let hands := fun (engine : Engine) => sent = .next { s with line := { ended with
          b := rest ++ [⟨0, 255, .tally ⟨e.borrower, e.own.loans, e.own.balance⟩ e.own.stamp
            (e.lost.ownAction s.number) (e.staff.ownAction s.number)⟩]
          courtesyB := true, engine := engine } }
        ((∃ z ∈ s.standing.entries, e.own.stamp < z.own.stamp) → hands (.paused f (.tallies e.own.stamp))) ∧
        ((∀ z ∈ s.standing.entries, z.own.stamp ≤ e.own.stamp) →
          (∀ i ∈ s.overlay.entries, i.station ≠ s.number ∨ i.stamp < max f 1) → (∀ t ∈ s.traps, t.station ≠ s.number) →
          hands .idle))) ∧
    (∀ l item b basis a y t, s.line.u = n :: rest → x.cls = .u →
      n.body = .trap t.part t.station .trapped → n.stamp = t.stamp → t.item = item → t.title = itemTitle item →
      t.station = s.number → t.state = .provisional l false → s.traps.find? (fun z => z.isFor t.title t.rank) = some t →
      (s.lane l).txn = some y → y.operation = .ret → y.item = some item → y.borrower = some b →
      y.hold = some ⟨t.rank, t.holdBorrower⟩ → y.found = some ⟨basis, some a⟩ → portFree →
      let out := fun (q : LoanPart) =>
        s.item? item = none ∧ basis = .roll ∧ q = a ∨ ∃ i, s.item? item = some i ∧ i.loan = some q
      (out a → a.borrower = b → y.due = (a.dueDay, a.dueMinute) → y.reckonDay = s.clock.day →
        s.commitRefusal = none → s.overlay.used < 8192 → s.memory.faulted = false →
        ∃ z, sent = .next z ∧ z.line.u = rest ∧ z.line.sending = none ∧ z.line.collisions = 0 ∧
          z.line.stamps = s.line.stamps + 1 ∧ z.line.state = .gap ∧ z.line.s = s.line.s ∧ z.line.b = s.line.b ∧
          z.trap? t.title t.rank = some { t with state := .confirmed } ∧
          z.memory.busy = some ⟨.append
            { number := c.head + s.memory.requested, stamp := s.line.stamps + 1, kind := .ret, lane := l
              day := s.clock.day, minute := s.clock.minute, borrower := b, item := item, dueDay := 0, dueMinute := 0
              holdBorrower := t.holdBorrower, amount := y.fine, outcome := 1, edition := s.edition }, false⟩ ∧
          z.lane (otherLane l) = s.lane (otherLane l) ∧ z.attached = s.attached ∧ z.standing = s.standing) ∧
      (y.stage = .awaitTrap → (∀ q, out q → q.borrower ≠ b) → (s.lane l).endPending = false →
        (∀ z ∈ s.traps, z ≠ t → ∀ w, z.state ≠ .provisional l w) → rest.length < 8 →
        s.line.stamps < 65535 → ∃ z, sent = .next z ∧
          z.line = { ended with
            u := rest ++ [⟨s.line.stamps + 1, 255, .trap t.part s.number .released⟩], stamps := s.line.stamps + 1 } ∧
          z.trap? t.title t.rank = some { t with state := .released, stamp := s.line.stamps + 1 } ∧
          (z.lane l).state = .reporting ∧ (z.lane l).txn = none ∧ (z.lane l).result.operation = .ret ∧
          (z.lane l).result.cls = .refused ∧ (z.lane l).result.reason = .notOnLoan ∧ z.memory = s.memory ∧
          z.lane (otherLane l) = s.lane (otherLane l) ∧ z.attached = s.attached ∧
          z.overlay.entries = s.overlay.entries)) ∧
    (∀ l action why b e y, s.line.u = n :: rest → x.cls = .u → (∃ t, n.body = .block t action why) →
      (s.lane l).txn = some y → y.operation = (match action with
        | .raise => .block
        | .lift => .lift) → y.stage = .awaitLine →
      (∀ z, (s.lane (otherLane l)).txn = some z → z.stage ≠ .awaitLine ∨ z.stamp ≠ n.stamp) →
      y.stamp = n.stamp → y.borrower = some b → y.item = none → y.trap = .none → y.blockReason = why →
      s.entry? b = some e → portFree →
      let record := fun (z : Entry) => match why with
        | .lost => z.lost
        | .staff => z.staff
      let other := fun (z : Entry) => match why with
        | .lost => z.staff
        | .staff => z.lost
      let leaves := fun (z : State) => sent = .next z ∧ z.line = { ended with u := rest } ∧
        (z.lane l).blockWait = none ∧ z.lane (otherLane l) = s.lane (otherLane l) ∧ z.attached = s.attached ∧
        z.traps = s.traps
      (s.commitRefusal = none → s.memory.faulted = false → ∃ z e', leaves z ∧ z.entry? b = some e' ∧
        record e' = { record e with awaiting := (record e).awaiting ++ [⟨action, n.stamp, false⟩] } ∧
        other e' = other e ∧ e'.own = e.own ∧ (z.lane l).txn = some { y with stage := .commit, committed := true } ∧
        z.memory = { s.memory with
          requested := s.memory.requested + 1
          busy := some ⟨.append
            { number := c.head + s.memory.requested, stamp := n.stamp
              kind := match action with
                | .raise => .block
                | .lift => .lift
              lane := l, day := s.clock.day, minute := s.clock.minute, borrower := b, item := 0, dueDay := 0
              dueMinute := 0, holdBorrower := 0, amount := 0
              outcome := match why with
                | .lost => 1
                | .staff => 2
              edition := s.edition }, false⟩ }) ∧
      (∀ reason, s.commitRefusal = some reason → (s.lane l).endPending = false → s.provisionalOf l = none →
        (∀ w ∈ (record e).awaiting, w.stamp ≠ n.stamp) → (∀ m ∈ rest, m.stamp ≠ n.stamp) → ∃ z e', leaves z ∧ z.entry? b = some e' ∧
          record e' = record e ∧ other e' = other e ∧ e'.own = e.own ∧ (z.lane l).state = .reporting ∧
          (z.lane l).result.cls = .failed ∧ (z.lane l).result.reason = reason ∧
          (z.lane l).result.operation = y.operation ∧ z.memory = s.memory)) ∧
    (s.line.u = n :: rest → x.cls = .u → (∃ t a why, n.body = .block t a why) →
      (∀ l y, (s.lane l).txn = some y → y.stage ≠ .awaitLine ∨ y.stamp ≠ n.stamp) →
      sent = .next { s with line := { ended with u := rest } }) ∧
    (∀ d, s.line.u = n :: rest → x.cls = .u → n.body = .dayRoll d →
      sent = .next { s with line := { ended with u := rest }, clock := { s.clock with rollMark := false } }) ∧
    (∀ d, s.line.u = n :: rest → x.cls = .u → n.body = .gatewayClaim d →
      (up.state ≠ .idle → up.state ≠ .calling →
        sent = .next { s with line := { ended with u := rest } }) ∧
      ((up.state = .idle ∨ up.state = .calling) → s.upload.kept = [] →
        (∀ m ∈ rest, kindCode m.body ≠ 4) → (∀ m ∈ s.line.s, kindCode m.body ≠ 0x16) →
        let opened := { s.upload with
          handAgainTimer := none
          gateway := some
            { entries := List.replicate 16 ⟨.waitingBegin, 0, 0, none⟩, beginTimer := some 10000, claimDay := d
              queue := [], sendingHead := false, answerTimer := none, closing := false }
          sender := { up with state := .idle, callTimer := none, gateway := some s.number } }
        let able := (s.station = .ready ∨ s.station = .gathering) ∧ s.memory.faulted = false
        (able → portFree → sent = .next { s with
          line := { ended with u := rest }, port := latched
          upload := { opened with sender := { opened.sender with
            state := .settling, receipted := 0, moving := false } }
          memory := { s.memory with
            busy := some ⟨if c.tail < c.send then .moveMarks c.send c.send else .takeSnapshot, false⟩ } }) ∧
        (¬ able → sent = .next { s with line := { ended with u := rest }, port := latched, upload := opened }))) ∧
    (∀ g, s.line.s = n :: rest → x.cls = .s → n.body = .uploadBegin up.first up.count → owesNothing → portFree →
      up.gateway = some g → g ≠ s.number →
      let line := { ended with s := rest, courtesyS := true }
      (up.state ≠ .beginning → sent = .next { s with line := line }) ∧
      (up.state = .beginning → up.count = 0 → up.receipted = 0 → rest.length < 32 → sent = .next { s with
        line := { line with s := rest ++ [⟨0, g, .uploadDone 0⟩] }, port := latched
        upload := { s.upload with sender := { up with
          state := .idle, block := 0, records := [], tries := 0, moving := false, outcome := .complete
          callTimer := none, beginTimer := none, receiptTimer := none } } }) ∧
      (up.state = .beginning → 0 < up.count → s.memory.faulted = false → sent = .next { s with
        line := line
        upload := { s.upload with sender := { up with
          state := .reading, beginTimer := none, block := 1, moving := false } }
        memory := { s.memory with busy := some ⟨.uploadRead up.first (min 3 up.count), false⟩ } }))

/-- A lost line (R113, R114): the frame stays at the head of its queue, the other frame is received, and the
collision count rises; at 8 the station enters listen-only and STATION FAULT is latched. A frame that ends without
passing its checks is counted and does nothing more (R107); a good one that bears the own number clears the
courtesy marks, is counted, and puts the station into listen-only with STATION FAULT latched (R114). That a frame
bearing the own number clears the marks too is the model's choice (assumption 28): R112 speaks of a frame from
another station. RESUME LINE clears the collision count and leaves listen-only, from which the station contends at
the next idle, and is answered ACCEPTED (R115). -/
def Obligations.ListenOnlyIsEnteredAndLeft : Prop :=
  (∀ (x : Sending) (s : State), s.line.sending = some x → x.withdrawn = false → s.line.collisions ≤ 7 →
      let line := { s.line with sending := none, receiving := true, collisions := s.line.collisions + 1 }
      (s.line.collisions < 7 → exec .lineLost s = .next { s with line := line }) ∧
      (s.line.collisions = 7 → exec .lineLost s = .next { s with
        line := { line with listenOnly := true }, port := { s.port with pending := s.port.pending ||| 1#11 } })) ∧
  (∀ (f : RxFrame) (s : State), s.station ≠ .starting → s.line.receiving = true →
      (RxFrame.good f = false → exec (.frameEnd f) s = .next { s with line := { s.line with
        receiving := false, state := .gap
        badFrames := if s.line.badFrames < 65535 then s.line.badFrames + 1 else s.line.badFrames } }) ∧
      (RxFrame.good f = true → natAt f.bytes 2 1 = s.number → exec (.frameEnd f) s = .next { s with
        line := { s.line with
          receiving := false, state := .gap, courtesyS := false, courtesyB := false, listenOnly := true
          ownFrames := if s.line.ownFrames < 65535 then s.line.ownFrames + 1 else s.line.ownFrames }
        port := { s.port with pending := s.port.pending ||| 1#11 } })) ∧
  (∀ s : State, s.serves = true →
      exec .resumeLine s = .next { s with
        line := { s.line with
          collisions := 0, listenOnly := false, awaitIdle := s.line.awaitIdle || s.line.listenOnly }, port := s.portAfter [0#8] .none })

/-- A good LOAN notice of a PRESENT peer in the station's edition (R116, R117, R118, R71, R92): the next stamp in
turn is taken, the borrower's entry holds the sender's tally, and the overlay holds the item OUT by the sender. An
earlier stamp changes only the peer's record; another edition only counts a mismatch, and at edition 0 of the own
the stamp is still recorded. A stamp that leaves a gap is applied, and the missing stamps are requested of the
sender (R118, R122): a good PAYMENT notice with a stamp above the next hands a RESTATE REQUEST from the stamp after
the last heard. The other stamped notices of a PRESENT peer in the station's edition with the next stamp in turn
(R71, R77, R78, R92, R98, R100, R101, R118): RETURN and RENEW put the sender's tally at the borrower and the item
IN, or OUT with its due date, on the basis its entry had; a BLOCK puts its action on the record and marks own
actions awaiting as overtaken, but a record that shows an own action of listen-only whose notice is still queued
goes on showing it (R78; assumption 57); a TRAPPED makes a CONFIRMED record by the sender where none is; against an
own CONFIRMED record the lower station number keeps the hold, the own by a new notice, or the own is released with
HOLD CONFLICT latched; and RELEASED releases only the sender's CONFIRMED record of that item. (That a record keeps
several awaiting own actions is the model's choice: assumption 36.) -/
def Obligations.PeerNoticesAreApplied : Prop :=
  (∀ (f : RxFrame) (t : TallyPart) (n day minute count sender stamp edition : Nat) (basis : Basis) (p : Peer) (s : State),
      s.station ≠ .starting → s.line.receiving = true → RxFrame.good f = true → f.body = .loan t n basis day minute count →
      natAt f.bytes 2 1 = sender → natAt f.bytes 3 2 = stamp → natAt f.bytes 5 1 = edition → natAt f.bytes 6 1 = 255 →
      sender ≠ s.number → s.line.peers[sender]? = some p → p.present = true → p.edition = edition → edition ≠ 0 →
      let heard := { p with absenceTimer := some 35000 }
      let line := fun (q : Peer) => { s.line with
        receiving := false, state := .gap, courtesyS := false, courtesyB := false, peers := s.line.peers.set sender q }
      (edition = s.edition → stamp = p.lastStamp + 1 → ∀ e, s.entry? t.borrower = some e →
        (∀ q ∈ e.peers, q.station ≠ sender) → s.item? n = none → s.overlay.used < 8192 →
        ∃ z, exec (.frameEnd f) s = .next z ∧ z.line = line { heard with lastStamp := stamp } ∧
          (∃ e', z.entry? t.borrower = some e' ∧ ⟨sender, ⟨t.netLoans, t.netBalance, stamp⟩⟩ ∈ e'.peers ∧
            (∀ q ∈ e.peers, q ∈ e'.peers) ∧ e'.own = e.own ∧ e'.roll = e.roll) ∧
          (∀ b, b ≠ t.borrower → z.entry? b = s.entry? b) ∧
          z.item? n = some ⟨n, basis, some ⟨t.borrower, day, minute, count⟩, sender, stamp⟩ ∧
          (∀ k, k ≠ n → z.item? k = s.item? k) ∧
          z = { s with standing := z.standing, overlay := z.overlay, line := z.line }) ∧
      (edition = s.edition → stamp ≤ p.lastStamp →
        exec (.frameEnd f) s = .next { s with line := line heard }) ∧
      (edition ≠ s.edition →
        let counted := if p.mismatches < 65535 then p.mismatches + 1 else p.mismatches
        exec (.frameEnd f) s = .next { s with line := line { heard with
          mismatches := counted, lastStamp := if s.edition = 0 then max p.lastStamp stamp else p.lastStamp } })) ∧
  (∀ (f : RxFrame) (t : TallyPart) (sender stamp : Nat) (p : Peer) (s : State), s.station ≠ .starting →
      s.line.receiving = true → RxFrame.good f = true → f.body = .payment t → natAt f.bytes 2 1 = sender →
      natAt f.bytes 3 2 = stamp → natAt f.bytes 5 1 = s.edition → natAt f.bytes 6 1 = 255 → sender ≠ s.number →
      s.edition ≠ 0 → s.line.peers[sender]? = some p → p.present = true → p.edition = s.edition → p.request = none →
      p.lastStamp + 1 < stamp → s.line.s.length < 32 → s.line.sending = none →
      (∀ n ∈ s.line.s, ∀ from_, n.body ≠ .restateRequest from_) → (s.entry? t.borrower).isSome = true →
      ∃ z, exec (.frameEnd f) s = .next z ∧
        z.line.s = s.line.s ++ [⟨0, sender, .restateRequest (p.lastStamp + 1)⟩] ∧
        z.line.peers[sender]? = some { p with absenceTimer := some 35000, lastStamp := stamp } ∧
        z = { s with standing := z.standing, line := z.line }) ∧
  (∀ (f : RxFrame) (sender stamp : Nat) (p : Peer) (s : State), s.station ≠ .starting → s.line.receiving = true →
      RxFrame.good f = true → natAt f.bytes 2 1 = sender → natAt f.bytes 3 2 = stamp → natAt f.bytes 5 1 = s.edition →
      sender ≠ s.number → s.edition ≠ 0 → s.line.peers[sender]? = some p → p.present = true → p.edition = s.edition →
      stamp = p.lastStamp + 1 →
      let heard := { s.line with
        receiving := false, state := .gap, courtesyS := false, courtesyB := false
        peers := s.line.peers.set sender { p with absenceTimer := some 35000, lastStamp := stamp } }
      let ends := exec (.frameEnd f) s
      let tallied := fun (t : TallyPart) (e e' : Entry) (z : State) => ends = .next z ∧ z.entry? t.borrower = some e' ∧
        ⟨sender, ⟨t.netLoans, t.netBalance, stamp⟩⟩ ∈ e'.peers ∧ (∀ q ∈ e.peers, q ∈ e'.peers) ∧ e'.own = e.own ∧
        e'.roll = e.roll ∧ ∀ b, b ≠ t.borrower → z.entry? b = s.entry? b
      (∀ t e, s.entry? t.borrower = some e → (∀ q ∈ e.peers, q.station ≠ sender) →
        (∀ n i, s.item? n = some i → i.station ≠ sender →
          let moves := fun (loan : Option LoanPart) => ∃ z e', tallied t e e' z ∧ e'.lost = e.lost ∧ e'.staff = e.staff ∧
            z.item? n = some ⟨n, i.basis, loan, sender, stamp⟩ ∧ (∀ k, k ≠ n → z.item? k = s.item? k) ∧
            z = { s with standing := z.standing, overlay := z.overlay, line := heard }
          (∀ basis, f.body = .ret t n basis → moves none) ∧
          (∀ basis day minute count, f.body = .renew t n basis day minute count →
            moves (some ⟨t.borrower, day, minute, count⟩))) ∧
        (∀ a why, f.body = .block t a why →
          let record := fun (z : Entry) => match why with
            | .lost => z.lost
            | .staff => z.staff
          let other := fun (z : Entry) => match why with
            | .lost => z.staff
            | .staff => z.lost
          let shown := (record e).state
          let unsent := s.line.u.any fun m => match m.body with
            | .block y _ c => c = why ∧ y.borrower = t.borrower ∧
                (shown = .raised s.number m.stamp ∨ shown = .lifted s.number m.stamp)
            | _ => false
          ∃ z e', tallied t e e' z ∧ z = { s with standing := z.standing, line := heard } ∧ other e' = other e ∧
            (record e').awaiting = ((record e).awaiting.map fun y => { y with laterHeard := true }) ∧
            (record e').state = if unsent then shown else match a with
              | .raise => .raised sender stamp
              | .lift => .lifted sender stamp)) ∧
      (∀ x st, f.body = .trap x st .trapped →
        let taken : TrapRecord := ⟨x.title, x.rank, x.holdBorrower, x.item, sender, .confirmed, stamp⟩
        (s.trap? x.title x.rank = none → s.traps.length < 512 →
          ends = .next { s with line := heard, traps := s.traps ++ [taken] }) ∧
        (∀ own, s.trap? x.title x.rank = some own → own.state = .confirmed → own.station = s.number →
          s.line.u.length < 8 → s.line.stamps < 65535 →
          let hands := fun (outcome : TrapNotice) => { heard with
            stamps := s.line.stamps + 1
            u := s.line.u ++
              [⟨s.line.stamps + 1, 255, .trap ⟨own.title, own.rank, own.holdBorrower, own.item⟩ s.number outcome⟩] }
          (s.number < sender → ∃ z, ends = .next z ∧
            z.trap? x.title x.rank = some { own with stamp := s.line.stamps + 1 } ∧
            z = { s with traps := z.traps, line := hands .trapped }) ∧
          (sender < s.number → ∃ z, ends = .next z ∧ z.trap? x.title x.rank = some taken ∧
            z = { s with
              traps := z.traps, line := hands .released, slips := z.slips
              port := { s.port with pending := s.port.pending ||| (1#11 <<< 6) } }))) ∧
      (∀ x st t, f.body = .trap x st .released → s.trap? x.title x.rank = some t →
        (t.state = .confirmed → t.station = sender → t.item = x.item → ∃ z, ends = .next z ∧
          z.trap? x.title x.rank = some { t with state := .released, stamp := stamp } ∧
          z = { s with traps := z.traps, line := heard }) ∧
        ((t.state ≠ .confirmed ∨ t.station ≠ sender ∨ t.item ≠ x.item) → ends = .next { s with line := heard })))

/-- Restatement at a PRESENT peer's frames in the station's edition (R71, R72, R79, R93, R102, R119, R122 to R124).
A RESTATE REQUEST to this station or to all hands a PRESENCE and starts the walk from its stamp, or lowers the
stamp that a HELD engine waits with: the walk hands one TALLY, ITEM or TRAP STATE after another, and pauses when B
is full. A TALLY puts the sender's tally at the borrower, and its block actions over ROLL, unless one of its stamp
or later is held; with no entry it is parked, or sets INCOMPLETE at a faulted controller. An ITEM changes an
earlier entry by the sender, or makes one; a TRAP STATE changes an earlier record by the sender, or makes a
CONFIRMED one; and in GATHERING each restarts the quiet timer (R187). (Three clauses rest on the model's choices.
R102 has a record take the restated state and stamp; that it takes the restated hold borrower and item too is
assumption 20. That an ITEM leaves an entry its basis is R87's, that a basis stands while the entry does, and
assumption 18. That a walk whose last frame fills B leaves the engine IDLE is assumption 46.) -/
def Obligations.RestatementFramesAreJudged : Prop :=
  ∀ (f : RxFrame) (sender : Nat) (p : Peer) (s : State), s.station ≠ .starting → s.line.receiving = true →
    RxFrame.good f = true → natAt f.bytes 2 1 = sender → natAt f.bytes 5 1 = s.edition →
    sender ≠ s.number → s.edition ≠ 0 → s.line.peers[sender]? = some p → p.present = true → p.edition = s.edition →
    let heard := { s.line with
      receiving := false, state := .gap, courtesyS := false, courtesyB := false
      peers := s.line.peers.set sender { p with absenceTimer := some 35000 } }
    let restated := { s with
      line := heard, quietTimer := if s.station = .gathering then some 3000 else s.quietTimer }
    let ends := exec (.frameEnd f) s
    (∀ k, f.body = .restateRequest k →
      let target := natAt f.bytes 6 1
      let first := max k 1
      (target ≠ 255 → target ≠ s.number → ends = .next { s with line := heard }) ∧
      ((target = 255 ∨ target = s.number) → s.line.s.length < 32 → (∀ n ∈ s.line.s, ∀ x, n.body ≠ .presence x) →
        let answers := fun (x : LineCtl) => ends = .next { s with line := { x with
          s := s.line.s ++ [⟨0, 255, .presence ⟨0, 0, 0, false, false, []⟩⟩] } }
        let tallies := s.standing.entries.filter fun e => decide (first ≤ e.own.stamp)
        let items := s.overlay.entries.filter fun i => i.station == s.number && decide (first ≤ i.stamp)
        let traps := s.traps.filter fun t => t.station == s.number
        (s.line.engine = .held none → answers { heard with engine := .held (some first) }) ∧
        (∀ w, s.line.engine = .held (some w) → answers { heard with engine := .held (some (min w first)) }) ∧
        (s.line.engine = .idle →
          (tallies = [] → items = [] → traps = [] → answers heard) ∧
          (∀ e, tallies = [e] → items = [] → traps = [] →
            (s.line.b.length < 16 → answers { heard with
              b := s.line.b ++ [⟨0, 255, .tally ⟨e.borrower, e.own.loans, e.own.balance⟩ e.own.stamp
                (e.lost.ownAction s.number) (e.staff.ownAction s.number)⟩] }) ∧
            (16 ≤ s.line.b.length → answers { heard with engine := .paused first (.tallies (first - 1)) })) ∧
          (∀ i, tallies = [] → items = [i] → traps = [] → s.line.b.length < 16 → answers { heard with
            b := s.line.b ++ [⟨0, 255, .item i.item i.basis i.loan i.stamp⟩] }) ∧
          (∀ t, tallies = [] → items = [] → traps = [t] → t.state = .confirmed → s.line.b.length < 16 →
            answers { heard with
              b := s.line.b ++
                [⟨0, 255, .trapState ⟨t.title, t.rank, t.holdBorrower, t.item⟩ .confirmed t.stamp⟩] })))) ∧
    (∀ t stamp lost staff, f.body = .tally t stamp lost staff →
      (∀ e, s.entry? t.borrower = some e → staff = none →
        (lost = none → (∀ q ∈ e.peers, q.station ≠ sender) → ∃ z e', ends = .next z ∧ z.entry? t.borrower = some e' ∧
          ⟨sender, ⟨t.netLoans, t.netBalance, stamp⟩⟩ ∈ e'.peers ∧ (∀ q ∈ e.peers, q ∈ e'.peers) ∧ e'.own = e.own ∧
          (∀ b, b ≠ t.borrower → z.entry? b = s.entry? b) ∧ z = { restated with standing := z.standing }) ∧
        (lost = none → ∀ q, e.peers.find? (fun y => y.station == sender) = some q → stamp ≤ q.tally.stamp →
          ends = .next restated) ∧
        (∀ a, lost = some a → e.lost.state = .roll → ∃ z e', ends = .next z ∧ z.entry? t.borrower = some e' ∧
          e'.staff = e.staff ∧ z = { restated with standing := z.standing } ∧
          e'.lost = { e.lost with state := match a.action with
            | .raise => .raised sender a.stamp
            | .lift => .lifted sender a.stamp })) ∧
      (s.entry? t.borrower = none →
        (s.memory.faulted = true → ends = .next { restated with standing := { s.standing with incomplete := true } }) ∧
        (s.memory.faulted = false → s.standing.parked.length < 32 → s.standing.lookup.isSome = true →
          ends = .next { restated with standing := { s.standing with
            parked := s.standing.parked ++
              [⟨t.borrower, false, sender, ⟨t.netLoans, t.netBalance, stamp⟩, lost, staff⟩] } }))) ∧
    (∀ n basis loan stamp, f.body = .item n basis loan stamp →
      (∀ i, s.item? n = some i →
        (i.station = sender → i.stamp < stamp → ∃ z, ends = .next z ∧
          z.item? n = some ⟨n, i.basis, loan, sender, stamp⟩ ∧ (∀ k, k ≠ n → z.item? k = s.item? k) ∧
          z = { restated with overlay := z.overlay }) ∧
        (i.station ≠ sender → ends = .next restated)) ∧
      (s.item? n = none → loan.isSome = true → s.overlay.used < 8192 → ends = .next { restated with
        overlay := { s.overlay with entries := s.overlay.entries ++ [⟨n, basis, loan, sender, stamp⟩] } })) ∧
    (∀ x st stamp, f.body = .trapState x st stamp →
      (s.trap? x.title x.rank = none →
        (st = .confirmed → s.traps.length < 512 → ends = .next { restated with
          traps := s.traps ++ [⟨x.title, x.rank, x.holdBorrower, x.item, sender, .confirmed, stamp⟩] }) ∧
        (st = .released → ends = .next restated)) ∧
      (∀ t, s.trap? x.title x.rank = some t → t.station = sender →
        (t.stamp < stamp → ∃ z, ends = .next z ∧ z = { restated with traps := z.traps } ∧
          z.trap? x.title x.rank = some { t with
            holdBorrower := x.holdBorrower, item := x.item, stamp := stamp
            state := match st with
              | .confirmed => .confirmed
              | .released => .released }) ∧
        (stamp ≤ t.stamp → ends = .next restated)))

/-- The presence timer's expiry hands a PRESENCE if none is queued and S has room, and restarts the timer (R119); a
peer's absence timer makes its record ABSENT with all else kept, and latches PEER when that is enabled (R120). A
PRESENCE of a PRESENT peer fills its record, gives an UNSET clock the time it tells, and in the station's edition
raises the stamp counter to what the peer has heard and requests the stamps not heard (R119, R161, R122). A DAY
ROLL rolls an UNSET clock, or one within 30 minutes of that midnight; of the day already reached it withdraws the
own notice; any other is counted and refused (R162, R163, R164). The one-shot must not fire, and no set be staged.
(That a PRESENCE of another edition counts no mismatch is the model's reading: assumption 28.) -/
def Obligations.PresenceAndAbsenceTimersExpire : Prop :=
  (∀ (k : Nat) (s : State), s.line.presenceTimer = some k →
    let handed := ⟨0, 255, .presence ⟨0, 0, 0, false, false, []⟩⟩
    ((∀ n ∈ s.line.s, ∀ p, n.body ≠ .presence p) → s.line.s.length < 32 →
      exec .presenceTimerExpiry s = .next { s with line := { s.line with
        presenceTimer := some 10000, s := s.line.s ++ [handed] } }) ∧
    (((∃ n ∈ s.line.s, ∃ p, n.body = .presence p) ∨ 32 ≤ s.line.s.length) →
      exec .presenceTimerExpiry s = .next { s with line := { s.line with presenceTimer := some 10000 } })) ∧
  (∀ (n : Fin 16) (p : Peer) (k : Nat) (s : State), s.line.peers[n.val]? = some p → p.absenceTimer = some k →
    let line := { s.line with peers := s.line.peers.set n.val { p with present := false, absenceTimer := none } }
    (p.present = true → s.port.enabled.getLsbD 10 = true → exec (.absenceTimerExpiry n) s = .next { s with
      line := line, port := { s.port with pending := s.port.pending ||| (1#11 <<< 10) } }) ∧
    ((p.present = false ∨ s.port.enabled.getLsbD 10 = false) →
      exec (.absenceTimerExpiry n) s = .next { s with line := line })) ∧
  (∀ (f : RxFrame) (sender edition : Nat) (p : Peer) (s : State), s.station ≠ .starting → s.line.receiving = true →
      RxFrame.good f = true → natAt f.bytes 2 1 = sender → natAt f.bytes 5 1 = edition → sender ≠ s.number →
      s.line.peers[sender]? = some p → p.present = true → p.edition = edition →
      let c := s.clock
      let line := fun (q : Peer) => { s.line with
        receiving := false, state := .gap, courtesyS := false, courtesyB := false
        peers := s.line.peers.set sender { q with absenceTimer := some 35000 } }
      (∀ x, f.body = .presence x →
        let told := line { p with
          day := x.day, minute := x.minute, clockSet := x.clockSet, uplinkFitted := x.uplinkFitted }
        ((edition ≠ s.edition ∨ s.edition = 0) →
          (c.set = true ∨ x.clockSet = false → exec (.frameEnd f) s = .next { s with line := told }) ∧
          (c.set = false → x.clockSet = true → x.minute ≠ s.rules.uploadMinute →
            exec (.frameEnd f) s = .next { s with
              line := told
              clock := { c with
                day := x.day, minute := x.minute, seconds := 0, set := true
                armed := decide (x.minute ≤ s.rules.uploadMinute) } })) ∧
        (edition = s.edition → s.edition ≠ 0 → c.set = true →
          let stamps := max s.line.stamps ((x.heard[s.number]?).getD 0)
          (x.currentStamp ≤ p.lastStamp → exec (.frameEnd f) s = .next { s with line := { told with stamps := stamps } }) ∧
          (p.lastStamp < x.currentStamp → p.request = none → s.line.s.length < 32 → s.line.sending = none →
            (∀ n ∈ s.line.s, ∀ g, n.body ≠ .restateRequest g) →
            exec (.frameEnd f) s = .next { s with line := { told with
              stamps := stamps, s := s.line.s ++ [⟨0, sender, .restateRequest (p.lastStamp + 1)⟩] } }))) ∧
      (∀ d, f.body = .dayRoll d →
        ((c.set = false ∨ (d = c.day + 1 ∧ 1410 ≤ c.minute)) → s.reckoner.staged = none → 0 < s.rules.uploadMinute →
          exec (.frameEnd f) s = .next { s with
            line := line p, clock := { c with day := d, minute := 0, seconds := 0, set := true, armed := true }
            port := { s.port with pending := s.port.pending ||| (1#11 <<< 8) } }) ∧
        (c.set = true → d = c.day →
          (c.rollMark = false → exec (.frameEnd f) s = .next { s with line := line p }) ∧
          (c.rollMark = true → s.line.sending = none → exec (.frameEnd f) s = .next { s with
            line := { line p with u := s.line.u.filter fun n => !(kindCode n.body == 3) }
            clock := { c with rollMark := false } })) ∧
        (c.set = true → d ≠ c.day → ¬ (d = c.day + 1 ∧ 1410 ≤ c.minute) → exec (.frameEnd f) s = .next { s with
          line := line p
          clock := { c with rollRefusals := if c.rollRefusals < 65535 then c.rollRefusals + 1 else c.rollRefusals } })))

/-! ## The day clock and the upload (chapter 9) -/

/-- A second counted (R159, R162, R165, R50): an UNSET clock stands; seconds and minutes count on; the one-shot,
reached, is disarmed and calls; the own midnight takes the next day at minute 0, makes the staged set the active
one, re-arms the one-shot, latches DAY ROLL and hands a DAY ROLL notice; and the last day number has no midnight.
SET CLOCK (R160, R164, R165): values out of range, or a day earlier than a SET clock's, are BAD_TIME (24); an UNSET
clock takes them and arms or disarms the one-shot; on the same day the minute and second change; a later day is a
day roll that latches DAY ROLL. The one-shot must not fire. -/
def Obligations.SecondsMinutesAndDaysCount : Prop :=
  (∀ s : State,
      let c := s.clock
      let ticks := fun (x : Clock) => exec .secondTick s = .next { s with clock := x }
      (c.set = false → ticks c) ∧
      (c.set = true → c.seconds < 59 → ticks { c with seconds := c.seconds + 1 }) ∧
      (c.set = true → c.seconds = 59 → c.minute < 1439 → (c.armed = false ∨ c.minute + 1 < s.rules.uploadMinute) →
        ticks { c with seconds := 0, minute := c.minute + 1 }) ∧
      (c.set = true → c.seconds = 59 → c.minute < 1439 → c.armed = true → s.rules.uploadMinute ≤ c.minute + 1 →
        (s.station = .ready ∨ s.station = .gathering) → s.memory.faulted = false → s.upload.sender.state = .idle →
        s.settings.strap = true → s.line.u.length < 8 → s.upload.kept = [] → s.upload.handAgainTimer = none →
        exec .secondTick s = .next { s with
          clock := { c with seconds := 0, minute := c.minute + 1, armed := false }
          line := { s.line with u := s.line.u ++ [⟨0, 255, .gatewayClaim c.day⟩] }
          upload := { s.upload with sender := { s.upload.sender with state := .calling, callTimer := some 30000 } } }) ∧
      (c.set = true → c.seconds = 59 → c.minute = 1439 → c.day < 65535 → s.line.u.length < 8 →
        let port := { s.port with pending := s.port.pending ||| (1#11 <<< 8) }
        let line := { s.line with u := s.line.u ++ [⟨0, 255, .dayRoll (c.day + 1)⟩] }
        let clock := { c with seconds := 0, minute := 0, day := c.day + 1, armed := true, rollMark := true }
        (s.reckoner.staged = none → 0 < s.rules.uploadMinute →
          exec .secondTick s = .next { s with clock := clock, line := line, port := port }) ∧
        (∀ rs, s.reckoner.staged = some rs → 0 < rs.uploadMinute → s.settings.cycle = none →
          exec .secondTick s = .next { s with
            clock := clock, line := line, port := port, reckoner := ⟨rs, none, false⟩
            settings := { s.settings with cycle := some ⟨none, some rs, none⟩ } })) ∧
      (c.set = true → c.seconds = 59 → c.minute = 1439 → c.day = 65535 → ticks { c with seconds := 0 })) ∧
  (∀ (day minute : BitVec 16) (second : Byte) (s : State), s.serves = true →
      let c := s.clock
      let sets := exec (.setClock day minute second) s
      let inRange := minute.toNat ≤ 1439 ∧ second.toNat ≤ 59
      let taken := { c with day := day.toNat, minute := minute.toNat, seconds := second.toNat, set := true }
      let arms := { taken with armed := decide (minute.toNat ≤ s.rules.uploadMinute) }
      ((¬ inRange ∨ (c.set = true ∧ day.toNat < c.day)) → sets = .next { s with port := s.portAfter [0x98#8] .none }) ∧
      (inRange → c.set = false → minute.toNat ≠ s.rules.uploadMinute →
        sets = .next { s with clock := arms, port := s.portAfter [0#8] .none }) ∧
      (inRange → c.set = true → day.toNat = c.day → (c.armed = false ∨ minute.toNat < s.rules.uploadMinute) →
        sets = .next { s with clock := taken, port := s.portAfter [0#8] .none }) ∧
      (inRange → c.set = true → c.day < day.toNat → s.reckoner.staged = none → minute.toNat ≠ s.rules.uploadMinute →
        sets = .next { s with
          clock := arms, port := { s.portAfter [0#8] .none with pending := s.port.pending ||| (1#11 <<< 8) } }))

/-- UPLOAD NOW (R167): NOT_READY (1), FAULT (2) and BUSY by its tests; else a call, which with the uplink fitted
hands a GATEWAY CLAIM of the day, and unfitted with a gateway in sight an UPLOAD CALL, both with the call timer of
30 s; with none in sight the sender is IDLE at once with NO_GATEWAY and UPLOAD latched. Nothing is kept to be
handed again. A GATEWAY CLAIM of a peer, of the station's day where its clock is SET, names the gateway to a sender
in IDLE or CALLING, which settles where the station may take part, UPLOAD being latched when it leaves IDLE (R168,
R169, R176), with the number of blocks receipted 0, the model's choice (assumption 53); any other changes nothing.
An UPLOAD RECEIPT from the gateway for the block in hand stops the receipt timer and asks for the marks to be moved
behind the block; any other changes nothing (R171). No claim, call or block of this station's is queued or kept.
(That a station unable to upload takes the gateway's number, ends its call and latches nothing is the model's
reading: assumption 29.) -/
def Obligations.UploadNowMakesACall : Prop :=
  (∀ s : State, s.serves = true →
      let answers := fun (b : Byte) => exec .uploadNow s = .next { s with port := s.portAfter [b] .none }
      let works := s.station = .ready ∨ s.station = .gathering
      let x := s.upload.sender
      let calling := { s.upload with sender := { x with state := .calling, callTimer := some 30000 } }
      let calls := works ∧ s.memory.faulted = false ∧ x.state = .idle ∧ s.upload.gateway = none ∧ s.upload.kept = [] ∧
        s.upload.handAgainTimer = none
      (¬ works → answers 0x81#8) ∧
      (works → s.memory.faulted = true → answers 0x82#8) ∧
      (works → s.memory.faulted = false → (x.state ≠ .idle ∨ s.upload.gateway.isSome = true) → answers 1#8) ∧
      (calls → s.settings.strap = true → s.line.u.length < 8 → exec .uploadNow s = .next { s with
        line := { s.line with u := s.line.u ++ [⟨0, 255, .gatewayClaim s.clock.day⟩] }
        upload := calling, port := s.portAfter [0#8] .none }) ∧
      (calls → s.settings.strap = false → s.gatewayInSight = true → s.line.s.length < 32 → exec .uploadNow s = .next { s with
        line := { s.line with s := s.line.s ++ [⟨0, 255, .uploadCall s.clock.day⟩] }
        upload := calling, port := s.portAfter [0#8] .none }) ∧
      (calls → s.settings.strap = false → s.gatewayInSight = false → s.memory.busy = none → s.memory.waiting = [] →
        exec .uploadNow s = .next { s with
          upload := { s.upload with sender := { x with
            state := .idle, block := 0, records := [], tries := 0, moving := false, outcome := .noGateway
            callTimer := none, beginTimer := none, receiptTimer := none } }
          port := { s.portAfter [0#8] .none with pending := s.port.pending ||| (1#11 <<< 7) } })) ∧
  (∀ (f : RxFrame) (sender : Nat) (p : Peer) (s : State), s.station ≠ .starting → s.line.receiving = true →
      RxFrame.good f = true → natAt f.bytes 2 1 = sender → sender ≠ s.number → s.line.peers[sender]? = some p →
      p.present = true → natAt f.bytes 5 1 = p.edition →
      let heard := { s.line with
        receiving := false, state := .gap, courtesyS := false, courtesyB := false
        peers := s.line.peers.set sender { p with absenceTimer := some 35000 } }
      let x := s.upload.sender
      let c := s.memory.copies
      let ends := exec (.frameEnd f) s
      let able := (s.station = .ready ∨ s.station = .gathering) ∧ s.memory.faulted = false
      (∀ d, f.body = .gatewayClaim d →
        let agrees := s.clock.set = false ∨ d = s.clock.day
        ((¬ agrees ∨ s.upload.gateway.isSome = true ∨ (x.state ≠ .idle ∧ x.state ≠ .calling)) →
          ends = .next { s with line := heard }) ∧
        (agrees → s.upload.gateway = none → (x.state = .idle ∨ x.state = .calling) → s.upload.kept = [] →
          s.line.sending = none → (∀ n ∈ s.line.u, kindCode n.body ≠ 4) → (∀ n ∈ s.line.s, kindCode n.body ≠ 0x16) →
          (able → s.memory.busy = none → s.memory.waiting = [] → ends = .next { s with
            line := heard
            upload := { s.upload with
              handAgainTimer := none
              sender := { x with
                state := .settling, callTimer := none, gateway := some sender, receipted := 0, moving := false } }
            memory := { s.memory with
              busy := some ⟨if c.tail < c.send then .moveMarks c.send c.send else .takeSnapshot, false⟩ }
            port := if x.state = .idle then { s.port with pending := s.port.pending ||| (1#11 <<< 7) } else s.port }) ∧
          (¬ able → ends = .next { s with
            line := heard
            upload := { s.upload with
              handAgainTimer := none
              sender := { x with state := .idle, callTimer := none, gateway := some sender } } }))) ∧
      (∀ k, f.body = .uploadReceipt k →
        let heeded := natAt f.bytes 6 1 = s.number ∧ x.state = .sending ∧ x.moving = false ∧ x.gateway = some sender ∧
          x.block = k
        let behind := x.first + 3 * (x.block - 1) + x.records.length
        (heeded → s.memory.faulted = false → s.memory.busy = none → s.memory.waiting = [] → s.upload.kept = [] →
          s.line.sending = none → (∀ n ∈ s.line.b, kindCode n.body ≠ 0x23) → ends = .next { s with
            line := heard
            upload := { s.upload with
              handAgainTimer := none
              sender := { x with receiptTimer := none, moving := true, receipted := x.receipted + 1 } }
            memory := { s.memory with busy := some ⟨.moveMarks behind behind, false⟩ } }) ∧
        (natAt f.bytes 6 1 ≠ 255 → ¬ heeded → ends = .next { s with line := heard })))

/-- Upload frames of a peer at a station's engine and sender (R167, R168, R169, R170, R171, R176). An UPLOAD CALL
of the station's day, at a fitted station whose sender is IDLE, which has no gateway session and no claim queued
and may take part, makes a call: CALLING with the call timer of 30 s and a GATEWAY CLAIM handed; any other call is
ignored. An UPLOAD CLOSED or an UPLOAD REFUSAL to this station or to all, from the gateway of a sender in
BEGINNING, READING or SENDING, withdraws its BEGIN and block, discards a read in progress, and makes it IDLE with
outcome UPLOAD_INCOMPLETE or REFUSED with the reason, UPLOAD latched and no DONE handed; otherwise they are
ignored, at a sender in SETTLING by the model's choice (assumption 54). None of them touches an own gateway
session. UPLOAD DONE to a gateway (R172, R175): an entry SENDING becomes GONE, its silence timer stopped and its
queued blocks removed, but for a head in hand; with 0 blocks an entry WAITING_BEGIN becomes DONE; otherwise, to
another station, or with no session, it is ignored. Where that settles the last entry with the queue empty, UPLOAD
CLOSED is handed, NIGHT CLOSE goes out and the session ends with UPLOAD latched. That a head still being sent is
kept like one awaiting its answer is the model's choice (assumption 29). -/
def Obligations.UploadFramesAct : Prop :=
  (∀ (f : RxFrame) (sender : Nat) (p : Peer) (s : State), s.station ≠ .starting → s.line.receiving = true →
      RxFrame.good f = true → natAt f.bytes 2 1 = sender → sender ≠ s.number → s.line.peers[sender]? = some p →
      p.present = true → natAt f.bytes 5 1 = p.edition →
      let heard := { s.line with
        receiving := false, state := .gap, courtesyS := false, courtesyB := false
        peers := s.line.peers.set sender { p with absenceTimer := some 35000 } }
      let x := s.upload.sender
      let ignored := exec (.frameEnd f) s = .next { s with line := heard }
      let able := (s.station = .ready ∨ s.station = .gathering) ∧ s.memory.faulted = false
      (∀ d, f.body = .uploadCall d →
        let agrees := s.clock.set = false ∨ d = s.clock.day
        let claimed := (∃ n ∈ s.line.u, kindCode n.body = 4) ∨ ∃ n ∈ s.upload.kept, kindCode n.body = 4
        ((¬ agrees ∨ s.settings.strap = false ∨ x.state ≠ .idle ∨ s.upload.gateway.isSome = true ∨ claimed ∨ ¬ able) →
          ignored) ∧
        (agrees → s.settings.strap = true → x.state = .idle → s.upload.gateway = none →
          (∀ n ∈ s.line.u, kindCode n.body ≠ 4) → able → s.upload.kept = [] → s.line.u.length < 8 →
          exec (.frameEnd f) s = .next { s with
            line := { heard with u := s.line.u ++ [⟨0, 255, .gatewayClaim s.clock.day⟩] }
            upload := { s.upload with
              handAgainTimer := none, sender := { x with state := .calling, callTimer := some 30000 } } })) ∧
      (let heeds := x.gateway = some sender ∧ (x.state = .beginning ∨ x.state = .reading ∨ x.state = .sending)
       let target := natAt f.bytes 6 1
       let mine := target = s.number ∨ target = 255
       let quiet := s.line.sending = none ∧ s.line.restateOwed = false ∧ s.line.broadcastOwed = false ∧
         s.line.engine = .idle ∧ (∀ q ∈ s.line.peers, q.request = none) ∧ s.upload.kept = [] ∧ s.memory.waiting = []
       let reading := ∃ first count d, s.memory.busy = some ⟨.uploadRead first count, d⟩
       let stops := fun (o : UploadOutcome) => exec (.frameEnd f) s = .next { s with
         line := { heard with
           s := s.line.s.filter fun n => !(kindCode n.body == 0x17), b := s.line.b.filter fun n => !(kindCode n.body == 0x23) }
         port := { s.port with pending := s.port.pending ||| (1#11 <<< 7) }
         memory := { s.memory with busy := s.memory.busy.map fun r => { r with discard := true } }
         upload := { s.upload with
           handAgainTimer := none
           sender := { x with
             state := .idle, block := 0, records := [], tries := 0, moving := false, outcome := o
             callTimer := none, beginTimer := none, receiptTimer := none } } }
       (f.body = .uploadClosed →
         (¬ heeds → ignored) ∧ (heeds → quiet → (s.memory.busy = none ∨ reading) → stops .incomplete)) ∧
       (∀ why, f.body = .uploadRefusal why →
         ((¬ heeds ∨ ¬ mine) → ignored) ∧
         (heeds → mine → quiet → (s.memory.busy = none ∨ reading) → stops (.refused why))))) ∧
  (∀ (f : RxFrame) (sender blocks : Nat) (p : Peer) (s : State), s.station ≠ .starting → s.line.receiving = true →
      RxFrame.good f = true → natAt f.bytes 2 1 = sender → sender ≠ s.number → s.line.peers[sender]? = some p →
      p.present = true → natAt f.bytes 5 1 = p.edition → f.body = .uploadDone blocks →
      let heard := { s.line with
        receiving := false, state := .gap, courtesyS := false, courtesyB := false
        peers := s.line.peers.set sender { p with absenceTimer := some 35000 } }
      let ends := exec (.frameEnd f) s
      (s.upload.gateway = none ∨ natAt f.bytes 6 1 ≠ s.number → ends = .next { s with line := heard }) ∧
      (∀ (g : Gateway) (e : GatewayEntry), s.upload.gateway = some g → g.entries.length = 16 → g.entries[sender]? = some e →
        natAt f.bytes 6 1 = s.number →
        let left := if g.sendingHead || g.answerTimer.isSome then
            g.queue.take 1 ++ (g.queue.drop 1).filter (·.station != sender)
          else g.queue.filter (·.station != sender)
        let gone := { g with entries := g.entries.set sender { e with state := .gone .late, silenceTimer := none }, queue := left }
        let done := { g with entries := g.entries.set sender { e with state := .done } }
        let becomes := fun (h : Gateway) => ends = .next { s with
          line := heard, upload := { s.upload with gateway := some h } }
        let closes := fun (h : Gateway) => s.line.s.length < 32 → g.closing = false → ends = .next { s with
          line := { heard with s := s.line.s ++ [⟨0, 255, .uploadClosed⟩] }
          port := { s.port with pending := s.port.pending ||| (1#11 <<< 7) }
          upload := { s.upload with
            gateway := none
            uplinkOut := uplinkMessage 2 (bytesOf 2 g.claimDay ++ bytesOf 2 (h.mask GatewayState.isDone)
              ++ bytesOf 2 (h.mask GatewayState.isGone)) } }
        let open_ := fun (y : GatewayEntry) => y.state = .waitingBegin ∨ y.state = .sending
        let others := ∃ j y, j ≠ sender ∧ g.entries[j]? = some y ∧ open_ y
        let last := ∀ j y, j ≠ sender → g.entries[j]? = some y → ¬ open_ y
        (e.state = .sending → (others ∨ left ≠ [] → becomes gone) ∧ (last → left = [] → closes gone)) ∧
        (e.state = .waitingBegin → blocks = 0 →
          (others ∨ g.queue ≠ [] → becomes done) ∧ (last → g.queue = [] → closes done)) ∧
        (e.state = .waitingBegin → blocks ≠ 0 → becomes g) ∧
        (e.state ≠ .waitingBegin → e.state ≠ .sending → becomes g)))

/-- The sender's timers (R167, R170, R171): the call timer withdraws the claim and ends NO_GATEWAY; the begin timer
withdraws BEGIN and ends UPLOAD_INCOMPLETE; the receipt timer counts a further try up to 8 and hands a new copy
when none is queued, and after the eighth ends UPLOAD_INCOMPLETE with an UPLOAD DONE. Nothing is on the line, at
the memory port or kept. The hand-again timer hands a kept frame once more: accepted it leaves the kept frames,
refused it stays and the timer runs again for 1 s (R166). The gateway's timers (R172, R174, R175): at the begin
timer every entry still WAITING_BEGIN is GONE; at an entry's silence timer it is GONE with its queued blocks
removed, but for a head in hand; when that settles every entry and the queue is empty, UPLOAD CLOSED is handed,
NIGHT CLOSE goes out and the session ends with UPLOAD latched; and at the answer timer, the own sender IDLE, the
session ends with an UPLOAD REFUSAL (2) to all. That a head whose message is still being sent is kept like one
awaiting its answer is the model's choice (assumption 29). -/
def Obligations.UploadTimersExpire : Prop :=
  (∀ (k : Nat) (s : State), s.line.sending = none → s.memory.busy = none → s.memory.waiting = [] → s.upload.kept = [] →
      s.upload.handAgainTimer = none → s.line.restateOwed = false → s.line.broadcastOwed = false →
      (∀ p ∈ s.line.peers, p.request = none) → s.line.engine = .idle →
      let x := s.upload.sender
      let ended := fun (o : UploadOutcome) => { s.upload with sender := { x with
        state := .idle, block := 0, records := [], tries := 0, moving := false, outcome := o
        callTimer := none, beginTimer := none, receiptTimer := none } }
      let latched := { s.port with pending := s.port.pending ||| (1#11 <<< 7) }
      (x.state = .calling → x.callTimer = some k → exec .callTimerExpiry s = .next { s with
        upload := ended .noGateway, port := latched
        line := { s.line with
          u := s.line.u.filter fun n => !(kindCode n.body == 4), s := s.line.s.filter fun n => !(kindCode n.body == 0x16) } }) ∧
      (x.state = .beginning → x.beginTimer = some k → exec .senderBeginTimerExpiry s = .next { s with
        upload := ended .incomplete, port := latched
        line := { s.line with s := s.line.s.filter fun n => !(kindCode n.body == 0x17) } }) ∧
      (∀ g, x.gateway = some g → g ≠ s.number → x.receiptTimer = some k →
        (x.tries < 8 → (∀ n ∈ s.line.b, kindCode n.body ≠ 0x23) → s.line.b.length < 16 →
          exec .receiptTimerExpiry s = .next { s with
            upload := { s.upload with sender := { x with tries := x.tries + 1, receiptTimer := some 5000 } }
            line := { s.line with b := s.line.b ++ [⟨0, g, .uploadBlock x.block x.records⟩] } }) ∧
        (x.tries < 8 → (∃ n ∈ s.line.b, kindCode n.body = 0x23) → exec .receiptTimerExpiry s = .next { s with
          upload := { s.upload with sender := { x with tries := x.tries + 1, receiptTimer := some 5000 } } }) ∧
        (8 ≤ x.tries → s.line.s.length < 32 → exec .receiptTimerExpiry s = .next { s with
          upload := ended .incomplete, port := latched
          line := { s.line with
            b := s.line.b.filter fun n => !(kindCode n.body == 0x23), s := s.line.s ++ [⟨0, g, .uploadDone x.receipted⟩] } }))) ∧
  (∀ (k : Nat) (n : Notice) (s : State), s.upload.handAgainTimer = some k → s.upload.kept = [n] →
      s.upload.gateway = none → kindClass n.body = .s →
      (s.line.s.length < 32 → exec .handAgainTimerExpiry s = .next { s with
        upload := { s.upload with kept := [], handAgainTimer := none }
        line := { s.line with s := s.line.s ++ [n] } }) ∧
      (32 ≤ s.line.s.length → exec .handAgainTimerExpiry s = .next { s with
        upload := { s.upload with kept := [n], handAgainTimer := some 1000 } })) ∧
  (∀ (g : Gateway) (k : Nat) (s : State), s.upload.gateway = some g → g.entries.length = 16 →
      let gone := fun (e : GatewayEntry) => if e.state = .waitingBegin then { e with state := .gone .late } else e
      let latched := { s.port with pending := s.port.pending ||| (1#11 <<< 7) }
      (g.beginTimer = some k → (∃ e ∈ g.entries, e.state = .sending) → exec .gatewayBeginTimerExpiry s = .next { s with
        upload := { s.upload with gateway := some { g with entries := g.entries.map gone, beginTimer := none } } }) ∧
      (g.beginTimer = some k → (∀ e ∈ g.entries, e.state ≠ .sending) → g.queue = [] → g.closing = false →
        s.line.s.length < 32 →
        let h := { g with entries := g.entries.map gone, beginTimer := none }
        exec .gatewayBeginTimerExpiry s = .next { s with
          upload := { s.upload with
            gateway := none
            uplinkOut := uplinkMessage 2 (bytesOf 2 g.claimDay ++ bytesOf 2 (h.mask GatewayState.isDone)
              ++ bytesOf 2 (h.mask GatewayState.isGone)) }
          port := latched
          line := { s.line with s := s.line.s ++ [⟨0, 255, .uploadClosed⟩] } }) ∧
      (∀ (m : Fin 16) (e : GatewayEntry), g.entries[m.val]? = some e → e.silenceTimer = some k →
        (∃ j x, j ≠ m.val ∧ g.entries[j]? = some x ∧ x.state = .sending) →
        exec (.silenceTimerExpiry m) s = .next { s with
          upload := { s.upload with gateway := some { g with
            entries := g.entries.set m.val { e with state := .gone .late, silenceTimer := none }
            queue := if g.sendingHead || g.answerTimer.isSome then
                g.queue.take 1 ++ (g.queue.drop 1).filter (·.station != m.val)
              else g.queue.filter (·.station != m.val) } } }) ∧
      (g.answerTimer = some k → s.upload.sender.state = .idle → s.line.u.length < 8 → exec .answerTimerExpiry s = .next { s with
        upload := { s.upload with gateway := none }, port := latched
        line := { s.line with u := s.line.u ++ [⟨0, 255, .uploadRefusal 2⟩] } }))

/-- The uplink (R173, R174): a head sent starts the answer timer of 10 s; an ACCEPT that names the head moves the
entry on, or to DONE at its last block, removes the block and hands its station an UPLOAD RECEIPT; a REJECT makes
the entry GONE, keeps the reason and hands UPLOAD REFUSAL (1); and what is no message of the table's form, by its
start byte, type, length or CRC-16, or does not name the head, is discarded. UPLOAD BEGIN and UPLOAD BLOCK to a
gateway (R172, R173, R174): BEGIN of an entry WAITING_BEGIN makes it SENDING with the blocks expected, or DONE with
none; the next block in turn restarts the silence timer, joins the uplink queue and, as its head, goes out; the
last block again is answered with its UPLOAD RECEIPT; an entry that is GONE is answered with UPLOAD REFUSAL; and a
frame to another station changes nothing. -/
def Obligations.UplinkAnswersMoveTheQueue : Prop :=
  (∀ (g : Gateway) (s : State), s.upload.gateway = some g → g.sendingHead = true →
    exec .uplinkSendComplete s = .next { s with upload := { s.upload with
      gateway := some { g with sendingHead := false, answerTimer := some 10000 } } }) ∧
  (∀ (g : Gateway) (b : UplinkBlock) (e : GatewayEntry) (k : Nat) (s : State), s.upload.gateway = some g →
    g.queue = [b] → g.answerTimer = some k → g.sendingHead = false → g.entries.length = 16 →
    g.entries[b.station]? = some e → e.state = .sending → b.station ≠ s.number → b.block < 65536 →
    s.line.u.length < 8 →
    (b.block ≠ e.expected →
      exec (.uplinkMessageReceived (uplinkMessage 0x81 (byteOf b.station :: bytesOf 2 b.block))) s = .next { s with
        upload := { s.upload with gateway := some { g with
          queue := [], answerTimer := none, entries := g.entries.set b.station { e with last := b.block } } }
        line := { s.line with u := s.line.u ++ [⟨0, b.station, .uploadReceipt b.block⟩] } }) ∧
    (∀ j x, b.block = e.expected → j ≠ b.station → g.entries[j]? = some x → x.state = .sending →
      exec (.uplinkMessageReceived (uplinkMessage 0x81 (byteOf b.station :: bytesOf 2 b.block))) s = .next { s with
        upload := { s.upload with gateway := some { g with
          queue := [], answerTimer := none
          entries := g.entries.set b.station { e with last := b.block, state := .done, silenceTimer := none } } }
        line := { s.line with u := s.line.u ++ [⟨0, b.station, .uploadReceipt b.block⟩] } }) ∧
    (∀ reason j x, reason < 256 → j ≠ b.station → g.entries[j]? = some x → x.state = .sending →
      exec (.uplinkMessageReceived
        (uplinkMessage 0x82 (byteOf b.station :: bytesOf 2 b.block ++ [byteOf reason]))) s = .next { s with
        upload := { s.upload with
          lastReject := reason
          gateway := some { g with
            queue := [], answerTimer := none
            entries := g.entries.set b.station { e with state := .gone .rejected, silenceTimer := none } } }
        line := { s.line with u := s.line.u ++ [⟨0, b.station, .uploadRefusal 1⟩] } })) ∧
  (∀ (bytes : List Byte) (s : State),
    let len := natAt bytes 2 1
    (bytes.head? ≠ some 0x5C#8 ∨ (natAt bytes 1 1 ≠ 0x81 ∧ natAt bytes 1 1 ≠ 0x82) ∨
      (natAt bytes 1 1 = 0x81 ∧ len ≠ 3) ∨ (natAt bytes 1 1 = 0x82 ∧ len ≠ 4) ∨ bytes.length ≠ 5 + len ∨
      (crc16 ((bytes.drop 1).take (2 + len))).toNat ≠ natAt bytes (3 + len) 2 ∨
      (∀ g b rest, s.upload.gateway = some g → g.queue = b :: rest →
        g.answerTimer = none ∨ natAt bytes 3 1 ≠ b.station ∨ natAt bytes 4 2 ≠ b.block)) →
    exec (.uplinkMessageReceived bytes) s = .next s) ∧
  (∀ (f : RxFrame) (sender : Nat) (p : Peer) (g : Gateway) (e : GatewayEntry) (s : State), s.station ≠ .starting → s.line.receiving = true →
      RxFrame.good f = true → natAt f.bytes 2 1 = sender → sender ≠ s.number → s.line.peers[sender]? = some p →
      p.present = true → natAt f.bytes 5 1 = p.edition →
      s.upload.gateway = some g → g.entries.length = 16 → g.entries[sender]? = some e →
      let heard := { s.line with
        receiving := false, state := .gap, courtesyS := false, courtesyB := false
        peers := s.line.peers.set sender { p with absenceTimer := some 35000 } }
      let ends := exec (.frameEnd f) s
      let becomes := fun (h : Gateway) => ends = .next { s with
        line := heard, upload := { s.upload with gateway := some h } }
      let entry := fun (e' : GatewayEntry) => { g with entries := g.entries.set sender e' }
      let answers := fun (h : Gateway) (b : Body) => ends = .next { s with
        line := { heard with u := s.line.u ++ [⟨0, sender, b⟩] }, upload := { s.upload with gateway := some h } }
      (∀ first count, f.body = .uploadBegin first count → natAt f.bytes 6 1 = s.number →
        (e.state = .waitingBegin → 0 < count →
          becomes (entry { e with state := .sending, expected := (count + 2) / 3, silenceTimer := some 45000 })) ∧
        (e.state = .waitingBegin → count = 0 → ∀ j x, j ≠ sender → g.entries[j]? = some x → x.state = .sending →
          becomes (entry { e with state := .done, expected := 0 })) ∧
        (e.state = .sending ∨ e.state = .done → becomes g) ∧
        (∀ why, e.state = .gone why → s.line.u.length < 8 → answers g (.uploadRefusal (match why with
          | .rejected => 1
          | .late => 3)))) ∧
      (∀ k records, f.body = .uploadBlock k records → natAt f.bytes 6 1 = s.number →
        let h := entry { e with silenceTimer := some 45000 }
        (e.state = .sending → k = e.last + 1 →
          (g.queue.length < 4 → (∀ b ∈ g.queue, b.station ≠ sender ∨ b.block ≠ k) → g.queue ≠ [] →
            (g.sendingHead = true ∨ g.answerTimer.isSome = true) →
            becomes { h with queue := g.queue ++ [⟨sender, k, records⟩] }) ∧
          (g.queue = [] → g.sendingHead = false → g.answerTimer = none → ends = .next { s with
            line := heard
            upload := { s.upload with
              uplinkOut := uplinkMessage 1 ([byteOf sender] ++ bytesOf 2 g.claimDay ++ bytesOf 2 k
                ++ [byteOf records.length] ++ records.flatten)
              gateway := some { h with queue := [⟨sender, k, records⟩], sendingHead := true } } }) ∧
          (4 ≤ g.queue.length → becomes h)) ∧
        (k = e.last → 0 < e.last → s.line.u.length < 8 →
          (e.state = .sending → answers h (.uploadReceipt k)) ∧ (e.state = .done → answers g (.uploadReceipt k)))) ∧
      ((∃ a b, f.body = .uploadBegin a b) ∨ (∃ a b, f.body = .uploadBlock a b) → natAt f.bytes 6 1 ≠ s.number →
        becomes g))

/-! ## The printer and the pads (chapter 8) -/

/-- The print queue (R152, R153, R150): warm, the printer takes the slip at the head, or waits in IDLE_WARM with
the unload timer running when nothing is queued and no session is open; a HOLD slip whose record is no longer
CONFIRMED by this station is given up; a slip printed is FREE and the next one taken; and the unload timer turns
the printer OFF. -/
def Obligations.PrinterTakesTheQueue : Prop :=
  ∀ (k : Nat) (s : State), s.slips.slips.length = 8 →
    let u := s.slips
    let waits := fun (slips : List Slip) => { u with
      slips := slips, queue := [], printer := .idleWarm, warmTimer := none
      unloadTimer := if s.laneA.session.isSome || s.laneB.session.isSome then none
        else some (s.settings.inForce.unloadSeconds * 1000) }
    let prints := fun (slips : List Slip) (i : Nat) (queue : List Nat) => { u with
      slips := slips.set i { s.slip i with state := .printing }, queue := queue, printer := .printing
      warmTimer := none, unloadTimer := none }
    (u.printer = .warming → u.warmTimer = some k → u.unloadTimer = none →
      (u.queue = [] → exec .warmTimerExpiry s = .next { s with slips := waits u.slips }) ∧
      (∀ i rest, u.queue = i :: rest → (s.slip i).hold = none →
        exec .warmTimerExpiry s = .next { s with slips := prints u.slips i (i :: rest) }) ∧
      (∀ i h, u.queue = [i] → (s.slip i).hold = some h → s.ownConfirmed h = false →
        exec .warmTimerExpiry s = .next { s with slips := waits (u.slips.set i .free) })) ∧
    (u.printer = .printing → u.warmTimer = none → u.unloadTimer = none →
      (∀ i, u.queue = [i] → exec .printComplete s = .next { s with slips := waits (u.slips.set i .free) }) ∧
      (∀ i j rest, u.queue = i :: j :: rest → i ≠ j → (s.slip j).hold = none →
        exec .printComplete s = .next { s with slips := prints (u.slips.set i .free) j (j :: rest) })) ∧
    (u.unloadTimer = some k →
      exec .unloadTimerExpiry s = .next { s with slips := { u with unloadTimer := none, printer := .off } })

/-- The printer's sensors and the form align (R154, R155, R158): with the first levels of both accepted and paper
and lid good the printer aligns; paper out or the lid open halts it, latches PRINTER and makes a slip in printing
READY with its interrupted flag; good again, it aligns; a mark ends the align, and 600 steps without one make a
printer FAULT. That no level is accepted in STARTING, and what the first two levels do, is the model's reading
(assumption 31). The pads (R156, R157, R158): an accepted level of the sensor is the pad's presence, in STARTING
none is accepted, and a pulse that has run its length is followed by the oldest waiting one. -/
def Obligations.SensorsAndPadsAct : Prop :=
  (∀ s : State,
      let u := s.slips
      let latched := { s.port with pending := s.port.pending ||| (1#11 <<< 5) }
      (∀ x, s.station = .starting → exec (.printerSensorAccepted x) s = .next s) ∧
      (s.station ≠ .starting → u.paper = none → u.lid = some .closed → u.printer = .off →
        exec (.printerSensorAccepted (.paper .present)) s = .next { s with slips := { u with
          paper := some .present, printer := .aligning, alignSteps := 0, warmTimer := none, unloadTimer := none } }) ∧
      (s.station ≠ .starting → u.paper.isSome = true → u.lid.isSome = true → u.printer = .printing →
        ∀ i rest, u.queue = i :: rest →
        let halted := { u with
          slips := u.slips.set i { s.slip i with state := .ready, interrupted := true }
          printer := .halted, warmTimer := none, unloadTimer := none }
        exec (.printerSensorAccepted (.paper .out)) s = .next { s with
          slips := { halted with paper := some .out }, port := latched } ∧
        exec (.printerSensorAccepted (.lid .opened)) s = .next { s with
          slips := { halted with lid := some .opened }, port := latched }) ∧
      (s.station ≠ .starting → u.paper = some .out → u.lid = some .closed → u.printer = .halted →
        exec (.printerSensorAccepted (.paper .present)) s = .next { s with slips := { u with
          paper := some .present, printer := .aligning, alignSteps := 0 } }) ∧
      (u.printer = .aligning →
        (u.queue = [] → s.laneA.session = none → s.laneB.session = none →
          exec (.alignStep true) s = .next { s with slips := { u with
            printer := .off, alignSteps := u.alignSteps + 1 } }) ∧
        (u.queue ≠ [] → u.paper.isSome = true → u.lid.isSome = true → exec (.alignStep true) s = .next { s with slips := { u with
          printer := .warming, warmTimer := some 80, alignSteps := u.alignSteps + 1 } }) ∧
        (u.alignSteps + 1 < 600 → exec (.alignStep false) s = .next { s with slips := { u with
          alignSteps := u.alignSteps + 1 } }) ∧
        (600 ≤ u.alignSteps + 1 → exec (.alignStep false) s = .next { s with
          slips := { u with alignSteps := u.alignSteps + 1, printer := .fault }, port := latched }))) ∧
  (∀ s : State,
      (∀ p b, s.station ≠ .starting →
        exec (.padSensorAccepted p b) s = .next (s.setPad p { s.pad p with present := b })) ∧
      (∀ p b, s.station = .starting → exec (.padSensorAccepted p b) s = .next s) ∧
      (∀ p f, (s.pad p).pulsing = some f →
        ((s.pad p).waiting = [] → exec (.padPulseEnd p) s = .next (s.setPad p { s.pad p with pulsing := none })) ∧
        (∀ g rest, (s.pad p).waiting = g :: rest →
          exec (.padPulseEnd p) s = .next (s.setPad p { s.pad p with pulsing := some g, waiting := rest }))))

/-! ## What the reckoner and the memory compute (chapters 3 and 7) -/

/-- A day is open when its weekday's closure flag is clear and the holiday list does not hold it, within 0..65,535
(R53); the provisional due day of a DAYS loan is the earliest open day of the 15 from the candidate on, else the
latest open day after the loan day and before the candidate, else there is none and the answer NO_DUE_DAY (R54). -/
def Obligations.ProvisionalDueDayIsTheRightOpenDay : Prop :=
  ∀ (rs : RuleSet) (period day : Nat),
    (∀ d, rs.opens d = true ↔ d ≤ 65535 ∧ rs.closure.getLsbD (d % 7) = false ∧ d ∉ rs.holidays) ∧
    (65535 < day + period → rs.provisionalDue period day = none) ∧
    (1 ≤ period → day + period ≤ 65535 →
      let ahead := fun d => day + period ≤ d ∧ d ≤ day + period + 14 ∧ rs.opens d = true
      let behind := fun d => day < d ∧ d < day + period ∧ rs.opens d = true
      ((∃ d, ahead d) → ∃ d, rs.provisionalDue period day = some d ∧ ahead d ∧ ∀ k, ahead k → d ≤ k) ∧
      ((∀ d, ¬ ahead d) → (∃ d, behind d) →
        ∃ d, rs.provisionalDue period day = some d ∧ behind d ∧ ∀ k, behind k → k ≤ d) ∧
      ((∀ d, ¬ ahead d) → (∀ d, ¬ behind d) → rs.provisionalDue period day = none)) ∧
    (rs.provisionalDue period day = none → ∀ expiry, rs.dueDays period expiry day = .error .noDueDay)

/-- Due dates (R54, R55, R56). A DAYS loan is due at its day's closing minute on the provisional day where the card
allows it, else on the latest open day after the loan day and not after the card's expiry, else CARD_EXPIRING; with
no provisional day it is NO_DUE_DAY. An HOURS loan is refused CARD_EXPIRING after the card's expiry, else
CLOSED_TODAY on a closed day, else TOO_LATE with less than 15 minutes from its start to closing; else it is due
that day at the earlier of its hours after the start and closing. -/
def Obligations.DueDatesRespectCardAndCalendar : Prop :=
  ∀ (rs : RuleSet) (period expiry day minute d m : Nat), 1 ≤ period →
    (rs.dueDays period expiry day = .ok (d, m) →
      day < d ∧ d ≤ expiry ∧ rs.opens d = true ∧ m = (rs.dayHours d).closing ∧
        (∀ p, rs.provisionalDue period day = some p → p ≤ expiry → d = p) ∧
        (∀ p, rs.provisionalDue period day = some p → expiry < p →
          ∀ k, day < k → k ≤ expiry → rs.opens k = true → k ≤ d)) ∧
    (∀ p, rs.provisionalDue period day = some p → p ≤ expiry →
      rs.dueDays period expiry day = .ok (p, (rs.dayHours p).closing)) ∧
    (∀ p k, rs.provisionalDue period day = some p → expiry < p → day < k → k ≤ expiry → rs.opens k = true →
      (∀ j, k < j → j ≤ expiry → rs.opens j = false) →
      rs.dueDays period expiry day = .ok (k, (rs.dayHours k).closing)) ∧
    (rs.dueDays period expiry day = .error .cardExpiring ↔
      ∃ p, rs.provisionalDue period day = some p ∧ expiry < p ∧ ∀ k, day < k → k ≤ expiry → rs.opens k = false) ∧
    (rs.dueDays period expiry day = .error .noDueDay ↔ rs.provisionalDue period day = none) ∧
    (let start := max minute (rs.dayHours day).opening
     let closing := (rs.dayHours day).closing
     let due := rs.dueHours period expiry day minute
     (due = .error .cardExpiring ↔ expiry < day) ∧
     (due = .error .closedToday ↔ day ≤ expiry ∧ rs.opens day = false) ∧
     (due = .error .tooLate ↔ day ≤ expiry ∧ rs.opens day = true ∧ closing < start + 15) ∧
     (due = .ok (d, m) ↔ day ≤ expiry ∧ rs.opens day = true ∧ start + 15 ≤ closing ∧ d = day ∧
       m = min (start + 60 * period) closing) ∧
     (due = .ok (d, m) → minute + 15 ≤ m ∧ m ≤ closing))

/-- Fines (R57, R58): a DAYS item is charged the open days after its due day to the return, counted to 400, less
the grace, at the rate and up to the cap; an HOURS item is charged each started hour of the due day up to the cap,
and the cap on a later day; a class of unit NONE carries no fine, and no fine passes the cap. -/
def Obligations.FinesChargeOpenDaysAndStartedHours : Prop :=
  ∀ (rs : RuleSet) (r : ClassRule) (dueDay dueMinute day minute : Nat),
    let opened := ((List.range (day - dueDay)).filter fun i => rs.opens (dueDay + 1 + i)).length
    rs.fineDays r dueDay day = min ((min 400 opened - r.grace) * r.rate) r.cap ∧
    (day ≤ dueDay → rs.fineDays r dueDay day = 0) ∧
    ((day < dueDay ∨ (day = dueDay ∧ minute ≤ dueMinute)) → fineHours r dueDay dueMinute day minute = 0) ∧
    (dueDay < day → fineHours r dueDay dueMinute day minute = r.cap) ∧
    (∀ h, day = dueDay → 60 * h < minute - dueMinute → minute - dueMinute ≤ 60 * (h + 1) →
      fineHours r dueDay dueMinute day minute = min ((h + 1) * r.rate) r.cap) ∧
    rs.fineDays r dueDay day ≤ r.cap ∧ fineHours r dueDay dueMinute day minute ≤ r.cap ∧
    ∀ c, rs.classRule c = r → rs.fine c dueDay dueMinute day minute = match r.unit with
      | .days => rs.fineDays r dueDay day
      | .hours => fineHours r dueDay dueMinute day minute
      | .none => 0

/-- Balance, window and limit (R60, R61, R63, R64): a balance is the exact sum clamped, the window keeps its state
between the thresholds, an INCOMPLETE station's limit is the smaller, and the test at COMMIT with the own
reservation taken is the test at CHECK without it; a loan of the other lane that completes between them changes
nothing. -/
def Obligations.BalancesAndLimitsHold : Prop :=
  (∀ e : Entry, -99999 ≤ e.balance ∧ e.balance ≤ 999999 ∧
    (-99999 ≤ e.exactBalance → e.exactBalance ≤ 999999 → e.balance = e.exactBalance) ∧
    (999999 < e.exactBalance → e.balance = 999999) ∧ (e.exactBalance < -99999 → e.balance = -99999)) ∧
  (∀ (rs : RuleSet) (balance : Int) (present : Bool), rs.warning ≤ rs.blocking →
    ((rs.blocking : Int) ≤ balance → rs.window balance present = true) ∧
    (balance < rs.warning → rs.window balance present = false) ∧
    ((rs.warning : Int) ≤ balance → balance < rs.blocking → rs.window balance present = present)) ∧
  (∀ (s : State) (c : Nat),
    (s.standing.incomplete = false → s.limitInForce c = (s.reckoner.active.categoryRule c).limit) ∧
    (s.standing.incomplete = true → s.limitInForce c =
      min (s.reckoner.active.categoryRule c).limit s.settings.inForce.reducedLimit)) ∧
  (∀ (s : State) (e : Entry) (stamp : Nat), -999 ≤ e.own.loans → e.own.loans < 999 →
    (e.reservedA = false → s.limitAtCommit (e.setReserved .a true) = s.limitAtCheck e) ∧
    (e.reservedB = false → s.limitAtCommit (e.setReserved .b true) = s.limitAtCheck e) ∧
    (e.reservedA = true →
      s.limitAtCommit ((e.ownChange s.rules 1 0 stamp).setReserved .a false) = s.limitAtCommit e) ∧
    (e.reservedB = true →
      s.limitAtCommit ((e.ownChange s.rules 1 0 stamp).setReserved .b false) = s.limitAtCommit e))

/-- The search of a sound list (R132): a key that an entry carries is found at an entry of that key, one that none
carries is missing with the place where it would stand, and no search of a sound list ends on a damaged entry. The
probes allowed suffice for the largest list. -/
def Obligations.ListSearchIsRight : Prop :=
  ∀ (s : State) (l : ListId) (key : Nat × Nat), s.listSound l →
    ((∃ i, i < s.listCount l ∧ l.key (s.entryBytes l i) = key) →
      ∃ i, s.search l key = .found i ∧ i < s.listCount l ∧ l.key (s.entryBytes l i) = key) ∧
    ((∀ i, i < s.listCount l → l.key (s.entryBytes l i) ≠ key) →
      ∃ p, s.search l key = .missing p ∧ p ≤ s.listCount l ∧
        (∀ i, i < p → keyLt (l.key (s.entryBytes l i)) key = true) ∧
        (∀ i, p ≤ i → i < s.listCount l → keyLt key (l.key (s.entryBytes l i)) = true))

/-- A journal record's 32 bytes spell the record again, whatever its kind, and hold undamaged under its number
(section 7.6, R129, R137). -/
def Obligations.JournalRecordsReadBack : Prop :=
  ∀ r : JournalRecord, r.fits →
    r.bytes.length = 32 ∧ recordOf r.bytes = some r ∧ slotHolds r.bytes r.number = true
end

