-- ==== Sys2Proof/Laws/PerInstr.lean ====
section
/-! SUPPORT. Laws/PerInstr.lean: the desk port's command table (section 10.2) over the commands as syntax: the code
of each command of the table lies inside the table, so no well-formed ERROR_STATE carries it. -/

namespace Sys2Proof.Laws

/-- A row of the command table: the command byte, the parameter bytes and the answer bytes. -/
structure CommandRow where
  code : Byte
  parameters : Nat
  answer : Nat
  deriving DecidableEq, Repr

/-- The command table's row of a command that the terminal sends; none for the events of the other connections.
The parts of STAGE RULE share one row. -/
def commandRow : Instr → Option CommandRow
  | .coldStart _ => none
  | .headerReadComplete => none
  | .freshHeaderWriteComplete _ => none
  | .levelChange _ _ => none
  | .quietZoneReached _ => none
  | .decodeComplete => none
  | .agreementTimerExpiry _ => none
  | .toneEnd _ => none
  | .laneMode _ _ => some ⟨0x06, 2, 0⟩
  | .keyedEntry _ _ _ => some ⟨0x07, 9, 0⟩
  | .endSession _ => some ⟨0x08, 1, 0⟩
  | .sessionIdleTimerExpiry _ => none
  | .cancel _ => some ⟨0x09, 1, 0⟩
  | .readResult _ => some ⟨0x0A, 1, 36⟩
  | .block _ _ => some ⟨0x0B, 7, 0⟩
  | .lift _ _ => some ⟨0x0C, 7, 0⟩
  | .payment _ _ => some ⟨0x0D, 9, 0⟩
  | .blockWaitExpiry _ => none
  | .trapWaitExpiry _ => none
  | .rollLookupComplete => none
  | .loansListLookupComplete => none
  | .holdLookupComplete => none
  | .appendComplete _ => none
  | .rollBegin => some ⟨0x10, 0, 0⟩
  | .rollBeginWriteComplete _ => none
  | .rollChunk _ _ _ _ => some ⟨0x11, 66, 4⟩
  | .chunkWriteComplete _ => none
  | .rollEnd _ _ _ _ => some ⟨0x12, 13, 5⟩
  | .editionWriteComplete _ => none
  | .journalQuery _ _ _ _ => some ⟨0x13, 8, 4⟩
  | .queryReadComplete => none
  | .queryNext => some ⟨0x14, 0, 33⟩
  | .replayLastRecordRead => none
  | .replayHeadWriteComplete _ => none
  | .replayReadComplete => none
  | .minimumTimerExpiry => none
  | .quietTimerExpiry => none
  | .uploadReadComplete => none
  | .takeSnapshotComplete _ => none
  | .moveMarksComplete _ => none
  | .frameStart => none
  | .lineIdle => none
  | .transmitStart _ => none
  | .lineLost => none
  | .transmitComplete => none
  | .frameEnd _ => none
  | .presenceTimerExpiry => none
  | .absenceTimerExpiry _ => none
  | .resumeLine => some ⟨0x1B, 0, 0⟩
  | .readPeer _ => some ⟨0x1D, 1, 11⟩
  | .secondTick => none
  | .setClock _ _ _ => some ⟨0x05, 5, 0⟩
  | .uploadNow => some ⟨0x15, 0, 0⟩
  | .callTimerExpiry => none
  | .senderBeginTimerExpiry => none
  | .receiptTimerExpiry => none
  | .handAgainTimerExpiry => none
  | .gatewayBeginTimerExpiry => none
  | .silenceTimerExpiry _ => none
  | .uplinkSendComplete => none
  | .uplinkMessageReceived _ => none
  | .answerTimerExpiry => none
  | .warmTimerExpiry => none
  | .unloadTimerExpiry => none
  | .printComplete => none
  | .printerSensorAccepted _ => none
  | .alignStep _ => none
  | .padSensorAccepted _ _ => none
  | .padPulseEnd _ => none
  | .selectActive => none
  | .errorState _ => none
  | .answerComplete => none
  | .selectRelease _ _ => none
  | .identify => some ⟨0x01, 0, 6⟩
  | .readStatus => some ⟨0x02, 0, 37⟩
  | .takeAttention => some ⟨0x03, 0, 1⟩
  | .setEnables _ => some ⟨0x04, 2, 0⟩
  | .inquireBorrower _ => some ⟨0x0E, 6, 37⟩
  | .inquireItem _ => some ⟨0x0F, 6, 27⟩
  | .stageRuleDiscard => some ⟨0x16, 10, 1⟩
  | .stageRuleClass _ _ _ _ _ _ _ => some ⟨0x16, 10, 1⟩
  | .stageRuleCategory _ _ _ => some ⟨0x16, 10, 1⟩
  | .stageRuleHours _ _ _ => some ⟨0x16, 10, 1⟩
  | .stageRuleClosure _ => some ⟨0x16, 10, 1⟩
  | .stageRuleHolidayAdd _ => some ⟨0x16, 10, 1⟩
  | .stageRuleHolidayRemove _ => some ⟨0x16, 10, 1⟩
  | .stageRuleWindow _ _ => some ⟨0x16, 10, 1⟩
  | .stageRuleUploadMinute _ => some ⟨0x16, 10, 1⟩
  | .applyNow => some ⟨0x17, 0, 0⟩
  | .readSetting _ => some ⟨0x18, 1, 4⟩
  | .writeSetting _ _ => some ⟨0x19, 3, 0⟩
  | .commitSettings => some ⟨0x1A, 0, 0⟩
  | .settingsWriteComplete _ => none
  | .warmRestart => some ⟨0x1C, 0, 0⟩
  | .stageRuleBadPartCode _ => some ⟨0x16, 10, 1⟩

/-- A command of the table has its code in 01h..1Dh, and no ERROR_STATE event with that code is well-formed (R179). -/
def CommandTable.Statement (i : Instr) : Prop :=
  ∀ row, commandRow i = some row →
    1 ≤ row.code.toNat ∧ row.code.toNat ≤ 29 ∧ (Instr.errorState row.code).wellFormed = false

/-- A command with no row of the table meets the statement. -/
theorem commandTable_of_none (i : Instr) (h : commandRow i = none) : CommandTable.Statement i := by
  intro row hr
  simp [h] at hr

/-- A command with a row meets the statement when the row's code does. -/
theorem commandTable_of_some (i : Instr) (r : CommandRow) (h : commandRow i = some r)
    (hc : 1 ≤ r.code.toNat ∧ r.code.toNat ≤ 29 ∧ (Instr.errorState r.code).wellFormed = false) :
    CommandTable.Statement i := by
  intro row hr
  rw [h] at hr
  cases hr
  exact hc

theorem CommandTable.coldStart (inputs : ResetInputs) : CommandTable.Statement (.coldStart inputs) :=
  commandTable_of_none _ rfl

theorem CommandTable.headerReadComplete : CommandTable.Statement .headerReadComplete :=
  commandTable_of_none _ rfl

theorem CommandTable.freshHeaderWriteComplete (result : HeaderEnd)
    : CommandTable.Statement (.freshHeaderWriteComplete result) :=
  commandTable_of_none _ rfl

theorem CommandTable.levelChange (wand : Wand) (ticks : Nat) : CommandTable.Statement (.levelChange wand ticks) :=
  commandTable_of_none _ rfl

theorem CommandTable.quietZoneReached (wand : Wand) : CommandTable.Statement (.quietZoneReached wand) :=
  commandTable_of_none _ rfl

theorem CommandTable.decodeComplete : CommandTable.Statement .decodeComplete :=
  commandTable_of_none _ rfl

theorem CommandTable.agreementTimerExpiry (wand : Wand) : CommandTable.Statement (.agreementTimerExpiry wand) :=
  commandTable_of_none _ rfl

theorem CommandTable.toneEnd (wand : Wand) : CommandTable.Statement (.toneEnd wand) :=
  commandTable_of_none _ rfl

theorem CommandTable.laneMode (lane : Byte) (mode : Byte) : CommandTable.Statement (.laneMode lane mode) :=
  commandTable_of_some _ _ rfl (by decide)

theorem CommandTable.keyedEntry (lane : Byte) (count : Byte) (digits : BitVec 56)
    : CommandTable.Statement (.keyedEntry lane count digits) :=
  commandTable_of_some _ _ rfl (by decide)

theorem CommandTable.endSession (lane : Byte) : CommandTable.Statement (.endSession lane) :=
  commandTable_of_some _ _ rfl (by decide)

theorem CommandTable.sessionIdleTimerExpiry (lane : LaneId)
    : CommandTable.Statement (.sessionIdleTimerExpiry lane) :=
  commandTable_of_none _ rfl

theorem CommandTable.cancel (lane : Byte) : CommandTable.Statement (.cancel lane) :=
  commandTable_of_some _ _ rfl (by decide)

theorem CommandTable.readResult (lane : Byte) : CommandTable.Statement (.readResult lane) :=
  commandTable_of_some _ _ rfl (by decide)

theorem CommandTable.block (borrower : BitVec 48) (reason : Byte)
    : CommandTable.Statement (.block borrower reason) :=
  commandTable_of_some _ _ rfl (by decide)

theorem CommandTable.lift (borrower : BitVec 48) (reason : Byte)
    : CommandTable.Statement (.lift borrower reason) :=
  commandTable_of_some _ _ rfl (by decide)

theorem CommandTable.payment (borrower : BitVec 48) (amount : BitVec 24)
    : CommandTable.Statement (.payment borrower amount) :=
  commandTable_of_some _ _ rfl (by decide)

theorem CommandTable.blockWaitExpiry (lane : LaneId) : CommandTable.Statement (.blockWaitExpiry lane) :=
  commandTable_of_none _ rfl

theorem CommandTable.trapWaitExpiry (lane : LaneId) : CommandTable.Statement (.trapWaitExpiry lane) :=
  commandTable_of_none _ rfl

theorem CommandTable.rollLookupComplete : CommandTable.Statement .rollLookupComplete :=
  commandTable_of_none _ rfl

theorem CommandTable.loansListLookupComplete : CommandTable.Statement .loansListLookupComplete :=
  commandTable_of_none _ rfl

theorem CommandTable.holdLookupComplete : CommandTable.Statement .holdLookupComplete :=
  commandTable_of_none _ rfl

theorem CommandTable.appendComplete (result : AppendEnd) : CommandTable.Statement (.appendComplete result) :=
  commandTable_of_none _ rfl

theorem CommandTable.rollBegin : CommandTable.Statement .rollBegin :=
  commandTable_of_some _ _ rfl (by decide)

theorem CommandTable.rollBeginWriteComplete (result : HeaderEnd)
    : CommandTable.Statement (.rollBeginWriteComplete result) :=
  commandTable_of_none _ rfl

theorem CommandTable.rollChunk (list : Byte) (first : BitVec 32) (count : Byte) (entries : List (List Byte))
    : CommandTable.Statement (.rollChunk list first count entries) :=
  commandTable_of_some _ _ rfl (by decide)

theorem CommandTable.chunkWriteComplete (result : BytesEnd)
    : CommandTable.Statement (.chunkWriteComplete result) :=
  commandTable_of_none _ rfl

theorem CommandTable.rollEnd (edition : Byte) (roll : BitVec 32) (loans : BitVec 32) (holds : BitVec 32)
    : CommandTable.Statement (.rollEnd edition roll loans holds) :=
  commandTable_of_some _ _ rfl (by decide)

theorem CommandTable.editionWriteComplete (result : HeaderEnd)
    : CommandTable.Statement (.editionWriteComplete result) :=
  commandTable_of_none _ rfl

theorem CommandTable.journalQuery (field : Byte) (comparison : Byte) (value : BitVec 40) (step : Byte)
    : CommandTable.Statement (.journalQuery field comparison value step) :=
  commandTable_of_some _ _ rfl (by decide)

theorem CommandTable.queryReadComplete : CommandTable.Statement .queryReadComplete :=
  commandTable_of_none _ rfl

theorem CommandTable.queryNext : CommandTable.Statement .queryNext :=
  commandTable_of_some _ _ rfl (by decide)

theorem CommandTable.replayLastRecordRead : CommandTable.Statement .replayLastRecordRead :=
  commandTable_of_none _ rfl

theorem CommandTable.replayHeadWriteComplete (result : HeaderEnd)
    : CommandTable.Statement (.replayHeadWriteComplete result) :=
  commandTable_of_none _ rfl

theorem CommandTable.replayReadComplete : CommandTable.Statement .replayReadComplete :=
  commandTable_of_none _ rfl

theorem CommandTable.minimumTimerExpiry : CommandTable.Statement .minimumTimerExpiry :=
  commandTable_of_none _ rfl

theorem CommandTable.quietTimerExpiry : CommandTable.Statement .quietTimerExpiry :=
  commandTable_of_none _ rfl

theorem CommandTable.uploadReadComplete : CommandTable.Statement .uploadReadComplete :=
  commandTable_of_none _ rfl

theorem CommandTable.takeSnapshotComplete (result : HeaderEnd)
    : CommandTable.Statement (.takeSnapshotComplete result) :=
  commandTable_of_none _ rfl

theorem CommandTable.moveMarksComplete (result : HeaderEnd) : CommandTable.Statement (.moveMarksComplete result) :=
  commandTable_of_none _ rfl

theorem CommandTable.frameStart : CommandTable.Statement .frameStart :=
  commandTable_of_none _ rfl

theorem CommandTable.lineIdle : CommandTable.Statement .lineIdle :=
  commandTable_of_none _ rfl

theorem CommandTable.transmitStart (slots : Nat) : CommandTable.Statement (.transmitStart slots) :=
  commandTable_of_none _ rfl

theorem CommandTable.lineLost : CommandTable.Statement .lineLost :=
  commandTable_of_none _ rfl

theorem CommandTable.transmitComplete : CommandTable.Statement .transmitComplete :=
  commandTable_of_none _ rfl

theorem CommandTable.frameEnd (frame : RxFrame) : CommandTable.Statement (.frameEnd frame) :=
  commandTable_of_none _ rfl

theorem CommandTable.presenceTimerExpiry : CommandTable.Statement .presenceTimerExpiry :=
  commandTable_of_none _ rfl

theorem CommandTable.absenceTimerExpiry (station : Fin 16)
    : CommandTable.Statement (.absenceTimerExpiry station) :=
  commandTable_of_none _ rfl

theorem CommandTable.resumeLine : CommandTable.Statement .resumeLine :=
  commandTable_of_some _ _ rfl (by decide)

theorem CommandTable.readPeer (station : Byte) : CommandTable.Statement (.readPeer station) :=
  commandTable_of_some _ _ rfl (by decide)

theorem CommandTable.secondTick : CommandTable.Statement .secondTick :=
  commandTable_of_none _ rfl

theorem CommandTable.setClock (day : BitVec 16) (minute : BitVec 16) (second : Byte)
    : CommandTable.Statement (.setClock day minute second) :=
  commandTable_of_some _ _ rfl (by decide)

theorem CommandTable.uploadNow : CommandTable.Statement .uploadNow :=
  commandTable_of_some _ _ rfl (by decide)

theorem CommandTable.callTimerExpiry : CommandTable.Statement .callTimerExpiry :=
  commandTable_of_none _ rfl

theorem CommandTable.senderBeginTimerExpiry : CommandTable.Statement .senderBeginTimerExpiry :=
  commandTable_of_none _ rfl

theorem CommandTable.receiptTimerExpiry : CommandTable.Statement .receiptTimerExpiry :=
  commandTable_of_none _ rfl

theorem CommandTable.handAgainTimerExpiry : CommandTable.Statement .handAgainTimerExpiry :=
  commandTable_of_none _ rfl

theorem CommandTable.gatewayBeginTimerExpiry : CommandTable.Statement .gatewayBeginTimerExpiry :=
  commandTable_of_none _ rfl

theorem CommandTable.silenceTimerExpiry (station : Fin 16)
    : CommandTable.Statement (.silenceTimerExpiry station) :=
  commandTable_of_none _ rfl

theorem CommandTable.uplinkSendComplete : CommandTable.Statement .uplinkSendComplete :=
  commandTable_of_none _ rfl

theorem CommandTable.uplinkMessageReceived (bytes : List Byte)
    : CommandTable.Statement (.uplinkMessageReceived bytes) :=
  commandTable_of_none _ rfl

theorem CommandTable.answerTimerExpiry : CommandTable.Statement .answerTimerExpiry :=
  commandTable_of_none _ rfl

theorem CommandTable.warmTimerExpiry : CommandTable.Statement .warmTimerExpiry :=
  commandTable_of_none _ rfl

theorem CommandTable.unloadTimerExpiry : CommandTable.Statement .unloadTimerExpiry :=
  commandTable_of_none _ rfl

theorem CommandTable.printComplete : CommandTable.Statement .printComplete :=
  commandTable_of_none _ rfl

theorem CommandTable.printerSensorAccepted (level : PrinterLevel)
    : CommandTable.Statement (.printerSensorAccepted level) :=
  commandTable_of_none _ rfl

theorem CommandTable.alignStep (mark : Bool) : CommandTable.Statement (.alignStep mark) :=
  commandTable_of_none _ rfl

theorem CommandTable.padSensorAccepted (pad : PadId) (present : Bool)
    : CommandTable.Statement (.padSensorAccepted pad present) :=
  commandTable_of_none _ rfl

theorem CommandTable.padPulseEnd (pad : PadId) : CommandTable.Statement (.padPulseEnd pad) :=
  commandTable_of_none _ rfl

theorem CommandTable.selectActive : CommandTable.Statement .selectActive :=
  commandTable_of_none _ rfl

theorem CommandTable.errorState (command : Byte) : CommandTable.Statement (.errorState command) :=
  commandTable_of_none _ rfl

theorem CommandTable.answerComplete : CommandTable.Statement .answerComplete :=
  commandTable_of_none _ rfl

theorem CommandTable.selectRelease (begun : Bool) (inputs : ResetInputs)
    : CommandTable.Statement (.selectRelease begun inputs) :=
  commandTable_of_none _ rfl

theorem CommandTable.identify : CommandTable.Statement .identify :=
  commandTable_of_some _ _ rfl (by decide)

theorem CommandTable.readStatus : CommandTable.Statement .readStatus :=
  commandTable_of_some _ _ rfl (by decide)

theorem CommandTable.takeAttention : CommandTable.Statement .takeAttention :=
  commandTable_of_some _ _ rfl (by decide)

theorem CommandTable.setEnables (enables : BitVec 16) : CommandTable.Statement (.setEnables enables) :=
  commandTable_of_some _ _ rfl (by decide)

theorem CommandTable.inquireBorrower (borrower : BitVec 48) : CommandTable.Statement (.inquireBorrower borrower) :=
  commandTable_of_some _ _ rfl (by decide)

theorem CommandTable.inquireItem (item : BitVec 48) : CommandTable.Statement (.inquireItem item) :=
  commandTable_of_some _ _ rfl (by decide)

theorem CommandTable.stageRuleDiscard : CommandTable.Statement .stageRuleDiscard :=
  commandTable_of_some _ _ rfl (by decide)

theorem CommandTable.stageRuleClass (cls : Byte) (unit : Byte) (period : Byte) (rate : BitVec 16) (cap : BitVec 16) (grace : Byte) (renewLimit : Byte)
    : CommandTable.Statement (.stageRuleClass cls unit period rate cap grace renewLimit) :=
  commandTable_of_some _ _ rfl (by decide)

theorem CommandTable.stageRuleCategory (category : Byte) (limit : Byte) (mask : BitVec 16)
    : CommandTable.Statement (.stageRuleCategory category limit mask) :=
  commandTable_of_some _ _ rfl (by decide)

theorem CommandTable.stageRuleHours (weekday : Byte) (opening : BitVec 16) (closing : BitVec 16)
    : CommandTable.Statement (.stageRuleHours weekday opening closing) :=
  commandTable_of_some _ _ rfl (by decide)

theorem CommandTable.stageRuleClosure (mask : Byte) : CommandTable.Statement (.stageRuleClosure mask) :=
  commandTable_of_some _ _ rfl (by decide)

theorem CommandTable.stageRuleHolidayAdd (day : BitVec 16) : CommandTable.Statement (.stageRuleHolidayAdd day) :=
  commandTable_of_some _ _ rfl (by decide)

theorem CommandTable.stageRuleHolidayRemove (day : BitVec 16)
    : CommandTable.Statement (.stageRuleHolidayRemove day) :=
  commandTable_of_some _ _ rfl (by decide)

theorem CommandTable.stageRuleWindow (warning : BitVec 16) (blocking : BitVec 16)
    : CommandTable.Statement (.stageRuleWindow warning blocking) :=
  commandTable_of_some _ _ rfl (by decide)

theorem CommandTable.stageRuleUploadMinute (minute : BitVec 16)
    : CommandTable.Statement (.stageRuleUploadMinute minute) :=
  commandTable_of_some _ _ rfl (by decide)

theorem CommandTable.applyNow : CommandTable.Statement .applyNow :=
  commandTable_of_some _ _ rfl (by decide)

theorem CommandTable.readSetting (number : Byte) : CommandTable.Statement (.readSetting number) :=
  commandTable_of_some _ _ rfl (by decide)

theorem CommandTable.writeSetting (number : Byte) (value : BitVec 16)
    : CommandTable.Statement (.writeSetting number value) :=
  commandTable_of_some _ _ rfl (by decide)

theorem CommandTable.commitSettings : CommandTable.Statement .commitSettings :=
  commandTable_of_some _ _ rfl (by decide)

theorem CommandTable.settingsWriteComplete (result : SettingsEnd)
    : CommandTable.Statement (.settingsWriteComplete result) :=
  commandTable_of_none _ rfl

theorem CommandTable.warmRestart : CommandTable.Statement .warmRestart :=
  commandTable_of_some _ _ rfl (by decide)

theorem CommandTable.stageRuleBadPartCode (code : Byte) : CommandTable.Statement (.stageRuleBadPartCode code) :=
  commandTable_of_some _ _ rfl (by decide)

end Sys2Proof.Laws
end

