-- ==== Sys2Proof/Tests/Slice0.lean ====
section
/-! SUPPORT. Tests/Slice0.lean: the checks of WellFormed by ill-formed operands, the manual's worked examples, and
a state and operands that meet the hypotheses of every statement of the certificate. -/

namespace Sys2Proof.Tests
open Sys2Proof Sys2Proof.Machine

/-! ## Small states -/

/-- The state after a command. -/
def after (c : Instr) (s : State) : State :=
  match exec c s with
  | .next t => t
  | .fault f => nomatch f
  | .refused _ => s

/-- A READY station with edition 1 loaded, its clock SET on day 100 at 10:00, both lanes IDLE, the line idle, and a
frame just opened on the desk port. -/
def floor : State :=
  { State.reset with
    station := .ready
    laneA := { LaneCtl.reset .a with state := .idle }
    laneB := { LaneCtl.reset .b with state := .idle }
    clock := { Clock.reset with seconds := 59, minute := 600, day := 100, set := true }
    memory := { MemCtl.reset with copies := { Copies.zero with edition := 1 } }
    line := { LineCtl.reset with state := .idle, engine := .idle, presenceTimer := some 10000 }
    port := { Port.reset with ready := true, frame := .opened } }

/-- A frame of the desk port in a given state. -/
def framed (f : FrameState) : State := { floor with port := { floor.port with frame := f } }

/-- A request in progress at the memory port. -/
def asking (op : MemOp) : State := { floor with memory := { floor.memory with busy := some ⟨op, false⟩ } }

/-- A ROLL BEGIN whose header write has not completed. -/
def unwritten (s : State) : State := { s with memory := { s.memory with beginUnwritten := true } }

/-- Lane A of a state, changed. -/
def onA (s : State) (f : LaneCtl → LaneCtl) : State := { s with laneA := f s.laneA }

/-- The entry of borrower 5: category 1, a card to day 200, no loans. -/
def reader : Entry := newEntry 5 ⟨1, 200, 0, 0, false, false⟩ .default 1

def withReader (s : State) : State := { s with standing := { s.standing with entries := [reader] } }

/-- A transaction context of lane A for item 7 of borrower 5. -/
def work (op : Operation) (stage : Stage) : Txn :=
  { Txn.start op stage .keyed with borrower := some 5, item := some 7, reckonDay := 100 }

def working (s : State) (t : Txn) : State := onA s fun c => { c with state := .working, txn := some t }

/-- Rules with a DAYS class 0 of 14 days and a category 1 of limit 5 that may borrow it. -/
def rules : RuleSet :=
  { RuleSet.default with
    classes := RuleSet.default.classes.set 0 ⟨.days, 14, 10, 500, 1, 2⟩
    categories := RuleSet.default.categories.set 1 ⟨5, 1⟩ }

def withRules (s : State) : State := { s with reckoner := ⟨rules, none, true⟩ }

/-! ## WellFormed refuses what no connection brings -/

theorem test_wf_chunk_entries : (Instr.rollChunk 1 0 1 []).wellFormed = false := by decide
theorem test_wf_chunk_entry_length : (Instr.rollChunk 1 0 1 [[], [], [], []]).wellFormed = false := by decide
theorem test_wf_header_end : (Instr.editionWriteComplete (.failsAt 10)).wellFormed = false := by decide
theorem test_wf_append : (Instr.appendComplete (.readsBack [0])).wellFormed = false := by decide
theorem test_wf_chunk_end : (Instr.chunkWriteComplete (.readsBack (List.replicate 65 0))).wellFormed = false := by
  decide
theorem test_wf_uplink : (Instr.uplinkMessageReceived (List.replicate 261 0)).wellFormed = false := by
  show decide ((List.replicate 261 (0 : Byte)).length ≤ 260) = false
  rw [List.length_replicate]; rfl
theorem test_wf_error_state : (Instr.errorState 0x1D).wellFormed = false := by decide
theorem test_wf_bad_part : (Instr.stageRuleBadPartCode 8).wellFormed = false := by decide
theorem test_wf_borrower : (Body.payment ⟨10 ^ 12, 0, 0⟩).wellFormed = false := by decide
theorem test_wf_net_loans : (Body.payment ⟨5, 1000, 0⟩).wellFormed = false := by decide
theorem test_wf_net_balance : (Body.payment ⟨5, 0, -100000⟩).wellFormed = false := by decide
theorem test_wf_day : (Body.dayRoll 65536).wellFormed = false := by decide
theorem test_wf_minute : (Body.loan ⟨5, 0, 0⟩ 7 .roll 0 1440 0).wellFormed = false := by decide
theorem test_wf_loan_part : (Body.item 7 .roll (some ⟨5, 0, 0, 256⟩) 1).wellFormed = false := by decide
theorem test_wf_rank : (Body.trap ⟨1, 256, 5, 7⟩ 0 .trapped).wellFormed = false := by decide
theorem test_wf_trap_station : (Body.trap ⟨1, 1, 5, 7⟩ 16 .trapped).wellFormed = false := by decide
theorem test_wf_trap_state : (Body.trapState ⟨10 ^ 7, 1, 5, 7⟩ .confirmed 1).wellFormed = false := by decide
theorem test_wf_heard : (Body.presence ⟨0, 0, 0, false, false, []⟩).wellFormed = false := by decide
theorem test_wf_action : (Body.tally ⟨5, 0, 0⟩ 1 (some ⟨.raise, 65536⟩) none).wellFormed = false := by decide
theorem test_wf_records : (Body.uploadBlock 1 []).wellFormed = false := by decide
theorem test_wf_begin : (Body.uploadBegin 0 16385).wellFormed = false := by decide
theorem test_wf_refusal : (Body.uploadRefusal 256).wellFormed = false := by decide

/-! ## The manual's worked examples -/

/-- Section 1.7: the digits of a borrower label and its check digit. -/
theorem test_check_digit : checkDigit [2, 0, 0, 0, 4, 1, 7, 3, 5, 2, 0, 8, 6] = 4 := by decide

/-- Section 1.6: a character of counts 248, 610, 255, 240, 590. -/
theorem test_character : decodeCharacter 14 [248, 610, 255, 240, 590] 100 = .ok 6 := by decide

theorem test_threshold : threshold [248, 610, 255, 240, 590] = 423 := by decide

/-- Section 1.7: the CANCEL and END SESSION labels. -/
theorem test_cancel_label : labelKind [9, 0, 0, 2, 0, 1] = .deskCommand 20 ∧ checkHolds [9, 0, 0, 2, 0, 1] = true := by
  decide

theorem test_end_session_label :
    labelKind [9, 0, 0, 0, 1, 0] = .deskCommand 1 ∧ checkHolds [9, 0, 0, 0, 1, 0] = true := by decide

/-- Section 4.4 of 00_scope.md: day 0 is Monday 3 January 2000. -/
theorem test_day_zero : weekday 0 = 0 ∧ dateOf 0 = ⟨2000, 1, 3⟩ ∧ dateOf 57 = ⟨2000, 2, 29⟩ := by decide

/-- R88 and R90: an item that LOOKUP found OUT with basis TODAY and whose entry is gone is IN at COMMIT; one found OUT in
the loans list is still OUT. -/
theorem test_item_at_commit :
    floor.itemNow 7 (some ⟨.today, some ⟨5, 90, 1020, 0⟩⟩) = ⟨.today, none⟩ ∧
      floor.itemNow 7 (some ⟨.roll, some ⟨5, 90, 1020, 0⟩⟩) = ⟨.roll, some ⟨5, 90, 1020, 0⟩⟩ := by decide

/-- No row of the command table gives bits. -/
theorem test_no_word : decodeTableWord 8 0x1A = none := by decide

/-- On an empty queue the block idles (assumption 4). -/
theorem test_idle : step State.reset = .next State.reset := rfl

/-! ## Hypotheses met: the block and the desk port -/

theorem witness_ExecLeavesTheQueue : ∃ t, exec .identify floor = .next t := ⟨_, rfl⟩

theorem witness_StepKeepsMemoryCanonical :
    let s := { floor with
      pending := [.rollBegin], attached := { floor.attached with cells := [(Config.rollBase, 3), (0xFFFFFF, 1)] } }
    s.memoryCanonical ∧ ∃ t, step s = .next t := ⟨by unfold State.memoryCanonical; decide, _, rfl⟩

theorem witness_StepKeepsTablesWithinCapacity :
    (withReader floor).within ∧ ∃ t, step { withReader floor with pending := [.lineIdle] } = .next t :=
  ⟨⟨⟨by decide, by decide, by decide, by decide, by decide, by decide, by decide⟩, ⟨by decide, by decide⟩, by decide,
    ⟨by decide, by decide, by decide⟩, fun _ h => (Option.some_ne_none _ h.symm).elim, by decide, by decide, by decide⟩, _, rfl⟩

theorem witness_FramesOpenEndAndLatchErrors :
    (framed .closed).port.frame = .closed ∧
      (outsideCommandTable 0x1E = true ∧ outsideCommandTable 0 = true ∧ floor.takesCommand = true) ∧
      floor.port.frame = .opened ∧ (framed .further).port.frame = .further ∧
      (framed (.answering .none)).port.frame = .answering .none ∧ (framed .error).port.frame = .error ∧
      (framed (.answering .query)).port.frame = .answering .query := by decide

theorem witness_PortStatusAndAttention_status :
    floor.port.frame = .opened ∧ (framed .further).port.frame ≠ .opened ∧
      let s := { floor with port := { floor.port with ready := false } }
      s.takesCommand = true ∧ s.port.ready = false := by decide

/-- Lane A in REPORTING with its result unread. -/
def reported : State := onA floor fun c => { c with state := .reporting, unread := true }

theorem witness_ReadResultAndClearingEffects :
    (reported.serves = true ∧ laneOfByte 0 = some .a ∧ (reported.lane .a).unread = true) ∧
      (laneOfByte 1 = some .b ∧ (reported.lane .b).unread = false) ∧
      (framed (.answering .none)).port.frame = .answering .none ∧
      (framed (.answering (.attention 11))).port.frame = .answering (.attention 11) ∧
      (let s := { framed (.answering .query) with
        memory := { floor.memory with query := { Query.reset with state := .ended } } }
       s.port.frame = .answering .query ∧ s.memory.query.state = .ended) ∧
      (let s := { reported with port := { floor.port with frame := .answering (.result .a) } }
       s.port.frame = .answering (.result .a) ∧ (s.lane .a).unread = true ∧ (s.lane .a).slot = none ∧
         (s.lane .a).state = .reporting) ∧
      (let r := { Result.blank .a with balance := some (-99999), count := some (-999, 99) }
       (-2 ^ 31 ≤ r.balance.getD 0) ∧ r.balance.getD 0 < 2 ^ 31 ∧ -2 ^ 15 ≤ (r.count.getD (0, 0)).1 ∧
         (r.count.getD (0, 0)).1 < 2 ^ 15) := by decide

theorem witness_StatusAndInquiriesOnlyAnswer :
    floor.serves = true ∧ ((15#8).toNat < 16 ∧ (15#8).toNat ≠ floor.number) ∧
      (16 ≤ (16#8).toNat ∨ (16#8).toNat = floor.number) ∧ (0#8).toNat = floor.number ∧
      packedNumber 0x999999999999 = some 999999999999 ∧ packedNumber 0xA = none ∧
      (floor.entry? 999999999999 = none ∧ floor.item? 999999999999 = none) ∧
      ((withReader floor).entry? 5 = some reader ∧ -2 ^ (8 * 4 - 1) ≤ reader.balance ∧ reader.balance < 2 ^ (8 * 4 - 1) ∧
        -2 ^ (8 * 2 - 1) ≤ reader.count ∧ reader.count < 2 ^ (8 * 2 - 1)) ∧
      (let t : TrapRecord := ⟨0, 1, 6, 7, 0, .confirmed, 4⟩
       let s := { floor with overlay := { floor.overlay with entries := [⟨7, .roll, none, 0, 4⟩] }, traps := [t] }
       s.item? 7 = some ⟨7, .roll, none, 0, 4⟩ ∧ (s.traps.filter fun y => y.item == 7) = [t]) := by decide

theorem witness_PortStatusAndAttention_attention :
    let s := { floor with port := { floor.port with pending := 0b10000000001, enabled := 0b11111111111 } }
    let r := { floor with port := { floor.port with pending := 0b10000000000, enabled := 0b11111111111 } }
    (s.serves = true ∧ (s.port.pending &&& s.port.enabled).getLsbD (1 - 1) = true) ∧
      ((r.port.pending &&& r.port.enabled).getLsbD (11 - 1) = true ∧
        ∀ j < 11, 1 ≤ j → (r.port.pending &&& r.port.enabled).getLsbD (j - 1) = false) ∧
      floor.port.pending &&& floor.port.enabled = 0#11 := by decide

/-! ## Rules and settings -/

theorem witness_StageRuleStagesOrRefuses :
    floor.serves = true ∧ floor.settings.cycle = none ∧
      ((9#8).toNat ≤ 9 ∧ (5000#16).toNat ≤ 5000 ∧ (60000#16).toNat ≤ 60000 ∧ (120#8).toNat ≤ 120 ∧ (7#8).toNat ≤ 7 ∧
        (12#8).toNat ≤ 12) ∧
      ((7#8).toNat ≤ 7 ∧ (99#8).toNat ≤ 99) ∧
      ((6#8).toNat ≤ 6 ∧ (1439#16).toNat ≤ 1439 ∧ (1438#16).toNat < (1439#16).toNat) ∧
      floor.reckoner.base.holidays.length < 48 ∧
      (9 < (10#8).toNat ∧ 2 < (3#8).toNat ∧ 5000 < (5001#16).toNat ∧ 60000 < (60001#16).toNat ∧
        7 < (8#8).toNat ∧ 99 < (100#8).toNat ∧ 6 < (7#8).toNat ∧ 1439 < (1440#16).toNat ∧ 8 < (9#8).toNat) ∧
      (let s := { floor with reckoner := { floor.reckoner with
        staged := some { RuleSet.default with holidays := List.range 48 } } }
       (48#16).toNat ∉ s.reckoner.base.holidays ∧ 48 ≤ s.reckoner.base.holidays.length) ∧
      (let s := { floor with settings := { floor.settings with cycle := some ⟨none, none, none⟩ } }
       s.serves = true ∧ s.settings.cycle.isSome = true) := by decide

theorem witness_HolidaysStayAscending : [3, 7, 9].Pairwise (· < ·) := by decide

theorem witness_ApplyNowActivatesTheStagedSet :
    let s := { floor with reckoner := ⟨RuleSet.default, some rules, false⟩ }
    s.serves = true ∧ s.settings.cycle = none ∧ (s.laneA.state = .idle ∧ s.laneB.state = .idle) ∧
      s.reckoner.staged = some rules ∧ s.clock.armed = false ∧
      ((onA s fun c => { c with state := .session }).laneA.state ≠ .idle ∧
        (onA s fun c => { c with state := .session }).laneA.state ≠ .closed) ∧
      floor.reckoner.staged = none := by decide

theorem witness_SettingsAreDraftedAndCommitted :
    floor.serves = true ∧ floor.settings.cycle = none ∧ (9#8).toNat < 10 ∧ 10 < (11#8).toNat ∧
      (floor.settings.draft.withValue 3 65535).isSome = true ∧ floor.settings.draft.withValue 3 499 = none ∧
      (let s := { floor with settings := { floor.settings with cycle := some ⟨none, some RuleSet.default, none⟩ } }
       s.settings.cycle = some ⟨none, some RuleSet.default, none⟩ ∧ s.settings.recordWaiting = false ∧
         s.reckoner.staged = none) := by decide

theorem witness_TwoCopiesKeepTheFormerOne :
    let i : Image Settings := ⟨⟨Settings.default, 0xFFFFFFFE, true⟩, ⟨Settings.default, 0xFFFFFFFD, true⟩⟩
    let p : CellPair := ⟨⟨4, 1, true⟩, ⟨9, 0, false⟩⟩
    (i.slot0.count ≠ i.slot1.count ∧ i.slot0.count ≠ BitVec.allOnes 32 ∧ i.slot1.count ≠ BitVec.allOnes 32 ∧
        i.slot0.good = true) ∧
      (let j : Image RuleSet := ⟨⟨RuleSet.default, 3, true⟩, ⟨rules, 4, false⟩⟩
       j.slot0.count ≠ j.slot1.count ∧ j.slot0.count ≠ BitVec.allOnes 32 ∧ j.slot1.count ≠ BitVec.allOnes 32 ∧
         j.slot0.good = true) ∧
      ((p.cell0.good = true → p.cell1.good = true → p.cell0.count ≠ p.cell1.count) ∧
        p.cell0.count ≠ BitVec.allOnes 32 ∧ p.cell1.count ≠ BitVec.allOnes 32 ∧ p.cell0.good = true) := by decide

theorem witness_RestartsResetTheBlocks :
    (floor.serves = true ∧ floor.station ≠ .fault ∧ floor.settings.cycle = none) ∧
      (let s := { floor with station := .fault }
       s.serves = true ∧ s.station = .fault) ∧
      (let s := { floor with settings := { floor.settings with cycle := some ⟨none, none, none⟩ } }
       s.serves = true ∧ s.settings.cycle.isSome = true) ∧
      ((framed .restarting).port.frame = .restarting ∧ (framed .restarting).writesNothing = true ∧
        (asking .queryRead).writesNothing = true ∧ (framed .restarting).memory.beginUnwritten = false ∧
        (framed .restarting).memory.faulted = false) ∧
      ((unwritten (asking .rollBeginWrite)).memory.beginUnwritten = true ∧
        (unwritten (asking .rollBeginWrite)).memory.busy = some ⟨.rollBeginWrite, false⟩ ∧
        (unwritten (asking .takeSnapshot)).memory.busy = some ⟨.takeSnapshot, false⟩ ∧
        (unwritten floor).writesNothing = true ∧
        floor.attached.header.edition.cell0.count ≠ BitVec.allOnes 32 ∧
        floor.attached.header.edition.cell1.count ≠ BitVec.allOnes 32) := by decide

/-- A header whose fields all have the value 3 but tail, which has 1. -/
def goodHeader : Header :=
  let p : CellPair := ⟨⟨3, 2, true⟩, ⟨0, 1, true⟩⟩
  ⟨true, p, p, p, p, ⟨⟨1, 2, true⟩, ⟨0, 1, true⟩⟩, p, p, p, p⟩

/-- A station in STARTING with a request of the header check in progress. -/
def starting (op : MemOp) : State :=
  { State.reset with
    port := { Port.reset with ready := true }, memory := { MemCtl.reset with busy := some ⟨op, false⟩ } }

theorem witness_HeaderCheckDecidesTheStart :
    let s := starting .headerRead
    let good := { s with attached := { s.attached with header := goodHeader } }
    let bad := { s with attached := { s.attached with header := { goodHeader with head := .blank } } }
    let fresh := starting .freshHeader
    (s.port.ready = true ∧ s.memory.busy = some ⟨.headerRead, false⟩ ∧ s.attached.header.formatted = false) ∧
      (good.attached.header.formatted = true ∧ good.attached.header.copies? = some ⟨3, 3, 3, 3, 1, 3, 3, 3, 3⟩ ∧
        good.station = .starting ∧ good.memory.waiting = [] ∧ good.line.s = []) ∧
      (bad.attached.header.formatted = true ∧ bad.attached.header.copies? = none) ∧
      (fresh.memory.busy = some ⟨.freshHeader, false⟩ ∧ fresh.memory.waiting = [] ∧ fresh.memory.copies = .zero ∧
        fresh.station = .starting ∧ fresh.line = .reset ∧ fresh.attached.header.edition = .blank ∧
        CellPair.blank.cell0.count ≠ BitVec.allOnes 32 ∧ CellPair.blank.cell0.good = false) := by decide

theorem witness_HeaderCheckDecidesTheStart_counts (f : HeaderField) :
    let p := (starting .freshHeader).attached.header.pair f
    (p.cell0.good = true → p.cell1.good = true → p.cell0.count ≠ p.cell1.count) ∧
      p.cell0.count ≠ BitVec.allOnes 32 ∧ p.cell1.count ≠ BitVec.allOnes 32 := by
  cases f <;> decide

theorem witness_GatheringEndsWithBothTimers :
    let s := { floor with station := .gathering, minimumTimer := some 5000, quietTimer := some 3000 }
    (s.minimumTimer = some 5000 ∧ s.quietTimer = some 3000 ∧ s.station = .gathering) ∧
      { s with quietTimer := none }.quietTimer = none ∧ { s with minimumTimer := none }.minimumTimer = none := by
  decide

/-- A PAYMENT record of number 1. -/
def payment1 : JournalRecord :=
  { number := 1, stamp := 9, kind := .payment, lane := .a, day := 100, minute := 600, borrower := 5, item := 0
    dueDay := 0, dueMinute := 0, holdBorrower := 0, amount := 250, outcome := 0, edition := 1 }

/-- A replaying station with one record below head, whole in its slot. -/
def replaying (op : MemOp) : State :=
  { asking op with
    station := .replaying
    memory := { (asking op).memory with copies := { Copies.zero with edition := 1, tail := 0, head := 2 } }
    attached := { floor.attached with cells := Memory.writeBytes [] (slotAddress 1) payment1.bytes } }

/-- A RENEW record of number 0 for item 7. -/
def renew0 : JournalRecord := { payment1 with number := 0, kind := .renew, item := 7, dueDay := 114, dueMinute := 1020 }

/-- Replay of `renew0` while its loans-list lookup is in progress, over a list that will answer so: a fault, a loan of
the item renewed 8 times, or nothing. -/
def replayingItem (answer : Lookup ItemAnswer) : State :=
  let s := replaying (.loansLookup .replay 7)
  let entry := withCheck (bytesOf 5 7 ++ bytesOf 5 5 ++ bytesOf 2 90 ++ bytesOf 2 1020 ++ [8])
  { s with
    memory := { s.memory with
      copies := { s.memory.copies with loansCount := if answer = .missing then 0 else 1 }
      replay := some ⟨0, .overlay renew0⟩ }
    attached := { s.attached with
      cells := if answer = .fault then [] else Memory.writeBytes s.attached.cells Config.loansBase entry } }

theorem witness_ReplayReadsTheJournal :
    ((replaying .replayLast).memory.busy = some ⟨.replayLast, false⟩ ∧ (replaying .replayLast).memory.waiting = [] ∧
        slotHolds ((replaying .replayLast).slotBytes (2 - 1)) (2 - 1) = true) ∧
      slotHolds (({ replaying .replayLast with attached := floor.attached } : State).slotBytes (2 - 1)) (2 - 1) = false ∧
      (replaying .replayHead).memory.busy = some ⟨.replayHead, false⟩ ∧
      ((replaying (.replayRead 1)).memory.busy = some ⟨.replayRead 1, false⟩ ∧
        recordOf ((replaying (.replayRead 1)).slotBytes 1) = some payment1 ∧
        (replaying (.replayRead 1)).entry? 5 = none ∧ (replaying (.replayRead 1)).memory.load.loading = false) ∧
      slotHolds ((replaying (.replayRead 0)).slotBytes 0) 0 = false ∧
      ((replayingItem .fault).memory.busy = some ⟨.loansLookup .replay 7, false⟩ ∧
        (replayingItem .fault).memory.replay = some ⟨0, .overlay renew0⟩ ∧ renew0.number + 1 < 2 ∧
        renew0.kind = .renew ∧ (replayingItem .fault).lookupLoan renew0.item = .fault) ∧
      ((replayingItem (.found ⟨.roll, none⟩)).lookupLoan 7 = .found ⟨.roll, some ⟨5, 90, 1020, 8⟩⟩ ∧
        (replayingItem .missing).lookupLoan 7 = .missing ∧ (replayingItem .missing).item? 7 = none ∧
        (replayingItem .missing).overlay.used < 8192) := by decide

/-! ## Lanes -/

/-- Lane A with an open session of borrower 5 and an OPEN slip in record 7. -/
def inSession : State :=
  { onA (withReader floor) fun c => { c with
      state := .session, session := some ⟨5, some 7⟩, idleTimer := some 120000, mode := .lend } with
    slips := { floor.slips with slips := floor.slips.slips.set 7 { Slip.free with state := .opened } } }

theorem witness_LaneModeAndEndSession_mode :
    (floor.serves = true ∧ (floor.lane .a).state = .idle ∧ (floor.lane .a).slot = none ∧
        (floor.lane .a).session = none ∧ (floor.lane .a).endPending = false ∧ (floor.lane .a).mode = .ret) ∧
      (inSession.serves = true ∧ (inSession.lane .a).session.isSome = true ∧ (inSession.lane .a).slot = none ∧
        (inSession.lane .a).mode ≠ .ret) ∧
      ((working floor (work .lend .lookup)).lane .a).state = .working ∧
      (let s := onA floor fun c => { c with state := .closed }
       (s.lane .a).state = .closed ∧ s.station = .ready ∧ { s with station := .gathering }.station ≠ .ready) ∧
      3 < (4#8).toNat ∧ 1 < (2#8).toNat := by decide

theorem witness_SessionEndClearsTheContext :
    (inSession.lane .a).session = some ⟨5, some 7⟩ ∧ (inSession.lane .a).txn = none ∧
      (7 < inSession.slips.slips.length ∧ (inSession.slip 7).hold = none) ∧ inSession.entry? 5 = some reader := by decide

theorem witness_LaneModeAndEndSession_end :
    (inSession.serves = true ∧ (inSession.lane .a).state = .session ∧ (inSession.lane .a).slot = none ∧
        (inSession.lane .a).session.isSome = true ∧ (inSession.lane .a).idleTimer = some 120000) ∧
      ((floor.lane .b).state = .idle ∧ (floor.lane .b).session = none ∧ (floor.lane .b).endPending = false) ∧
      ((working floor (work .lend .lookup)).lane .a).state = .working ∧
      (onA floor fun c => { c with state := .closed }).station = .ready := by decide

/-- The digits of the END SESSION and LEND labels, packed. -/
theorem witness_KeyedEntryOffersALabel :
    (floor.serves = true ∧ (halfBytes 14 0x90001000000000).take 6 = [9, 0, 0, 0, 1, 0] ∧
        [9, 0, 0, 0, 1, 0].getLast? = some (checkDigit [9, 0, 0, 0, 1]) ∧
        labelKind [9, 0, 0, 0, 1, 0] ≠ .deskCommand 20) ∧
      ((halfBytes 14 0xA0001000000000).take 6).all (· ≤ 9) = false ∧
      (let s := working floor (work .lend .lookup)
       (s.lane .a).state = .working ∧ (s.lane .a).slot = none) ∧
      ((onA reported fun c => { c with slot := some ⟨.keyed, .badKind, []⟩ }).lane .a).slot.isSome = true ∧
      ((onA floor fun c => { c with state := .closed }).lane .a).state = .closed ∧
      ((floor.lane .a).state = .idle ∧ (floor.lane .a).session = none ∧ (floor.lane .a).txn = none ∧
        labelKind [9, 0, 0, 1, 0, checkDigit [9, 0, 0, 1, 0]] = .deskCommand (10 + LaneMode.lend.code)) := by decide

/-- The floor with lane A in a mode. -/
def inMode (m : LaneMode) : State := onA floor fun c => { c with mode := m }

/-- A state whose overlay holds item 7 OUT to a borrower, or IN, under rules that lend it. -/
def holding (s : State) (loan : Option LoanPart) : State :=
  { withRules s with overlay := { s.overlay with entries := [⟨7, .today, loan, 3, 4⟩] } }

theorem witness_LabelsAreTakenAsNewWork :
    ((floor.lane .a).txn = none ∧ (floor.lane .a).endPending = false ∧ (floor.lane .a).mode = .ret ∧
        floor.memory.busy = none ∧ floor.memory.waiting = [] ∧ floor.memory.load.loading = false ∧
        floor.memory.faulted = false ∧ floor.station = .ready ∧ floor.edition ≠ 0 ∧ floor.clock.set = true) ∧
      (((inMode .inquire).lane .a).mode = .inquire ∧ (inMode .inquire).entry? 5 = none ∧
        (withReader (inMode .inquire)).entry? 5 = some reader ∧ { inMode .inquire with station := .gathering }.station ≠ .ready ∧
        { inMode .inquire with memory := MemCtl.reset }.edition = 0) ∧
      ((inSession.lane .a).session = some ⟨5, some 7⟩ ∧ (inSession.lane .a).txn = none ∧ (inSession.lane .a).mode = .lend ∧
        ((inMode .lend).lane .a).session = none ∧ ((inMode .renew).lane .a).mode = .renew ∧
        (withReader (inMode .lend)).slips.printer ≠ .idleWarm ∧
        { inMode .lend with clock := Clock.reset }.clock.set = false) ∧
      (floor.memory.copies.head - floor.memory.copies.tail + floor.memory.requested < 16384 ∧ floor.line.stamps < 65535 ∧
        floor.item? 7 = none ∧ floor.overlay.room .a = false ∧ floor.provisionalOf .a = none) ∧
      (∀ loan ∈ [none, some ⟨5, 90, 1020, 1⟩, some ⟨6, 90, 1020, 1⟩],
        (holding floor loan).item? 7 = some ⟨7, .today, loan, 3, 4⟩ ∧
        ((holding inSession loan).lane .a).session = some ⟨5, some 7⟩ ∧ (holding inSession loan).entry? 5 = some reader) ∧
      (reader.reserved .a = false ∧ reader.lost.awaiting = [] ∧ (holding inSession none).lendCheck reader 7 = none ∧
        rules.due (itemClass 7) reader.roll.expiry 100 600 = .ok (114, 1020)) ∧
      ((rules.classRule (itemClass 7)).unit ≠ .none ∧ 100 ≤ reader.roll.expiry ∧ 1 < (rules.classRule (itemClass 7)).renewLimit) := by
  decide

/-- A return of lane A that waits for its TRAP notice, which is queued or on the line. -/
def awaitingTrap (sent : Bool) : State :=
  let n : Notice := ⟨4, 255, .trap ⟨0, 1, 6, 7⟩ 0 .trapped⟩
  { onA (working (withReader floor) { work .ret .awaitTrap with
      hold := some ⟨1, 6⟩, found := some ⟨.roll, some ⟨5, 90, 1020, 0⟩⟩, due := (90, 1020), fine := 70 }) fun c =>
      { c with trapWait := some 2000 } with
    traps := [⟨0, 1, 6, 7, 0, .provisional .a false, 4⟩]
    line := { floor.line with u := [n], stamps := 4, sending := if sent then some ⟨.u, 0, 1, n, false⟩ else none } }

/-- A block of lane A that waits for its BLOCK notice, which is queued or on the line. -/
def awaitingBlock (sent : Bool) : State :=
  let n : Notice := ⟨4, 255, .block ⟨5, 0, 0⟩ .raise .lost⟩
  { onA (working (withReader floor) { work .block .awaitLine with stamp := 4, item := none }) fun c =>
      { c with blockWait := some 2000 } with
    line := { floor.line with u := [n], stamps := 4, sending := if sent then some ⟨.u, 0, 1, n, false⟩ else none } }

theorem witness_CancelEndsUncommittedWork :
    (floor.serves = true ∧ (floor.lane .a).state = .idle) ∧ ((reported.lane .a).state = .reporting ∧
        (reported.lane .a).txn = none) ∧
      (let s := working floor { work .lend .commit with committed := true }
       (s.lane .a).state = .working ∧ (s.lane .a).txn.map (·.committed) = some true) ∧
      (let n : Notice := ⟨4, 255, .block ⟨5, 0, 0⟩ .raise .lost⟩
       let s := { working floor { work .block .awaitLine with stamp := 4 } with
        line := { floor.line with u := [n], sending := some ⟨.u, 0, 1, n, false⟩ } }
       (s.lane .a).txn.map (·.stage) = some .awaitLine ∧ isBlockNotice 4 n = true ∧ s.line.sending.isSome = true) ∧
      (let s := working floor (work .lend .lookup)
       (s.lane .a).txn = some (work .lend .lookup) ∧ (work .lend .lookup).committed = false ∧
         (s.lane .a).endPending = false ∧ (work .lend .lookup).trap = .none ∧
         s.awaitingOwn (work .lend .lookup) = false ∧ s.provisionalOf .a = none) ∧
      (let x := { Txn.start .borrowerCheck .borrower .keyed with borrower := some 5 }
       let s := onA floor fun c => { c with state := .checking, txn := some x }
       (s.lane .a).state = .checking ∧ x.committed = false ∧ x.stage = .borrower ∧ s.awaitingOwn x = false) ∧
      (((awaitingTrap true).lane .a).txn.map (fun x => (x.stage, x.committed, x.trap)) = some (.awaitTrap, false, .none) ∧
        (awaitingTrap true).provisionalOf .a = some ⟨0, 1, 6, 7, 0, .provisional .a false, 4⟩ ∧
        (awaitingTrap true).line.sending.map (fun y => (TrapRecord.isNotice ⟨0, 1, 6, 7, 0, .provisional .a false, 4⟩
          y.notice)) = some true ∧ (awaitingTrap false).line.sending = none ∧ (awaitingTrap true).serves = true) ∧
      (((awaitingBlock false).lane .a).txn.map (fun x => (x.stage, x.committed, x.trap)) = some (.awaitLine, false, .none) ∧
        ((awaitingBlock false).lane .a).txn.map (awaitingBlock false).awaitingOwn = some false ∧
        (awaitingBlock false).line.sending = none ∧ (awaitingBlock false).provisionalOf .a = none) := by decide

theorem witness_BorrowerOperationsBeginAndGoOn :
    (floor.serves = true ∧ packedNumber 5 = some 5 ∧ floor.stationRefusal ⟨true, true⟩ = none ∧
        floor.entry? 5 = none ∧ floor.memory.busy = none ∧ floor.memory.waiting = [] ∧
        floor.memory.load.loading = false ∧ floor.laneA.free = true) ∧
      (1 ≤ (99999#24).toNat ∧ (99999#24).toNat ≤ 99999 ∧ 99999 < (100000#24).toNat) ∧
      (let s := working floor (work .lend .lookup)
       s.laneA.free = false ∧ s.laneB.free = true ∧ { s with laneB := s.laneA }.laneB.free = false) ∧
      ((3#8) ≠ 1#8 ∧ (3#8) ≠ 2#8) ∧
      ((withReader floor).stationRefusal ⟨true, true⟩ = none ∧ (withReader floor).entry? 5 = some reader ∧
        (withReader floor).line.listenOnly = false ∧ (withReader floor).line.u.length < 8) ∧
      (let s := { withReader floor with line := { floor.line with listenOnly := true } }
       s.serves = true ∧ s.stationRefusal ⟨true, true⟩ = none ∧ s.entry? 5 = some reader ∧ s.laneA.free = true ∧
         s.line.listenOnly = true) ∧
      { floor.memory with faulted := true }.faulted = true ∧ { floor with station := .gathering }.station ≠ .ready := by
  decide

theorem witness_LineWaitsExpire :
    (((awaitingBlock true).lane .a).blockWait = some 2000 ∧
        (awaitingBlock true).line.sending.map (fun y => isBlockNotice 4 y.notice) = some true) ∧
      ((awaitingBlock false).line.sending = none ∧ ((awaitingBlock false).lane .a).endPending = false ∧
        (awaitingBlock false).provisionalOf .a = none ∧
        ((awaitingBlock false).lane .a).txn.map (·.trap) = some .none) ∧
      (((awaitingTrap true).lane .a).trapWait = some 2000 ∧
        (awaitingTrap true).provisionalOf .a = some ⟨0, 1, 6, 7, 0, .provisional .a false, 4⟩ ∧
        (awaitingTrap true).line.sending.isSome = true ∧ (awaitingTrap false).line.sending = none) ∧
      (let s := awaitingTrap false
       (s.lane .a).txn.map (fun x => (x.operation, x.item, x.borrower)) = some (.ret, some 7, some 5) ∧
         (s.lane .a).txn.map (fun x => (x.found, x.due, x.reckonDay)) =
           some (some ⟨.roll, some ⟨5, 90, 1020, 0⟩⟩, (90, 1020), s.clock.day) ∧
         s.item? 7 = none ∧ s.commitRefusal = none ∧ s.overlay.used < 8192 ∧ s.memory.faulted = false ∧
         s.memory.busy = none ∧ s.memory.waiting = [] ∧
         { s with overlay := { s.overlay with entries := [⟨7, .today, some ⟨5, 90, 1020, 0⟩, 3, 4⟩] } }.item? 7 =
           some ⟨7, .today, some ⟨5, 90, 1020, 0⟩, 3, 4⟩) := by decide

/-! ## Wands and labels -/

/-- A front end of wand 0 in the floor. -/
def scanning (fe : FrontEnd) : State := { floor with wand0 := fe }

theorem witness_FrontEndCapturesElements :
    let quiet := FrontEnd.reset .space
    let capture := { FrontEnd.reset .bar with state := .capturing, buffer := List.replicate 96 10 }
    (floor.port.ready = true ∧ ((scanning quiet).wand .w0).level = .space ∧ min 3999 65535 < floor.settings.inForce.quietZone) ∧
      (quiet.state = .quiet ∧ quiet.met = false ∧ { quiet with met := true }.met = true) ∧
      ((FrontEnd.reset .bar).level = .bar ∧ (FrontEnd.reset .bar).state ≠ .capturing) ∧
      (capture.state = .capturing ∧ capture.level = .bar ∧ 96 ≤ capture.buffer.length) ∧
      ({ capture with buffer := List.replicate 95 10 }.buffer.length < 96 ∧
        { capture with level := .space, buffer := List.replicate 6 10 }.buffer.length < 7 ∧
        7 ≤ { capture with level := .space, buffer := List.replicate 7 10 }.buffer.length) ∧
      (quiet.reached = false ∧ ¬ min 4000 65535 < floor.settings.inForce.quietZone ∧
        { quiet with reached := true }.reached = true ∧ { quiet with state := .decoding }.state = .decoding) := by decide

/-- The counts of the END SESSION label 900010 with narrow 10 and wide 30. -/
def endSessionCounts : List Nat :=
  let digit := fun (d : Nat) =>
    let pairs := [(0, 1), (0, 2), (0, 3), (0, 4), (1, 2), (1, 3), (1, 4), (2, 3), (2, 4), (3, 4)]
    let (a, b) := (pairs[d]?).getD (0, 1)
    ((List.range 5).map fun j => if j = a ∨ j = b then 30 else 10) ++ [10]
  [30, 10, 10, 10] ++ ([9, 0, 0, 0, 1, 0].map digit).flatten ++ [30, 30, 10]

/-- A decoder at work on wand 0. -/
def decodingFloor (counts : List Nat) (n : Nat) : State :=
  { floor with
    wand0 := { FrontEnd.reset .space with state := .decoding, buffer := counts }, decoding := some .w0
    settings := { floor.settings with inForce := { floor.settings.inForce with agreement0 := n } } }

theorem witness_DecoderJudgesLabels :
    (decodingFloor endSessionCounts 1).decoding = some .w0 ∧
      decodeBuffer 14 endSessionCounts = .ok [9, 0, 0, 0, 1, 0] ∧
      decodeBuffer 14 endSessionCounts.reverse = .ok [9, 0, 0, 0, 1, 0] ∧ decodeBuffer 14 [10] = .error .length ∧
      (decodingFloor endSessionCounts 2).agreementOf .w0 = 2 ∧ (decodingFloor endSessionCounts 1).agreementOf .w0 ≠ 2 ∧
      ((decodingFloor endSessionCounts 2).wand .w0).agreement ≠ some [9, 0, 0, 0, 1, 0] ∧
      (onA (decodingFloor endSessionCounts 1) fun c => { c with state := .closed }).laneFor .w0 = .a ∧
      ({ FrontEnd.reset .space with agreementTimer := some 3000 } : FrontEnd).agreementTimer = some 3000 := by decide

theorem witness_LabelsDecodeAndCheck :
    ((∀ x ∈ [9, 0, 0, 2, 0, 1], x ≤ 9) ∧ 5 < [9, 0, 0, 2, 0, 1].length ∧ [9, 0, 0, 2, 0, 1][5]? ≠ some 2 ∧
        checkHolds [9, 0, 0, 2, 0, 1] = true) ∧
      (10 < 30 ∧ 24 * 10 ≤ 8 * 30 ∧ 19 < (30 + 10 + 1) / 2) ∧ (8 * 29 < 24 * 10 ∧ (30 + 10 + 1) / 2 ≤ 20) ∧
      (let ds := [9, 0, 0, 0, 1, 0]
       let wides := fun (xs : List Nat) => xs.map fun c => decide ((30 + 10 + 1) / 2 ≤ c)
       ds.length = 6 ∧ (∀ d ∈ ds, d ≤ 9) ∧ [20, 19, 19].length = 3 ∧ wides [20, 19, 19] = [true, false, false] ∧
         wides [20, 20, 19] = [true, true, false] ∧ wides [20, 19, 20] ≠ [true, true, false] ∧
         wides [20, 20, 20] ≠ [true, false, false] ∧ wides [20, 20, 20] ≠ [false, true, true]) := by decide

/-- The label 900010 reads the same in both directions, and its middle character with a wide gap does not. -/
theorem test_label_decodes_in_both_directions :
    decodeBuffer 14 endSessionCounts = .ok [9, 0, 0, 0, 1, 0] ∧
      decodeBuffer 14 endSessionCounts.reverse = .ok [9, 0, 0, 0, 1, 0] ∧
      decodeBuffer 14 (endSessionCounts.set 15 30) = .error .gap := by decide

/-! ## The memory port -/

/-- The bytes of a roll entry of borrower 5, category 1, card to day 200, and of a loan of item 7 to that borrower. -/
def rollEntry : List Byte := withCheck (ListId.roll.stored (bytesOf 5 5 ++ [1] ++ bytesOf 2 200 ++ bytesOf 8 0))
def loanEntry : List Byte := withCheck (bytesOf 5 7 ++ bytesOf 5 5 ++ bytesOf 2 90 ++ bytesOf 2 1020 ++ [0])

/-- A request in progress over lists of one roll entry and one loan. -/
def loaded (op : MemOp) : State :=
  { asking op with
    memory := { (asking op).memory with copies := { Copies.zero with edition := 1, rollCount := 1, loansCount := 1 } }
    attached := { floor.attached with
      cells := Memory.writeBytes (Memory.writeBytes [] Config.rollBase rollEntry) Config.loansBase loanEntry } }

/-- The same with the lists' entries damaged. -/
def damaged (op : MemOp) : State := { loaded op with attached := floor.attached }

/-- Lane A in a borrower check of a borrower. -/
def checking (s : State) (b : Nat) : State :=
  onA s fun c => { c with state := .checking, txn := some { Txn.start .borrowerCheck .borrower .keyed with borrower := some b } }

/-- A parked tally of borrower 5 by station 3. -/
def parked : Parked := ⟨5, true, 3, ⟨1, 0, 9⟩, none, none⟩

def parking (s : State) (b : Nat) : State :=
  { s with standing := { s.standing with parked := [{ parked with borrower := b }], lookup := some ⟨b, false⟩ } }

theorem witness_RollLookupsAreAnswered :
    (let s := checking (loaded (.rollLookup (.lane .a) 5)) 5
     s.memory.busy = some ⟨.rollLookup (.lane .a) 5, false⟩ ∧ s.memory.waiting = [] ∧
       (s.lane .a).txn.map (·.operation) = some .borrowerCheck ∧ (s.lane .a).txn.map (·.borrower) = some (some 5) ∧
       (s.lane .a).txn.map (·.trap) = some .none ∧ (s.lane .a).session = none ∧ (s.lane .a).endPending = false ∧
       s.entry? 5 = none ∧ s.provisionalOf .a = none ∧ s.standing.entries.length < 4096 ∧
       s.standing.parked.any (·.borrower == 5) = false ∧
       s.lookupRoll 5 = .found ⟨1, 200, 0, 0, false, false⟩) ∧
      (checking (loaded (.rollLookup (.lane .a) 6)) 6).lookupRoll 6 = .missing ∧
      (checking (damaged (.rollLookup (.lane .a) 5)) 5).lookupRoll 5 = .fault ∧
      (let s := parking (loaded (.rollLookup .standing 5)) 5
       s.memory.busy = some ⟨.rollLookup .standing 5, false⟩ ∧ s.standing.lookup = some ⟨5, false⟩ ∧
         s.standing.parked = [parked] ∧ s.entry? 5 = none ∧ s.lookupRoll 5 = .found ⟨1, 200, 0, 0, false, false⟩) ∧
      (parking (loaded (.rollLookup .standing 6)) 6).lookupRoll 6 = .missing ∧
      (let x := { Txn.start .inquire .lookup .keyed with item := some 7, deferred := true }
       let s := working (loaded (.rollLookup (.lane .a) 6)) x
       let r := { s with memory := { s.memory with busy := some ⟨.rollLookup (.lane .a) 6, true⟩ } }
       r.memory.busy = some ⟨.rollLookup (.lane .a) 6, true⟩ ∧ r.memory.waiting = [] ∧ (r.lane .a).txn = some x ∧
         x.item = some 7 ∧ x.stage = .lookup ∧ { x with deferred := false }.deferred = false ∧
         r.lookupRoll 6 = .missing ∧ r.memory.load.loading = false) := by decide

/-- Lane A at the LOOKUP of item `n`. -/
def lookingUp (s : State) (op : Operation) (n : Nat) : State := working s { work op .lookup with item := some n }

theorem witness_LoansLookupJudgesTheItem :
    (let s := lookingUp (loaded (.loansLookup (.lane .a) 7)) .inquire 7
     s.memory.busy = some ⟨.loansLookup (.lane .a) 7, false⟩ ∧ s.memory.waiting = [] ∧
       (s.lane .a).txn = some (work .inquire .lookup) ∧ (s.lane .a).endPending = false ∧ s.provisionalOf .a = none ∧
       s.awaitingOwn (work .inquire .lookup) = false ∧ s.lookupLoan 7 = .found ⟨.roll, some ⟨5, 90, 1020, 0⟩⟩) ∧
      (lookingUp (loaded (.loansLookup (.lane .a) 8)) .ret 8).lookupLoan 8 = .missing ∧
      (lookingUp (loaded (.loansLookup (.lane .a) 7)) .lend 7).lookupLoan 7 = .found ⟨.roll, some ⟨5, 90, 1020, 0⟩⟩ ∧
      (lookingUp (damaged (.loansLookup (.lane .a) 7)) .ret 7).lookupLoan 7 = .fault := by decide

/-- A lend of item 8, which no table holds, to borrower 5. -/
def lending : State := withRules (withReader (lookingUp (loaded (.loansLookup (.lane .a) 8)) .lend 8))

/-- The same with the borrower's entry changed. -/
def lendingTo (f : Entry → Entry) : State :=
  { lending with standing := { lending.standing with entries := [f reader] } }

/-- A state whose overlay holds the given entries. -/
def shelved (s : State) (es : List ItemEntry) : State := { s with overlay := { s.overlay with entries := es } }

/-- A state whose journal holds every record it can. -/
def full (s : State) : State :=
  { s with memory := { s.memory with copies := { s.memory.copies with head := 16384 } } }

/-- A state with its last stamp taken. -/
def stampless (s : State) : State := { s with line := { s.line with stamps := 65535 } }

/-- The loan of item 7 or 8 to a borrower, `n` times renewed. -/
def loanTo (b n : Nat) : LoanPart := ⟨b, 90, 1020, n⟩

/-- The entry of item 8, OUT to a borrower. -/
def outTo (b : Nat) : ItemEntry := ⟨8, .today, some (loanTo b 0), 3, 4⟩

theorem witness_LendIsCheckedReckonedAndCommitted :
    (lending.memory.busy = some ⟨.loansLookup (.lane .a) 8, false⟩ ∧ lending.memory.waiting = [] ∧
        (lending.lane .a).txn = some { work .lend .lookup with item := some 8 } ∧ lending.lookupLoan 8 = .missing ∧
        lending.item? 8 = none ∧ lending.entry? 5 = some reader ∧ reader.reserved .a = false ∧
        lending.overlay.room .a = false ∧ (lending.lane .a).endPending = false ∧ lending.provisionalOf .a = none ∧
        lending.awaitingOwn { work .lend .lookup with item := some 8 } = false) ∧
      (itemClass 8 = 0 ∧ (rules.classRule 0).unit = .days ∧ (RuleSet.default.classRule 0).unit = .none ∧
        (rules.categoryRule 1).mask.getLsbD 0 = true ∧ (rules.categoryRule 2).mask.getLsbD 0 = false) ∧
      ((newEntry 5 ⟨1, 200, 0, 0, true, false⟩ .default 1).roll.lost = true ∧ { reader with fines := true }.fines = true ∧
        reader.lost.state = .roll ∧ reader.fines = false) ∧
      (99 < lending.clock.day ∧ lending.clock.day ≤ reader.roll.expiry ∧ lending.limitInForce 1 = 5 ∧
        reader.count + reader.reservations + 1 ≤ 5 ∧
        ((lendingTo fun e => { e with roll := { e.roll with loans := 4 }, reservedB := true }).entry? 5).map
          (fun e => (e.count, e.reservations)) = some (4, 1)) ∧
      (lending.rules.due 0 100 lending.clock.day lending.clock.minute = .error .cardExpiring ∧
        lending.rules.due 0 200 lending.clock.day lending.clock.minute = .ok (114, 1020)) ∧
      ((shelved lending [outTo 6]).item? 8 = some (outTo 6) ∧ (outTo 5).loan = some (loanTo 5 0) ∧
        (shelved lending [⟨8, .roll, none, 3, 4⟩]).item? 8 = some ⟨8, .roll, none, 3, 4⟩) ∧
      (16384 ≤ (full lending).memory.copies.head - (full lending).memory.copies.tail + (full lending).memory.requested ∧
        65535 ≤ (stampless lending).line.stamps ∧ lending.line.stamps < 65535 ∧ lending.memory.faulted = false) := by
  decide

/-- A lend in COMMIT, reckoned on the given day, that waited for the lane's discarded lookup of item 7. -/
def deferring (day : Nat) (f : Entry → Entry) : State :=
  let s := working (loaded (.loansLookup (.lane .a) 7)) { work .lend .commit with
    item := some 8, deferred := true, found := some ⟨.today, none⟩, due := (113, 1000), reckonDay := day }
  { withRules s with
    memory := { s.memory with busy := some ⟨.loansLookup (.lane .a) 7, true⟩ }
    standing := { s.standing with entries := [f { reader with reservedA := true }] } }

theorem witness_LendIsCheckedReckonedAndCommitted_deferred :
    (let s := deferring 100 id
     s.memory.busy = some ⟨.loansLookup (.lane .a) 7, true⟩ ∧ s.memory.waiting = [] ∧
       (s.lane .a).txn.map (fun x => (x.operation, x.stage, x.deferred)) = some (.lend, .commit, true) ∧
       (s.lane .a).txn.map (fun x => (x.found, x.reckonDay, x.due)) = some (some ⟨.today, none⟩, s.clock.day, (113, 1000)) ∧
       s.entry? 5 = some { reader with reservedA := true } ∧ s.item? 8 = none ∧ s.overlay.room .a = false) ∧
      99 ≠ (deferring 99 id).clock.day ∧ rules.due 0 100 100 600 = .error .cardExpiring ∧
      rules.due 0 200 100 600 = .ok (114, 1020) ∧ (shelved (deferring 100 id) [outTo 6]).item? 8 = some (outTo 6) ∧
      ((deferring 100 fun e => { e with fines := true }).entry? 5).map (·.fines) = some true ∧
      ((deferring 100 fun e => { e with roll := { e.roll with loans := 5 } }).entry? 5).map
        (fun e => (e.count, e.reservations)) = some (5, 1) := by decide

/-- As many entries as the overlay holds, or fewer, that are not to be reclaimed. -/
def kept (n : Nat) : List ItemEntry := List.replicate n ⟨100, .roll, none, 3, 4⟩

theorem kept_all (n : Nat) (x : ItemEntry) (h : x ∈ kept n) : x = ⟨100, .roll, none, 3, 4⟩ :=
  List.eq_of_mem_replicate h

theorem shelved_used (s : State) (es : List ItemEntry) (n : Nat) (h : n ≤ es.length) : n ≤ (shelved s es).overlay.used :=
  Nat.le_trans h (Nat.le_trans (Nat.le_add_right _ _) (Nat.le_add_right _ _))

/-- A full overlay of entries to keep has no room for another item. -/
theorem kept_full (s : State) (m n : Nat) (hm : 8192 ≤ m) (hn : n ≠ 100) : (shelved s (kept m)).noRoomFor n := by
  refine ⟨List.find?_eq_none.2 fun x hx => ?_, shelved_used _ _ _ ?_, fun x hx => Or.inl ?_⟩
  · rw [kept_all _ _ hx]
    exact fun h => hn (eq_of_beq h).symm
  · rw [kept, List.length_replicate]; exact hm
  · rw [kept_all _ _ hx]

/-- With one entry IN of basis TODAY among them there is room, and the others stay. -/
theorem kept_reclaims (s : State) (m k n : Nat) (hm : 8192 ≤ m + 1 + k) (hn : n ≠ 100) (hs : n ≠ 200) :
    (shelved s (kept m ++ ⟨200, .today, none, 3, 4⟩ :: kept k)).roomLeaves n (kept m ++ kept k) := by
  refine Or.inr ⟨List.find?_eq_none.2 fun x hx => ?_, shelved_used _ _ _ ?_, kept m, _, kept k, rfl, ⟨rfl, rfl⟩,
    fun x hx => Or.inl ?_, rfl⟩
  · rcases List.mem_append.1 hx with hx | hx
    · rw [kept_all _ _ hx]; exact fun h => hn (eq_of_beq h).symm
    · rcases List.mem_cons.1 hx with rfl | hx
      · exact fun h => hs (eq_of_beq h).symm
      · rw [kept_all _ _ hx]; exact fun h => hn (eq_of_beq h).symm
  · rw [List.length_append, List.length_cons, kept, kept, List.length_replicate, List.length_replicate]
    omega
  · rw [kept_all _ _ hx]

theorem witness_LendIsCheckedReckonedAndCommitted_room :
    (shelved lending (kept 8192)).noRoomFor 8 ∧
      (shelved lending (kept 100 ++ ⟨200, .today, none, 3, 4⟩ :: kept 8091)).roomLeaves 8 (kept 100 ++ kept 8091) ∧
      lending.roomLeaves 8 lending.overlay.entries :=
  ⟨kept_full _ _ _ (by decide) (by decide), kept_reclaims _ _ _ _ (by decide) (by decide) (by decide),
    Or.inl ⟨Or.inr (by decide), rfl⟩⟩

/-- A return of item 7 whose hold lookup completes over a hold list of one hold, of title 0, rank 1, by borrower 6. -/
def returning (holds : Nat) : State :=
  let s := working (withReader (asking (.holdLookup (.lane .a) 0)))
    { work .ret .hold with found := some ⟨.roll, some ⟨5, 90, 1020, 0⟩⟩, due := (90, 1020), fine := 70 }
  let hold := withCheck (ListId.holds.stored (bytesOf 3 0 ++ [1] ++ bytesOf 5 6))
  { s with
    memory := { s.memory with copies := { Copies.zero with edition := 1, holdCount := holds } }
    attached := { s.attached with cells := Memory.writeBytes [] Config.holdBase hold } }

/-- The transaction of lane A with another finding of LOOKUP. -/
def finding (s : State) (f : ItemAnswer) : State := s.mapTxn .a fun x => { x with found := some f }

theorem witness_HoldLookupTrapsOrCommitsAReturn :
    let s := returning 1
    let t := { returning 1 with attached := floor.attached }
    (s.memory.busy = some ⟨.holdLookup (.lane .a) (itemTitle 7), false⟩ ∧ s.memory.waiting = [] ∧
        (s.lane .a).txn.map (·.stage) = some .hold ∧ (s.lane .a).txn.map (·.due) = some (90, 1020) ∧
        (s.lane .a).txn.map (·.reckonDay) = some s.clock.day ∧ s.item? 7 = none ∧ s.entry? 5 = some reader ∧
        reader.reserved .a = false ∧ s.overlay.room .a = false) ∧
      (∀ b ∈ [Basis.roll, .today], ((finding s ⟨b, some (loanTo 5 0)⟩).lane .a).txn.map (·.found) =
        some (some ⟨b, some (loanTo 5 0)⟩)) ∧
      (∀ b ∈ [5, 6], (shelved s [⟨7, .today, some (loanTo b 0), 3, 4⟩]).item? 7 = some ⟨7, .today, some (loanTo b 0), 3, 4⟩) ∧
      (s.commitRefusal = none ∧ s.overlay.used < 8192 ∧ s.memory.faulted = false ∧ s.line.stamps < 65535 ∧
        (full s).commitRefusal = some .journalFull ∧ (stampless s).commitRefusal = some .stampsExhausted ∧
        (s.lane .a).endPending = false ∧ s.provisionalOf .a = none) ∧
      (returning 0).lookupHolds (itemTitle 7) = .found [] ∧ t.lookupHolds (itemTitle 7) = .fault ∧
      (s.lookupHolds (itemTitle 7) = .found [⟨1, 6⟩] ∧ s.firstUntrapped (itemTitle 7) [⟨1, 6⟩] = some ⟨1, 6⟩ ∧
        s.trap? (itemTitle 7) 1 = none ∧ s.traps.length < 512 ∧ s.line.u.length < 8 ∧ s.line.stamps < 65535 ∧
        (s.lane .a).trapWait = none) := by decide

theorem witness_HoldLookupTrapsOrCommitsAReturn_room :
    (shelved (returning 0) (kept 8192)).noRoomFor 7 ∧ (returning 0).roomLeaves 7 [] :=
  ⟨kept_full _ _ _ (by decide) (by decide), Or.inl ⟨Or.inr (by decide), rfl⟩⟩

/-- A renewal of item `n` at its LOOKUP in the session of borrower `b`. -/
def renewing (n b : Nat) : State :=
  let s := lookingUp (loaded (.loansLookup (.lane .a) n)) .renew n
  { (withRules s).mapTxn .a fun x => { x with borrower := some b } with
    standing := { s.standing with entries := [{ reader with borrower := b }] } }

/-- A renewal of item 7 by borrower 5 at its hold lookup, over a hold list of `holds` entries. -/
def renewHolds (holds : Nat) : State :=
  withRules (working (returning holds) { work .renew .hold with found := some ⟨.roll, some (loanTo 5 0)⟩ })

theorem witness_RenewalsAreCheckedAndCommitted :
    (let s := renewing 7 5
     s.memory.busy = some ⟨.loansLookup (.lane .a) 7, false⟩ ∧ s.memory.waiting = [] ∧
       (s.lane .a).txn = some (work .renew .lookup) ∧ s.entry? 5 = some reader ∧ s.overlay.room .a = false ∧
       reader.reserved .a = false ∧ s.memory.load.loading = false ∧ (s.lane .a).endPending = false ∧
       s.provisionalOf .a = none ∧ s.awaitingOwn (work .renew .lookup) = false ∧
       s.lookupLoan 7 = .found ⟨.roll, some (loanTo 5 0)⟩ ∧ s.clock.day ≤ reader.roll.expiry ∧
       0 < (rules.classRule (itemClass 7)).renewLimit ∧ (rules.classRule (itemClass 7)).unit ≠ .none) ∧
      (renewing 8 5).lookupLoan 8 = .missing ∧ (renewing 7 6).lookupLoan 7 = .found ⟨.roll, some (loanTo 5 0)⟩ ∧
      (RuleSet.default.classRule 0).unit = .none ∧ 99 < floor.clock.day ∧
      ({ rules with classes := rules.classes.set 0 ⟨.days, 14, 10, 500, 1, 0⟩ }.classRule 0).renewLimit ≤ 0 ∧
      (let s := renewHolds 0
       s.memory.busy = some ⟨.holdLookup (.lane .a) (itemTitle 7), false⟩ ∧
         (s.lane .a).txn.map (fun x => (x.stage, x.found)) = some (.hold, some ⟨.roll, some (loanTo 5 0)⟩) ∧
         ((finding s ⟨.today, some (loanTo 5 0)⟩).lane .a).txn.map (·.found) = some (some ⟨.today, some (loanTo 5 0)⟩) ∧
         s.lookupHolds (itemTitle 7) = .found [] ∧ s.item? 7 = none ∧ s.memory.faulted = false ∧
         s.rules.due (itemClass 7) 200 s.clock.day s.clock.minute = .ok (114, 1020) ∧
         s.rules.due (itemClass 7) 100 s.clock.day s.clock.minute = .error .cardExpiring ∧
         s.roomLeaves 7 [] ∧
         16384 ≤ (full s).memory.copies.head - (full s).memory.copies.tail + (full s).memory.requested ∧
         65535 ≤ (stampless s).line.stamps) ∧
      ({ renewHolds 1 with attached := floor.attached }.lookupHolds (itemTitle 7) = .fault ∧
        (renewHolds 1).lookupHolds (itemTitle 7) = .found [⟨1, 6⟩] ∧ ((renewHolds 1).trap? (itemTitle 7) 1) = none) ∧
      (shelved (renewHolds 0) [⟨7, .today, none, 3, 4⟩]).item? 7 = some ⟨7, .today, none, 3, 4⟩ ∧
      (shelved (renewHolds 0) [⟨7, .today, some (loanTo 6 0), 3, 4⟩]).item? 7 = some ⟨7, .today, some (loanTo 6 0), 3, 4⟩ ∧
      (rules.classRule 0).renewLimit ≤ (loanTo 5 2).renewCount := by
  refine ⟨by decide, by decide, by decide, by decide, by decide, by decide,
    ⟨by decide, by decide, by decide, by decide, by decide, by decide, by decide, by decide,
      Or.inl ⟨Or.inr (by decide), rfl⟩, by decide, by decide⟩, by decide, by decide, by decide, by decide⟩

theorem witness_RenewalsAreCheckedAndCommitted_room : (shelved (renewHolds 0) (kept 8192)).noRoomFor 7 :=
  kept_full _ _ _ (by decide) (by decide)

/-- An append in progress for lane A, with its transaction committed. -/
def appending (r : JournalRecord) (op : Operation) : State :=
  { withReader (working (asking (.append r)) { work op .commit with
      committed := true, stamp := 9, found := some ⟨.roll, none⟩, due := (114, 1020), amount := 250, fine := 70 }) with
    overlay := { floor.overlay with roomA := true } }

/-- An append in progress for lane A of a return or a renewal. -/
def appendingLoan (op : Operation) : State :=
  let r := { payment1 with kind := if op = .ret then .ret else .renew, item := 7 }
  (appending r op).mapTxn .a fun x => { x with found := some ⟨.roll, some ⟨5, 90, 1020, 0⟩⟩ }

/-- An append in progress for lane A of a block, its own action awaiting or made in listen-only. -/
def appendingBlock (waits : Bool) : State :=
  let s := appending { payment1 with kind := .block } .block
  let e := { reader with lost := ⟨.roll, if waits then [⟨.raise, 9, false⟩] else []⟩ }
  { s with standing := { s.standing with entries := [e] } }

/-- A session slip of lane A with `n` ITEM DUE lines. -/
def itemSlip (n : Nat) : Slip :=
  { state := .opened, kind := some .loan, lane := some .a, lines := List.replicate n (.itemDue 7 ⟨2000, 1, 3⟩ ⟨17, 0⟩)
    hold := none, interrupted := false }

/-- A loan's append in progress in a session that refers to a given slip, record 0 being a full slip where it does, with
the first `free` records FREE besides. -/
def withSlip (slip : Option Nat) (free : Nat) : State :=
  let s := appending { payment1 with kind := .loan, item := 7 } .lend
  let records := (List.range 8).map fun k =>
    if slip = some k then itemSlip 12 else if k < free then Slip.free else { Slip.free with state := .held }
  { onA s fun c => { c with session := some ⟨5, slip⟩, mode := .lend } with slips := { s.slips with slips := records } }

/-- A completing return whose trap of rank 1 by borrower 6 stands, its renewed notice queued or not. -/
def trapping (queued : Bool) : State :=
  let s := (appendingLoan .ret).mapTxn .a fun x => { x with trap := .trapped, hold := some ⟨1, 6⟩ }
  { s with
    traps := [⟨0, 1, 6, 7, 0, .confirmed, 4⟩]
    line := { s.line with u := if queued then [⟨4, 255, .trap ⟨0, 1, 6, 7⟩ 0 .trapped⟩] else [] } }

theorem witness_AppendsCompletePaymentsAndLoans :
    (let s := appending payment1 .payment
     s.memory.busy = some ⟨.append payment1, false⟩ ∧ s.memory.waiting = [] ∧ Memory.wf s.attached.cells = true ∧
       payment1.stamp = 9 ∧ (s.lane .a).txn.map (·.stamp) = some 9 ∧
       payment1.kind = .payment ∧ (s.lane payment1.lane).txn.map (·.operation) = some .payment ∧
       s.entry? 5 = some reader ∧ (s.lane .a).endPending = false ∧ s.line.s.length < 32) ∧
      (let r := { payment1 with kind := .loan, item := 7 }
       let s := appending r .lend
       s.memory.busy = some ⟨.append r, false⟩ ∧ r.kind = .loan ∧
         (s.lane r.lane).txn.map (·.found) = some (some ⟨.roll, none⟩) ∧ (s.lane r.lane).txn.map (·.item) = some (some 7) ∧
         ((finding s ⟨.today, none⟩).lane .a).txn.map (·.found) = some (some ⟨.today, none⟩) ∧
         s.entry? 5 = some reader ∧ s.overlay.used ≤ 8192 ∧ s.overlay.roomA = true) ∧
      (((withSlip none 8).lane .a).session = some ⟨5, none⟩ ∧ (withSlip none 8).freeSlip = some 0 ∧
        (withSlip none 0).freeSlip = none) ∧
      (((withSlip (some 0) 8).lane .a).session = some ⟨5, some 0⟩ ∧
        (withSlip (some 0) 8).slips.slips[0]? = some (itemSlip 12) ∧ (itemSlip 12).itemCount = 12 ∧
        (itemSlip 11).itemCount < 12 ∧ (itemSlip 12).state = .opened ∧ (itemSlip 12).hold = none ∧
        (withSlip (some 0) 8).slips.printer ≠ .idleWarm ∧ (withSlip (some 0) 8).freeSlip = some 1 ∧
        (withSlip (some 0) 0).freeSlip = none) ∧
      ((floor.pad .p0).present = false ∧
        ((floor.setPad .p0 ⟨true, none, []⟩).pad (padOf .keyed .a)).pulsing = none ∧
        (let x : Pad := ⟨true, some .desensitise, List.replicate 2 .desensitise⟩
         x.waiting.length < 3 ∧ 3 ≤ { x with waiting := List.replicate 3 .desensitise }.waiting.length)) ∧
      (let s := appendingBlock true
       s.memory.waiting = [] ∧ (s.lane .a).txn.map (fun x => (x.operation, x.blockReason, x.stamp)) = some (.block, .lost, 9) ∧
         (s.entry? 5).map (·.lost.awaiting) = some [⟨.raise, 9, false⟩] ∧ (s.lane .a).endPending = false) ∧
      (((appendingBlock false).entry? 5).map (·.lost.awaiting) = some [] ∧ (appendingBlock false).line.u.length < 8) := by
  decide

theorem witness_AppendsCompleteReturnsAndRenewals :
    (let s := appendingLoan .ret
     s.memory.busy.isSome = true ∧ s.memory.waiting = [] ∧
       (s.lane .a).txn.map (fun x => (x.operation, x.borrower, x.item)) = some (.ret, some 5, some 7) ∧
       (s.lane .a).txn.map (fun x => (x.found, x.stamp, x.trap, x.fine)) =
         some (some ⟨.roll, some ⟨5, 90, 1020, 0⟩⟩, 9, .none, 70) ∧
       ((finding s ⟨.today, some ⟨5, 90, 1020, 0⟩⟩).lane .a).txn.map (·.found) =
         some (some ⟨.today, some ⟨5, 90, 1020, 0⟩⟩) ∧
       s.entry? 5 = some reader ∧ (s.lane .a).endPending = false ∧ s.line.s.length < 32 ∧ s.overlay.used ≤ 8192 ∧
       s.overlay.roomA = true ∧ s.freeSlip = some 0) ∧
      ((appendingLoan .renew).lane .a).txn.map (·.operation) = some .renew ∧
      (let s := (appendingLoan .ret).setPad .p0 ⟨true, none, []⟩
       (s.pad (padOf .keyed .a)).present = true ∧ (s.pad (padOf .keyed .a)).pulsing = none) ∧
      (let s := trapping true
       (s.lane .a).txn.map (fun x => (x.trap, x.hold)) = some (.trapped, some ⟨1, 6⟩) ∧
         s.trap? (itemTitle 7) 1 = some ⟨0, 1, 6, 7, 0, .confirmed, 4⟩ ∧ s.number = 0 ∧
         s.line.u = [⟨4, 255, .trap ⟨0, 1, 6, 7⟩ 0 .trapped⟩] ∧ itemTitle 7 = 0 ∧ s.freeSlip = some 0 ∧
         s.slips.printer ≠ .idleWarm ∧ (trapping false).line.u = []) := by decide

theorem witness_FailingAppendsFaultTheStation :
    let s := appending payment1 .payment
    s.memory.busy = some ⟨.append payment1, false⟩ ∧ (s.lane payment1.lane).txn.isSome = true ∧
      Memory.wf s.attached.cells = true ∧ List.replicate 32 0#8 ≠ payment1.bytes := by decide

theorem witness_RollBeginStartsALoad :
    (let s := { floor with station := .replaying }
     s.serves = true ∧ s.station = .replaying) ∧
      (let s := { floor with memory := { floor.memory with faulted := true } }
       s.station ≠ .starting ∧ s.station ≠ .replaying ∧ s.memory.faulted = true) ∧
      (let s := working floor (work .lend .lookup)
       s.laneFree .a = false) ∧
      (let s := { floor with memory := { floor.memory with copies := { floor.memory.copies with head := 1 } } }
       s.laneFree .a = true ∧ s.laneFree .b = true ∧ s.loadingBusy = false ∧
         s.memory.copies.head ≠ s.memory.copies.tail) ∧
      (let s := { floor with line := { floor.line with s := [⟨2, 255, .payment ⟨5, 0, 0⟩⟩] } }
       s.serves = true ∧ s.memory.busy = none ∧ s.memory.waiting = [] ∧
         s.memory.copies.head = s.memory.copies.tail ∧ s.memory.requested = 0 ∧ s.line.sending = none ∧
         ∀ n ∈ s.line.u, kindCode n.body ≠ 2) ∧
      (asking .rollBeginWrite).memory.busy = some ⟨.rollBeginWrite, false⟩ ∧
      (let s := unwritten { asking .takeSnapshot with memory := { (asking .takeSnapshot).memory with
        waiting := [⟨.rollBeginWrite, false⟩] } }
       s.memory.beginUnwritten = true ∧ s.memory.busy = some ⟨.takeSnapshot, false⟩ ∧
         ⟨.rollBeginWrite, false⟩ ∈ s.memory.waiting) := by decide

/-- The part is LOADING, with the hold list's next index at a given place. -/
def loading (next : Nat) : State :=
  { floor with memory := { floor.memory with load := { LoadCtl.reset with loading := true, holds := ⟨next, none, none⟩ } } }

/-- Four hold entries, of titles 1 to 4. -/
def holdEntries : List (List Byte) := [1, 2, 3, 4].map fun n => bytesOf 3 n ++ [1] ++ bytesOf 5 6 ++ bytesOf 6 0

theorem witness_RollChunkWritesEntries :
    (floor.serves = true ∧ floor.memory.load.loading = false ∧ holdEntries.length = 4) ∧
      (let s := { loading 0 with memory := { (loading 0).memory with busy := some ⟨.chunkWrite .holds 0 [], false⟩ } }
       s.memory.load.loading = true ∧ s.loadingBusy = true) ∧
      (let s := loading 65532
       s.serves = true ∧ s.memory.load.loading = true ∧ s.loadingBusy = false ∧ s.memory.busy = none ∧
         (s.memory.load.list .holds).next + (4#8).toNat ≤ ListId.holds.capacity ∧
         (holdEntries.take 4).all ListId.holds.inRange = true) ∧
      ListId.holds.capacity < ((loading 65533).memory.load.list .holds).next + (4#8).toNat ∧
      (List.replicate 4 (bytesOf 15 0)).all ListId.holds.inRange = false ∧
      (let s := asking (.chunkWrite .holds 65532 holdEntries)
       s.memory.busy = some ⟨.chunkWrite .holds 65532 holdEntries, false⟩ ∧ s.memory.waiting = [] ∧
         Memory.wf s.attached.cells = true ∧ 65532 + holdEntries.length ≤ ListId.holds.capacity) := by decide

theorem witness_RollEndBringsTheNewEdition :
    (let s := loading 2
     s.serves = true ∧ s.memory.load.loading = true ∧ s.memory.busy = none ∧ s.memory.waiting = [] ∧
       ((0#32).toNat = s.memory.load.roll.next ∧ (0#32).toNat = s.memory.load.loans.next ∧
         (2#32).toNat = s.memory.load.holds.next) ∧
       s.memory.load.roll.order = none ∧ s.memory.load.loans.order = none ∧ s.memory.load.holds.order = none ∧
       s.loadingBusy = false ∧ (1#32).toNat ≠ s.memory.load.roll.next ∧ (1#32).toNat ≠ s.memory.load.loans.next ∧
       (1#32).toNat ≠ s.memory.load.holds.next ∧ (1#8) ≠ 0#8) ∧
      (floor.serves = true ∧ floor.memory.load.loading = false) ∧
      (let s := { loading 2 with memory := { (loading 2).memory with busy := some ⟨.chunkWrite .holds 0 [], false⟩ } }
       s.memory.load.loading = true ∧ s.loadingBusy = true) ∧
      (let c := { (loading 2).memory.load with holds := ⟨2, none, some 1⟩ }
       c.roll.order = none ∧ c.loans.order = none ∧ c.holds.order = some 1) ∧
      (let s := asking (.editionWrite 2 1 1 1)
       s.memory.busy = some ⟨.editionWrite 2 1 1 1, false⟩ ∧ s.memory.waiting = []) := by decide

/-- A query at record 1 of a journal of two records, of which record 1 is a payment of borrower 5. -/
def querying (borrower : Nat) : State :=
  let s := replaying .queryRead
  { s with
    station := .ready
    memory := { s.memory with query :=
      { state := .scanning, field := .borrower, atOrAbove := false, value := borrower, step := 1, position := 1
        finish := if borrower = 5 then 2 else 3, found := 0, buffer := none } } }

theorem witness_JournalQueryScansTheJournal :
    (let s := { floor with memory := { floor.memory with copies := { floor.memory.copies with head := 2 } } }
     s.serves = true ∧ s.memory.faulted = false ∧ s.station ≠ .starting ∧ s.station ≠ .replaying ∧ (255#8) ≠ 0#8 ∧
       s.memory.busy = none ∧ s.memory.waiting = [] ∧ s.memory.copies.tail < s.memory.copies.head) ∧
      1 < (2#8).toNat ∧
      (let s := querying 5
       let q := s.memory.query
       let bs := s.slotBytes q.position
       s.memory.busy = some ⟨.queryRead, false⟩ ∧ q.state = .scanning ∧ q.buffer = none ∧
         s.memory.copies.tail ≤ q.position ∧ q.position < q.finish ∧ slotHolds bs q.position = true ∧
         q.matches bs q.position = true ∧ q.found % q.step = 0) ∧
      (let s := querying 6
       let q := s.memory.query
       q.matches (s.slotBytes q.position) q.position = false ∧ q.position + 1 < q.finish) ∧
      (floor.serves = true ∧ floor.memory.query.state = .none ∧
        { Query.reset with state := .ended, buffer := some payment1.bytes }.state ≠ .none) ∧
      (let s := querying 5
       let r := { s with memory := { s.memory with busy := some ⟨.queryRead, true⟩ } }
       r.memory.busy = some ⟨.queryRead, true⟩ ∧ r.memory.waiting = [] ∧ r.serves = true ∧
         r.memory.query.state = .scanning ∧ r.memory.query.buffer = none ∧
         r.memory.copies.tail ≤ r.memory.query.position ∧ r.memory.query.position < r.memory.query.finish) := by decide

/-- A sender to gateway 3. -/
def sendingTo (s : State) (f : Sender → Sender) : State :=
  { s with upload := { s.upload with sender := f { s.upload.sender with gateway := some 3 } } }

theorem witness_UploadRequestsDriveTheSender :
    (let s := sendingTo (asking .takeSnapshot) fun x => { x with state := .settling }
     s.upload.sender.gateway = some 3 ∧ 3 ≠ s.number ∧ s.memory.waiting = [] ∧
       s.memory.busy = some ⟨.takeSnapshot, false⟩ ∧ s.line.s.length < 32) ∧
      (let s := sendingTo (replaying (.uploadRead 1 1)) id
       s.memory.busy = some ⟨.uploadRead 1 1, false⟩ ∧ s.memory.copies.tail ≤ 1 ∧ 1 + 1 ≤ s.memory.copies.head ∧
         (∀ i < 1, slotHolds (s.slotBytes (1 + i)) (1 + i) = true) ∧ s.line.b.length < 16) ∧
      (let s := sendingTo (asking (.moveMarks 3 3)) fun x =>
        { x with state := .sending, moving := true, first := 0, count := 6, block := 1, records := [[], [], []] }
       let r := { s with memory := { s.memory with copies := { s.memory.copies with snapshot := 6, head := 6 } } }
       r.memory.busy = some ⟨.moveMarks 3 3, false⟩ ∧ r.memory.copies.tail ≤ 3 ∧ 3 ≤ r.memory.copies.snapshot ∧
         r.memory.faulted = false ∧ r.upload.sender.state = .sending ∧ r.upload.sender.moving = true ∧
         r.upload.sender.afterBlock = 3 ∧ 3 + 3 ≤ r.upload.sender.first + r.upload.sender.count ∧
         3 = r.upload.sender.first + 3 * r.upload.sender.block) := by decide

/-! ## The desk line -/

def onLine (s : State) (f : LineCtl → LineCtl) : State := { s with line := f s.line }

theorem witness_LineIsFollowedAndTaken :
    let n : Notice := ⟨9, 255, .payment ⟨5, 0, 0⟩⟩
    (floor.station ≠ .starting ∧ floor.line.sending = none ∧ floor.line.state ≠ .busy ∧ floor.line.receiving = false) ∧
      (floor.line.state = .idle ∧ floor.line.listenOnly = false ∧ floor.line.awaitIdle = false ∧
        (onLine floor fun x => { x with u := [n] }).line.u = [n] ∧ kindCode n.body ≠ 0x14 ∧ floor.number ≤ 0) ∧
      (floor.line.u = [] ∧ (onLine floor fun x => { x with s := [n] }).line.s = [n] ∧
        17 + floor.number + (if floor.line.courtesyS then 16 else 0) ≤ 17) ∧
      (floor.line.s = [] ∧ (onLine floor fun x => { x with b := [n] }).line.b = [n] ∧
        33 < 34 + floor.number + (if floor.line.courtesyB then 16 else 0)) ∧
      (33 + floor.number ≤ 33 ∧ (onLine floor fun x => { x with listenOnly := true }).line.listenOnly = true ∧
        floor.line.b = []) := by decide

/-- A PAYMENT of this station on the line. -/
def sendingPayment : State :=
  let n : Notice := ⟨9, 255, .payment ⟨5, 0, 0⟩⟩
  onLine floor fun x => { x with s := [n], sending := some ⟨.s, 0, 1, n, false⟩ }

theorem witness_TransmissionCompletesAndReports :
    (sendingPayment.line.sending.map (·.cls) = some .s ∧ sendingPayment.line.restateOwed = false ∧
        sendingPayment.line.broadcastOwed = false ∧ ∀ p ∈ sendingPayment.line.peers, p.request = none) ∧
      (let s := awaitingTrap true
       let t : TrapRecord := ⟨0, 1, 6, 7, 0, .provisional .a false, 4⟩
       s.line.u = [⟨4, 255, .trap t.part t.station .trapped⟩] ∧ t.title = itemTitle 7 ∧ t.station = s.number ∧
         s.traps.find? (fun z => z.isFor t.title t.rank) = some t ∧
         (s.lane .a).txn.map (·.hold) = some (some ⟨t.rank, t.holdBorrower⟩) ∧
         (s.lane .a).txn.map (·.found) = some (some ⟨.roll, some ⟨5, 90, 1020, 0⟩⟩) ∧
         ((finding s ⟨.today, some ⟨5, 90, 1020, 0⟩⟩).lane .a).txn.map (·.found) =
           some (some ⟨.today, some ⟨5, 90, 1020, 0⟩⟩) ∧
         (s.lane .a).txn.map (·.due) = some (90, 1020) ∧ (s.lane .a).txn.map (·.reckonDay) = some s.clock.day ∧
         s.item? 7 = none ∧ s.commitRefusal = none ∧ s.overlay.used < 8192 ∧ s.memory.faulted = false ∧
         s.memory.busy = none ∧ s.memory.waiting = [] ∧ (s.lane .a).txn.map (·.stage) = some .awaitTrap ∧
         (s.lane .a).endPending = false ∧ s.traps = [t] ∧ s.line.stamps < 65535) ∧
      (let s := awaitingBlock true
       s.line.u = [⟨4, 255, .block ⟨5, 0, 0⟩ .raise .lost⟩] ∧ s.laneA.txn.map (·.stage) = some .awaitLine ∧
         s.laneA.txn.map (·.stamp) = some 4 ∧ s.laneA.txn.map (·.item) = some none ∧
         s.laneA.txn.map (·.trap) = some .none ∧ s.laneA.txn.map (·.blockReason) = some .lost ∧
         s.entry? 5 = some reader ∧ s.commitRefusal = none ∧ s.memory.faulted = false) := by decide

/-- A notice at the head of its class's queue, behind it the rest, on the line. -/
def sendingNotice (s : State) (c : TxClass) (n : Notice) (rest : List Notice) : State :=
  onLine s fun x => match c with
    | .u => { x with u := n :: rest, sending := some ⟨.u, 0, 1, n, false⟩ }
    | .s => { x with s := n :: rest, sending := some ⟨.s, 0, 1, n, false⟩ }
    | .b => { x with b := n :: rest, sending := some ⟨.b, 0, 1, n, false⟩ }

/-- A BLOCK notice of lane A's block or lift on the line. -/
def blockSent (a : BlockAction) (why : BlockReason) : State :=
  (sendingNotice (awaitingBlock true) .u ⟨4, 255, .block ⟨5, 0, 0⟩ a why⟩ []).mapTxn .a fun x => { x with
    operation := (match a with
      | .raise => .block
      | .lift => .lift)
    blockReason := why }

/-- Two entries with tallies of stamps 9 and 7, and a TALLY on the line before fifteen more, with the walk PAUSED at 5. -/
def pausedWalk : State :=
  let t : Notice := ⟨0, 255, .tally ⟨6, 0, 0⟩ 1 none none⟩
  let es := [{ reader with borrower := 6, own := { reader.own with stamp := 9 } }, { reader with own := { reader.own with stamp := 7 } }]
  onLine (sendingNotice { floor with standing := { floor.standing with entries := es } } .b t (List.replicate 15 t))
    fun x => { x with engine := .paused 1 (.tallies 5) }

theorem witness_TransmissionCompletesAndReports_kinds :
    (kindCode (.uploadReceipt 1) = 5 ∧ kindCode (.uploadRefusal 1) = 6 ∧ kindClass .uploadClosed = .s ∧
        kindCode .uploadClosed ≠ 0x17) ∧
      (floor.line.engine = .idle ∧ pausedWalk.line.engine = .paused 1 (.tallies 5) ∧ pausedWalk.line.b.length = 16 ∧
        pausedWalk.standing.entries.map (·.own.stamp) = [9, 7] ∧ pausedWalk.overlay.entries = [] ∧
        pausedWalk.traps = []) := by decide

theorem witness_TransmissionCompletesAndReports_blocks :
    (∀ a ∈ [BlockAction.raise, .lift], ∀ why ∈ [BlockReason.lost, .staff],
        ((blockSent a why).lane .a).txn.map (fun x => (x.stage, x.stamp, x.borrower, x.blockReason)) =
            some (.awaitLine, 4, some 5, why) ∧
          ((blockSent a why).lane .b).txn = none ∧ (blockSent a why).entry? 5 = some reader) ∧
      (let s := blockSent .lift .staff
       let z := { s with laneA := s.laneB, laneB := s.laneA }
       (z.lane .b).txn.isSome = true ∧ (z.lane .a).txn = none ∧ s.memory.busy = none ∧ s.commitRefusal = none ∧
         (full s).commitRefusal = some .journalFull ∧ (s.lane .a).endPending = false ∧ s.provisionalOf .a = none ∧
         reader.lost.awaiting = [] ∧ reader.staff.awaiting = []) := by decide

theorem witness_TransmissionCompletesAndReports_upload :
    (let s := sendingNotice floor .u ⟨0, 255, .gatewayClaim 100⟩ []
     s.upload.gateway = none ∧ s.upload.sender.state = .idle ∧ s.upload.kept = [] ∧ s.station = .ready ∧
       s.memory.faulted = false ∧ { s with station := .fault }.station ≠ .gathering) ∧
      (let s := sendingTo floor fun x => { x with state := .beginning, count := 5 }
       let z := (sendingTo floor fun x => { x with state := .beginning }).upload.sender
       kindClass (.uploadBegin 0 5) = .s ∧ s.upload.sender.gateway = some 3 ∧ 3 ≠ s.number ∧
         s.upload.sender.state = .beginning ∧ 0 < s.upload.sender.count ∧ z.count = 0 ∧ z.receipted = 0) := by decide

/-- R168 and R172: an own claim that completes with a session open settles the calling sender and opens the session anew. -/
theorem test_own_claim_with_a_session_open :
    let s := (sendingNotice floor .u ⟨0, 255, .gatewayClaim 100⟩ []).openGateway 99
    let z := (after .transmitComplete { s with upload := { s.upload with sender := { s.upload.sender with
      state := .calling, callTimer := some 30000 } } }).upload
    s.upload.gateway.isSome = true ∧ z.sender.state = .settling ∧ z.sender.gateway = some 0 ∧
      z.sender.callTimer = none ∧ z.gateway.map (·.claimDay) = some 100 := by decide

/-- A BLOCK on the line that no lane waits for (R78). -/
theorem witness_TransmissionCompletesAndReports_unsent :
    let s := sendingNotice floor .u ⟨4, 255, .block ⟨5, 0, 0⟩ .raise .lost⟩ []
    s.line.u = [⟨4, 255, .block ⟨5, 0, 0⟩ .raise .lost⟩] ∧ (s.lane .a).txn = none ∧ (s.lane .b).txn = none := by decide

/-- A good frame of a kind with a body of `len` zero bytes: the receiver judges header, length and CRC. -/
def rx (kind sender stamp edition target len : Nat) (body : Body) : RxFrame :=
  let covered := [byteOf kind, byteOf sender] ++ bytesOf 2 stamp ++ [byteOf edition, byteOf target, byteOf len]
    ++ bytesOf len 0
  ⟨false, 0xA6 :: covered ++ bytesOf 2 (crc16 covered).toNat, body⟩

theorem witness_ListenOnlyIsEnteredAndLeft :
    (sendingPayment.line.sending.map (·.withdrawn) = some false ∧ sendingPayment.line.collisions ≤ 7 ∧
        (onLine sendingPayment fun x => { x with collisions := 7 }).line.collisions = 7) ∧
      (let s := onLine floor fun x => { x with receiving := true }
       s.station ≠ .starting ∧ s.line.receiving = true) ∧
      RxFrame.good ⟨true, [], .uploadClosed⟩ = false ∧
      (RxFrame.good (rx 0x19 0 0 1 255 0 .uploadClosed) = true ∧
        natAt (rx 0x19 0 0 1 255 0 .uploadClosed).bytes 2 1 = floor.number) ∧
      floor.serves = true := by decide +kernel

/-- Station 3 is PRESENT in edition 1 with last stamp 8, and a frame is being received. -/
def hearing : State :=
  onLine (withReader floor) fun x => { x with
    receiving := true, peers := x.peers.set 3 { Peer.reset with present := true, edition := 1, lastStamp := 8 } }

/-- Station 0 has raised LOST for borrower 5 in listen-only with stamp 4, and its notice is still queued. -/
def raisedUnsent : State :=
  let e := { reader with lost := ⟨.raised 0 4, []⟩ }
  onLine { hearing with standing := { hearing.standing with entries := [e] } } fun x => { x with
    u := [⟨4, 255, .block ⟨5, 0, 0⟩ .raise .lost⟩] }

/-- R78: a peer's LIFT leaves the record at the own action while its notice is queued, and by R77 takes it after. -/
theorem test_peer_action_over_an_unsent_one :
    let f := rx 0x01 3 9 1 255 14 (.block ⟨5, 1, 0⟩ .lift .lost)
    let shown := fun (s : State) => ((after (.frameEnd f) s).entry? 5).map (·.lost.state)
    shown raisedUnsent = some (.raised 0 4) ∧
      shown (onLine raisedUnsent fun x => { x with u := [] }) = some (.lifted 3 9) := by decide +kernel

theorem witness_PeerNoticesAreApplied_unsent :
    raisedUnsent.line.u = [⟨4, 255, .block ⟨5, 0, 0⟩ .raise .lost⟩] ∧
      (raisedUnsent.entry? 5).map (·.lost.state) = some (.raised raisedUnsent.number 4) ∧
      RxFrame.good (rx 0x01 3 9 1 255 14 (.block ⟨5, 1, 0⟩ .lift .lost)) = true ∧ raisedUnsent.station ≠ .starting := by
  decide +kernel

theorem witness_PeerNoticesAreApplied :
    (let f := rx 0x10 3 9 1 255 24 (.loan ⟨5, 1, 0⟩ 7 .roll 114 1020 0)
     RxFrame.good f = true ∧ natAt f.bytes 2 1 = 3 ∧ natAt f.bytes 3 2 = 9 ∧ natAt f.bytes 5 1 = hearing.edition ∧
       natAt f.bytes 6 1 = 255) ∧
      (hearing.station ≠ .starting ∧ hearing.line.receiving = true ∧ 3 ≠ hearing.number ∧
        hearing.line.peers[3]?.map (·.lastStamp) = some 8 ∧ hearing.line.peers[3]?.map (·.present) = some true ∧
        hearing.line.peers[3]?.map (·.edition) = some 1 ∧ hearing.line.peers[3]?.map (·.request) = some none) ∧
      (hearing.entry? 5 = some reader ∧ (∀ q ∈ reader.peers, q.station ≠ 3) ∧ hearing.item? 7 = none ∧
        hearing.overlay.used < 8192) ∧
      RxFrame.good (rx 0x10 3 8 1 255 24 (.loan ⟨5, 1, 0⟩ 7 .roll 114 1020 0)) = true ∧
      RxFrame.good (rx 0x10 3 9 2 255 24 (.loan ⟨5, 1, 0⟩ 7 .roll 114 1020 0)) = true ∧
      (let f := rx 0x13 3 10 1 255 12 (.payment ⟨5, 0, 0⟩)
       RxFrame.good f = true ∧ 8 + 1 < natAt f.bytes 3 2 ∧ hearing.line.s = [] ∧ hearing.line.sending = none) ∧
      (let s := { hearing with overlay := { hearing.overlay with entries := [⟨7, .roll, none, 0, 4⟩] } }
       RxFrame.good (rx 0x11 3 9 1 255 19 (.ret ⟨5, 1, 0⟩ 7 .roll)) = true ∧
         RxFrame.good (rx 0x12 3 9 1 255 24 (.renew ⟨5, 1, 0⟩ 7 .roll 114 1020 1)) = true ∧
         RxFrame.good (rx 0x01 3 9 1 255 14 (.block ⟨5, 1, 0⟩ .raise .lost)) = true ∧
         s.item? 7 = some ⟨7, .roll, none, 0, 4⟩ ∧ 0 ≠ 3) ∧
      (RxFrame.good (rx 0x02 3 9 1 255 19 (.trap ⟨0, 1, 6, 7⟩ 3 .trapped)) = true ∧ hearing.trap? 0 1 = none ∧
        hearing.traps.length < 512) ∧
      (let own : TrapRecord := ⟨0, 1, 6, 8, 0, .confirmed, 4⟩
       let s := { hearing with traps := [own] }
       s.trap? 0 1 = some own ∧ own.station = s.number ∧ s.number < 3 ∧ s.line.u.length < 8 ∧ s.line.stamps < 65535 ∧
         (let inForce := { s.settings.inForce with stationNumber := 4 }
          3 < State.number { s with settings := { s.settings with inForce := inForce } })) ∧
      (RxFrame.good (rx 0x02 3 9 1 255 19 (.trap ⟨0, 1, 6, 7⟩ 3 .released)) = true ∧
        (let t : TrapRecord := ⟨0, 1, 6, 7, 3, .confirmed, 4⟩
         { hearing with traps := [t] }.traps = [t] ∧ t.station = 3 ∧ t.item = 7)) := by
  decide +kernel

theorem witness_RestatementFramesAreJudged :
    (hearing.station ≠ .starting ∧ hearing.line.receiving = true ∧ 3 ≠ hearing.number ∧ hearing.edition ≠ 0 ∧
        hearing.line.peers[3]?.map (fun p => (p.present, p.edition)) = some (true, hearing.edition)) ∧
      (let f := rx 0x15 3 0 1 255 2 (.restateRequest 1)
       RxFrame.good f = true ∧ natAt f.bytes 6 1 = 255 ∧ natAt (rx 0x15 3 0 1 4 2 (.restateRequest 1)).bytes 6 1 ≠ 0 ∧
         hearing.line.s = [] ∧ hearing.line.engine = .idle ∧ (onLine hearing fun x => { x with engine := .held none }).line.engine
           = .held none) ∧
      (let e := { reader with own := ⟨1, 0, 4⟩ }
       ([e].filter fun e => decide (1 ≤ e.own.stamp)) = [e] ∧ hearing.line.b.length < 16 ∧
         (hearing.standing.entries.filter fun e => decide (1 ≤ e.own.stamp)) = [] ∧ hearing.traps = [] ∧
         (hearing.overlay.entries.filter fun i => i.station == hearing.number && decide (1 ≤ i.stamp)) = []) ∧
      (RxFrame.good (rx 0x20 3 0 1 255 20 (.tally ⟨5, 1, 0⟩ 9 none none)) = true ∧ hearing.entry? 5 = some reader ∧
        (∀ q ∈ reader.peers, q.station ≠ 3) ∧ reader.lost.state = .roll ∧
        [(⟨3, ⟨1, 0, 9⟩⟩ : PeerTally)].find? (fun y => y.station == 3) = some ⟨3, ⟨1, 0, 9⟩⟩) ∧
      (floor.entry? 5 = none ∧ { floor.memory with faulted := true }.faulted = true ∧
        (parking floor 6).standing.lookup.isSome = true ∧ (parking floor 6).standing.parked.length < 32) ∧
      (RxFrame.good (rx 0x21 3 0 1 255 21 (.item 7 .roll (some ⟨5, 90, 1020, 0⟩) 9)) = true ∧ hearing.item? 7 = none ∧
        hearing.overlay.used < 8192 ∧ (⟨7, .roll, none, 3, 4⟩ : ItemEntry).stamp < 9) ∧
      (RxFrame.good (rx 0x22 3 0 1 255 20 (.trapState ⟨0, 1, 6, 7⟩ .confirmed 9)) = true ∧ hearing.trap? 0 1 = none ∧
        (⟨0, 1, 6, 7, 3, .confirmed, 4⟩ : TrapRecord).stamp < 9) := by decide +kernel

theorem witness_PresenceAndAbsenceTimersExpire :
    (floor.line.presenceTimer = some 10000 ∧ floor.line.s = []) ∧
      (let s := onLine floor fun x => { x with s := [⟨0, 255, .presence ⟨0, 0, 0, false, false, []⟩⟩] }
       s.line.s.any isPresence = true) ∧
      (let s := onLine floor fun x => { x with
        peers := x.peers.set 15 { Peer.reset with present := true, absenceTimer := some 35000 } }
       s.line.peers[15]?.map (·.absenceTimer) = some (some 35000) ∧ s.line.peers[15]?.map (·.present) = some true ∧
         s.port.enabled.getLsbD 10 = false ∧ (0b11111111111#11).getLsbD 10 = true) ∧
      (let f := rx 0x14 3 0 1 255 39 (.presence ⟨9, 100, 600, true, false, List.replicate 16 0⟩)
       RxFrame.good f = true ∧ natAt f.bytes 2 1 = 3 ∧ natAt f.bytes 5 1 = hearing.edition ∧ hearing.edition ≠ 0 ∧
         hearing.clock.set = true ∧ 8 < 9 ∧ hearing.line.s = [] ∧ hearing.line.sending = none ∧ 600 ≠ hearing.rules.uploadMinute ∧
         (rx 0x14 3 0 2 255 39 (.presence ⟨9, 100, 600, true, false, []⟩)).bytes.length = 49) ∧
      (RxFrame.good (rx 0x03 3 0 1 255 2 (.dayRoll 100)) = true ∧ hearing.clock.day = 100 ∧
        hearing.clock.rollMark = false ∧ hearing.reckoner.staged = none ∧ 0 < hearing.rules.uploadMinute ∧
        ({ hearing.clock with minute := 1410 } : Clock).minute = 1410) := by decide +kernel

/-! ## The day clock and the upload -/

def clocked (f : Clock → Clock) : State := { floor with clock := f floor.clock }

theorem witness_SecondsMinutesAndDaysCount :
    State.reset.clock.set = false ∧ (clocked fun c => { c with seconds := 58 }).clock.seconds < 59 ∧
      (floor.clock.set = true ∧ floor.clock.seconds = 59 ∧ floor.clock.minute < 1439 ∧ floor.clock.armed = false) ∧
      (let s := { clocked fun c => { c with minute := 1319, armed := true } with
        settings := { floor.settings with strap := true } }
       s.clock.armed = true ∧ s.rules.uploadMinute ≤ s.clock.minute + 1 ∧ s.station = .ready ∧
         s.memory.faulted = false ∧ s.upload.sender.state = .idle ∧ s.settings.strap = true ∧ s.line.u.length < 8 ∧
         s.upload.kept = [] ∧ s.upload.handAgainTimer = none) ∧
      (let s := clocked fun c => { c with minute := 1439, day := 65534 }
       s.clock.minute = 1439 ∧ s.clock.day < 65535 ∧ s.reckoner.staged = none ∧ 0 < s.rules.uploadMinute ∧
         0 < rules.uploadMinute ∧ s.settings.cycle = none) ∧
      (clocked fun c => { c with minute := 1439, day := 65535 }).clock.day = 65535 := by decide

theorem witness_SecondsMinutesAndDaysCount_SetClock :
    floor.serves = true ∧ 1439 < (1440#16).toNat ∧ 59 < (60#8).toNat ∧
      (floor.clock.set = true ∧ (99#16).toNat < floor.clock.day ∧ (100#16).toNat = floor.clock.day ∧
        floor.clock.day < (101#16).toNat ∧ floor.clock.armed = false ∧ floor.reckoner.staged = none) ∧
      ((1439#16).toNat ≤ 1439 ∧ (59#8).toNat ≤ 59 ∧ (1439#16).toNat ≠ floor.rules.uploadMinute) ∧
      (clocked fun c => { c with set := false }).clock.set = false := by decide

theorem witness_UploadNowMakesACall :
    (floor.serves = true ∧ floor.station = .ready ∧ floor.memory.faulted = false ∧ floor.upload.sender.state = .idle ∧
        floor.upload.gateway = none ∧ floor.upload.kept = [] ∧ floor.upload.handAgainTimer = none ∧
        floor.settings.strap = false ∧ floor.gatewayInSight = false ∧ floor.memory.busy = none ∧
        floor.memory.waiting = [] ∧ floor.line.u.length < 8) ∧
      ({ floor with station := .fault }.station ≠ .ready ∧ { floor with station := .fault }.station ≠ .gathering) ∧
      { floor.memory with faulted := true }.faulted = true ∧
      (sendingTo floor fun x => { x with state := .calling }).upload.sender.state ≠ .idle ∧
      (let s := onLine floor fun x => { x with
        peers := x.peers.set 3 { Peer.reset with present := true, uplinkFitted := true } }
       s.gatewayInSight = true ∧ s.line.s.length < 32) ∧
      { floor.settings with strap := true }.strap = true ∧
      (hearing.station = .ready ∧ hearing.memory.faulted = false ∧ hearing.upload.gateway = none ∧
        hearing.upload.sender.state = .idle ∧ hearing.memory.busy = none ∧ hearing.memory.waiting = [] ∧
        hearing.upload.kept = [] ∧ hearing.line.u = [] ∧ hearing.line.s = [] ∧ hearing.clock.day = 100 ∧
        RxFrame.good (rx 0x04 3 0 1 255 2 (.gatewayClaim 100)) = true ∧
        natAt (rx 0x04 3 0 1 255 2 (.gatewayClaim 100)).bytes 5 1 = 1) ∧
      (let x := (sendingTo hearing fun x => { x with state := .sending, block := 1, records := [[], []] }).upload.sender
       RxFrame.good (rx 0x05 3 0 1 0 2 (.uploadReceipt 1)) = true ∧
         natAt (rx 0x05 3 0 1 0 2 (.uploadReceipt 1)).bytes 6 1 = hearing.number ∧ x.state = .sending ∧
         x.moving = false ∧ x.gateway = some 3 ∧ x.block = 1) := by decide +kernel

theorem witness_UploadTimersExpire_sender :
    (floor.line.sending = none ∧ floor.memory.busy = none ∧ floor.memory.waiting = [] ∧ floor.upload.kept = [] ∧
        floor.upload.handAgainTimer = none ∧ floor.line.restateOwed = false ∧ floor.line.broadcastOwed = false ∧
        floor.line.engine = .idle ∧ (∀ p ∈ floor.line.peers, p.request = none)) ∧
      (let x := (sendingTo floor fun x => { x with state := .calling, callTimer := some 30000 }).upload.sender
       x.state = .calling ∧ x.callTimer = some 30000) ∧
      (let x := (sendingTo floor fun x => { x with state := .beginning, beginTimer := some 10000 }).upload.sender
       x.state = .beginning ∧ x.beginTimer = some 10000) ∧
      (let x := (sendingTo floor fun x => { x with state := .sending, receiptTimer := some 5000, tries := 7 }).upload.sender
       x.gateway = some 3 ∧ 3 ≠ floor.number ∧ x.receiptTimer = some 5000 ∧ x.tries < 8 ∧ 8 ≤ x.tries + 1 ∧
         floor.line.b = [] ∧ floor.line.s.length < 32 ∧ kindCode (.uploadBlock 1 [[]]) = 0x23) ∧
      (let n : Notice := ⟨0, 3, .uploadDone 1⟩
       let u := { floor.upload with handAgainTimer := some 1000, kept := [n] }
       u.handAgainTimer = some 1000 ∧ u.kept = [n] ∧ u.gateway = none ∧ kindClass n.body = .s ∧
         32 ≤ (List.replicate 32 n).length) := by decide

/-- A gateway session with the entry of station 3 SENDING, entry 15 SENDING, and the others WAITING_BEGIN. -/
def session3 : Gateway :=
  { entries := ((List.replicate 16 ⟨.waitingBegin, 0, 0, none⟩).set 3 ⟨.sending, 2, 0, some 45000⟩).set 15
      ⟨.sending, 1, 0, some 45000⟩
    beginTimer := some 10000, claimDay := 100, queue := [⟨3, 1, []⟩], sendingHead := false
    answerTimer := some 10000, closing := false }

/-- The same with one entry, station 3's, left open, and a queue. -/
def lastOpen (e : GatewayEntry) (q : List UplinkBlock) : Gateway :=
  { session3 with entries := (List.replicate 16 ⟨.done, 2, 2, none⟩).set 3 e, queue := q, beginTimer := none }

theorem witness_UploadFramesAct :
    (∀ f ∈ [rx 0x16 3 0 1 255 2 (.uploadCall 100), rx 0x19 3 0 1 255 0 .uploadClosed,
        rx 0x06 3 0 1 0 1 (.uploadRefusal 2), rx 0x06 3 0 1 4 1 (.uploadRefusal 2), rx 0x18 3 0 1 0 2 (.uploadDone 2)],
        RxFrame.good f = true ∧ natAt f.bytes 2 1 = 3 ∧ natAt f.bytes 5 1 = 1) ∧
      (hearing.station ≠ .starting ∧ hearing.line.receiving = true ∧ 3 ≠ hearing.number ∧
        hearing.line.peers[3]?.map (fun p => (p.present, p.edition)) = some (true, 1)) ∧
      (let s := { hearing with settings := { hearing.settings with strap := true } }
       s.clock.day = 100 ∧ s.settings.strap = true ∧ s.upload.sender.state = .idle ∧ s.upload.gateway = none ∧
         s.line.u = [] ∧ s.upload.kept = [] ∧ s.station = .ready ∧ s.memory.faulted = false ∧ hearing.settings.strap = false) ∧
      (∀ st ∈ [SenderState.beginning, .reading, .sending],
        let x := (sendingTo hearing fun x => { x with state := st }).upload.sender
        x.gateway = some 3 ∧ x.state = st) ∧
      hearing.upload.sender.gateway ≠ some 3 ∧
      (hearing.line.sending = none ∧ hearing.line.restateOwed = false ∧ hearing.line.broadcastOwed = false ∧
        hearing.line.engine = .idle ∧ (∀ q ∈ hearing.line.peers, q.request = none) ∧ hearing.memory.waiting = []) ∧
      natAt (rx 0x06 3 0 1 4 1 (.uploadRefusal 2)).bytes 6 1 ≠ hearing.number ∧
      (session3.entries.length = 16 ∧ session3.entries[3]?.map (·.state) = some .sending ∧
        session3.entries[15]?.map (·.state) = some .sending) ∧
      (∀ e ∈ [(⟨.sending, 2, 0, some 45000⟩ : GatewayEntry), ⟨.waitingBegin, 0, 0, none⟩, ⟨.gone .late, 0, 0, none⟩],
        let g := lastOpen e []
        g.entries.length = 16 ∧ g.entries[3]? = some e ∧ g.queue = [] ∧ g.closing = false ∧
          ∀ j < 16, j ≠ 3 → g.entries[j]?.map (·.state) = some .done) ∧
      (lastOpen ⟨.sending, 2, 0, none⟩ [⟨4, 2, []⟩]).queue ≠ [] := by decide +kernel

theorem witness_UploadTimersExpire_gateway :
    let s := { floor with upload := { floor.upload with gateway := some session3 } }
    let g := { session3 with entries := List.replicate 16 ⟨.waitingBegin, 0, 0, none⟩, queue := [] }
    (s.upload.gateway = some session3 ∧ session3.entries.length = 16 ∧ s.upload.sender.state = .idle) ∧
      (session3.beginTimer = some 10000 ∧ ∃ e ∈ session3.entries, e.state = .sending) ∧
      (g.entries.length = 16 ∧ (∀ e ∈ g.entries, e.state ≠ .sending) ∧ g.queue = [] ∧ g.closing = false ∧
        s.line.s.length < 32) ∧
      (session3.entries[15]? = some ⟨.sending, 1, 0, some 45000⟩ ∧ 3 ≠ 15 ∧
        session3.entries[3]?.map (·.state) = some .sending) ∧
      (session3.answerTimer = some 10000 ∧ s.line.u.length < 8) := by decide

theorem witness_UplinkAnswersMoveTheQueue :
    { session3 with sendingHead := true }.sendingHead = true ∧
      (session3.queue = [⟨3, 1, []⟩] ∧ session3.answerTimer = some 10000 ∧ session3.sendingHead = false ∧
        session3.entries[3]? = some ⟨.sending, 2, 0, some 45000⟩ ∧ 3 ≠ floor.number ∧ 1 < 65536 ∧
        floor.line.u.length < 8 ∧ 1 ≠ 2) ∧
      (255 < 256 ∧ 15 ≠ 3 ∧ session3.entries[15]?.map (·.state) = some .sending) ∧
      ([0x5B#8] : List Byte).head? ≠ some 0x5C#8 ∧ [0x5C#8, 0x81].length ≠ 5 + natAt [0x5C#8, 0x81] 2 1 ∧
      (RxFrame.good (rx 0x17 3 0 1 0 6 (.uploadBegin 0 4)) = true ∧
        natAt (rx 0x17 3 0 1 0 6 (.uploadBegin 0 4)).bytes 6 1 = floor.number ∧
        RxFrame.good (rx 0x23 3 0 1 0 35 (.uploadBlock 1 [[]])) = true ∧ (⟨.waitingBegin, 0, 0, none⟩ : GatewayEntry).state
          = .waitingBegin ∧ 1 = 0 + 1 ∧ session3.queue.length < 4 ∧ session3.answerTimer.isSome = true ∧
        (⟨.gone .late, 0, 0, none⟩ : GatewayEntry).state = .gone .late ∧ 0 < 1) := by decide +kernel

/-! ## The printer and the pads -/

def printing (p : PrinterState) (q : List Nat) : State :=
  { floor with slips := { floor.slips with
    printer := p, queue := q, paper := some .present, lid := some .closed
    warmTimer := if p = .warming then some 80 else none
    slips := floor.slips.slips.set 1 { Slip.free with state := .ready, kind := some .hold, hold := some (0, 1) } } }

theorem witness_PrinterTakesTheQueue :
    (floor.slips.slips.length = 8 ∧ (printing .warming []).slips.slips.length = 8) ∧
      ((printing .warming [0]).slips.printer = .warming ∧ (printing .warming [0]).slips.warmTimer = some 80 ∧
        (printing .warming [0]).slips.unloadTimer = none ∧ ((printing .warming [0]).slip 0).hold = none) ∧
      (((printing .warming [1]).slip 1).hold = some (0, 1) ∧ (printing .warming [1]).ownConfirmed (0, 1) = false) ∧
      ((printing .printing [0, 7]).slips.printer = .printing ∧ (printing .printing [0, 7]).slips.warmTimer = none ∧
        ((printing .printing [0, 7]).slip 7).hold = none) ∧
      { floor.slips with unloadTimer := some 10000 }.unloadTimer = some 10000 := by decide

theorem witness_SensorsAndPadsAct :
    State.reset.station = .starting ∧
      (let s := { floor with slips := { floor.slips with lid := some .closed } }
       s.station ≠ .starting ∧ s.slips.paper = none ∧ s.slips.lid = some .closed ∧ s.slips.printer = .off) ∧
      ((printing .printing [0]).slips.paper.isSome = true ∧ (printing .printing [0]).slips.lid.isSome = true ∧
        (printing .printing [0]).slips.printer = .printing) ∧
      (let s := { printing .halted [] with slips := { (printing .halted []).slips with paper := some .out } }
       s.slips.paper = some .out ∧ s.slips.lid = some .closed ∧ s.slips.printer = .halted) ∧
      (let u := { (printing .aligning [0]).slips with alignSteps := 598 }
       u.printer = .aligning ∧ u.queue ≠ [] ∧ u.paper.isSome = true ∧ u.lid.isSome = true ∧ u.alignSteps + 1 < 600 ∧
         600 ≤ { u with alignSteps := 599 }.alignSteps + 1) ∧
      ((printing .aligning []).slips.queue = [] ∧ floor.laneA.session = none ∧ floor.laneB.session = none) ∧
      (let s := floor.setPad .p1 ⟨true, some .desensitise, [.resensitise]⟩
       (s.pad .p1).pulsing = some .desensitise ∧ (s.pad .p1).waiting = [.resensitise]) ∧
      (floor.setPad .p0 ⟨true, some .resensitise, []⟩).slips.pad0.waiting = [] := by decide

/-! ## What the reckoner and the memory compute -/

/-- Rules with Mondays closed and day 9 a holiday. -/
def calendar : RuleSet := { RuleSet.default with closure := 1, holidays := [9] }

theorem witness_ProvisionalDueDayIsTheRightOpenDay :
    (65535 < 2 + 65534) ∧ (1 ≤ 1 ∧ 65534 + 1 ≤ 65535) ∧ (7 + 2 ≤ 10 ∧ 10 ≤ 7 + 2 + 14 ∧ calendar.opens 10 = true) ∧
      calendar.opens 9 = false ∧ calendar.opens 7 = false ∧
      (let shut := { calendar with holidays := List.range' 20 15 }
       (∀ d ≤ 34, 20 ≤ d → shut.opens d = false) ∧ shut.opens 19 = true ∧
         shut.provisionalDue 3 17 = some 19 ∧ shut.provisionalDue 1 19 = none) := by decide

theorem witness_DueDatesRespectCardAndCalendar :
    1 ≤ 2 ∧ calendar.dueDays 2 10 7 = .ok (10, 1020) ∧ calendar.dueDays 4 10 7 = .ok (10, 1020) ∧
      calendar.dueDays 2 9 7 = .ok (8, 1020) ∧ calendar.dueDays 2 7 7 = .error .cardExpiring ∧
      { calendar with holidays := List.range' 20 15 }.provisionalDue 1 19 = none ∧
      calendar.dueHours 2 8 8 600 = .ok (8, 720) ∧ calendar.dueHours 12 8 8 1005 = .ok (8, 1020) ∧
      (7 < 8 ∧ calendar.dueHours 2 7 8 600 = .error .cardExpiring) ∧
      (calendar.opens 9 = false ∧ calendar.dueHours 2 9 9 600 = .error .closedToday) ∧
      (calendar.opens 8 = true ∧ (calendar.dayHours 8).closing < 1006 + 15 ∧
        calendar.dueHours 2 8 8 1006 = .error .tooLate) := by decide +kernel

theorem witness_FinesChargeOpenDaysAndStartedHours :
    (5 ≤ 5 ∧ 600 ≤ 600) ∧ 5 < 6 ∧ (60 * 1 < 720 - 600 ∧ 720 - 600 ≤ 60 * (1 + 1)) ∧
      rules.classRule 0 = ⟨.days, 14, 10, 500, 1, 2⟩ := by decide

theorem witness_BalancesAndLimitsHold :
    (-99999 ≤ reader.exactBalance ∧ reader.exactBalance ≤ 999999) ∧
      999999 < { reader with own := ⟨0, 1000000, 0⟩ }.exactBalance ∧
      { reader with own := ⟨0, -100000, 0⟩ }.exactBalance < -99999 ∧
      (let w := { rules with warning := 100, blocking := 500 }
       w.warning ≤ w.blocking ∧ (w.blocking : Int) ≤ 500 ∧ (99 : Int) < w.warning ∧ (w.warning : Int) ≤ 100 ∧
         (499 : Int) < w.blocking) ∧
      (-999 ≤ reader.own.loans ∧ reader.own.loans < 999 ∧ reader.reservedA = false ∧ reader.reservedB = false ∧
        { reader with reservedB := true }.reservedB = true ∧ { reader with reservedA := true }.reservedA = true) := by decide

theorem witness_ListSearchIsRight : (loaded .queryRead).listSound .roll ∧
    (∃ i, i < (loaded .queryRead).listCount .roll ∧
      ListId.roll.key ((loaded .queryRead).entryBytes .roll i) = (5, 0)) ∧
    ∀ i, i < (loaded .queryRead).listCount .roll →
      ListId.roll.key ((loaded .queryRead).entryBytes .roll i) ≠ (6, 0) := by
  have h : (loaded .queryRead).listCount .roll = 1 := by decide
  refine ⟨⟨?_, ?_⟩, ⟨0, by decide⟩, ?_⟩
  · rw [h]; decide
  · intro i j hij hj; rw [h] at hj; omega
  · rw [h]; decide

theorem witness_JournalRecordsReadBack : payment1.fits :=
  ⟨by decide, by decide, by decide, by decide, by decide, by decide, by decide, by decide, by decide, by decide,
    by decide, by decide, fun _ _ => ⟨rfl, rfl⟩, fun _ => rfl⟩

end Sys2Proof.Tests
end

/-! The calendar searches and counts of the reckoner (R53, R54, R57, R58), each said once, and the due dates and
fines that follow from them. -/

namespace Sys2Proof.Proofs
open Sys2Proof Sys2Proof.Machine

/-! ## Calendar (R53) -/

theorem opens_iff (rs : RuleSet) (d : Nat) :
    rs.opens d = true ↔ d ≤ 65535 ∧ rs.closure.getLsbD (d % 7) = false ∧ d ∉ rs.holidays := by
  simp [RuleSet.opens, weekday, and_assoc]

/-! ## Forward and backward search (R54) -/

theorem firstOpen_eq_none_iff (rs : RuleSet) (n day : Nat) :
    rs.firstOpen n day = none ↔ ∀ d, day ≤ d → d < day + n → rs.opens d = false := by
  induction n generalizing day with
  | zero => simp only [RuleSet.firstOpen, true_iff]; omega
  | succ n ih =>
    cases ho : rs.opens day with
    | true => simpa [RuleSet.firstOpen, ho] using ⟨day, le_rfl, by omega, ho⟩
    | false =>
      simp only [RuleSet.firstOpen, ho, Bool.false_eq_true, if_false, ih]
      constructor
      · intro h d hd hn
        obtain rfl | hlt := hd.eq_or_lt
        · exact ho
        · exact h d hlt (by omega)
      · exact fun h d hd hn => h d (by omega) (by omega)

/-- What the forward search finds is open, in the range, and no later than any open day of the range. -/
theorem firstOpen_eq_some {rs : RuleSet} {n day d : Nat} (h : rs.firstOpen n day = some d) :
    day ≤ d ∧ d < day + n ∧ rs.opens d = true ∧ ∀ k, day ≤ k → rs.opens k = true → d ≤ k := by
  induction n generalizing day with
  | zero => cases h
  | succ n ih =>
    cases ho : rs.opens day with
    | true =>
      obtain rfl : day = d := by simpa [RuleSet.firstOpen, ho] using h
      exact ⟨le_rfl, by omega, ho, fun k hk _ => hk⟩
    | false =>
      obtain ⟨hle, hlt, hopen, hmin⟩ := ih (by simpa [RuleSet.firstOpen, ho] using h)
      refine ⟨by omega, by omega, hopen, fun k hk hko => ?_⟩
      obtain rfl | hgt := hk.eq_or_lt
      · simp [ho] at hko
      · exact hmin k hgt hko

theorem lastOpen_eq_none_iff (rs : RuleSet) (base n : Nat) :
    rs.lastOpen base n = none ↔ ∀ d, base < d → d ≤ base + n → rs.opens d = false := by
  induction n with
  | zero => simp only [RuleSet.lastOpen, true_iff]; omega
  | succ n ih =>
    cases ho : rs.opens (base + n + 1) with
    | true => simpa [RuleSet.lastOpen, ho] using ⟨base + n + 1, by omega, by omega, ho⟩
    | false =>
      simp only [RuleSet.lastOpen, ho, Bool.false_eq_true, if_false, ih]
      constructor
      · intro h d hd hn
        obtain rfl | hlt := (show d ≤ base + n + 1 by omega).eq_or_lt
        · exact ho
        · exact h d hd (by omega)
      · exact fun h d hd hn => h d hd (by omega)

/-- What the backward search finds is open, in the range, and no earlier than any open day of the range. -/
theorem lastOpen_eq_some {rs : RuleSet} {base n d : Nat} (h : rs.lastOpen base n = some d) :
    base < d ∧ d ≤ base + n ∧ rs.opens d = true ∧ ∀ k, k ≤ base + n → rs.opens k = true → k ≤ d := by
  induction n with
  | zero => cases h
  | succ n ih =>
    cases ho : rs.opens (base + n + 1) with
    | true =>
      obtain rfl : base + n + 1 = d := by simpa [RuleSet.lastOpen, ho] using h
      exact ⟨by omega, by omega, ho, fun k hk _ => hk⟩
    | false =>
      obtain ⟨hgt, hle, hopen, hmax⟩ := ih (by simpa [RuleSet.lastOpen, ho] using h)
      refine ⟨hgt, by omega, hopen, fun k hk hko => ?_⟩
      obtain rfl | hlt := (show k ≤ base + n + 1 by omega).eq_or_lt
      · simp [ho] at hko
      · exact hmax k (by omega) hko

/-! ## The provisional due day (R54) -/

theorem provisionalDue_of_candidate_beyond (rs : RuleSet) {period day : Nat} (h : 65535 < day + period) :
    rs.provisionalDue period day = none := if_pos h

theorem provisionalDue_of_candidate (rs : RuleSet) {period day : Nat} (h : day + period ≤ 65535) :
    rs.provisionalDue period day = (rs.firstOpen 15 (day + period)).or (rs.lastOpen day (period - 1)) :=
  if_neg (by omega)

theorem dueDays_of_no_provisionalDue {rs : RuleSet} {period day : Nat} (h : rs.provisionalDue period day = none)
    (expiry : Nat) : rs.dueDays period expiry day = .error .noDueDay := by
  simp [RuleSet.dueDays, h]

/-- An open day ahead: the forward search decides. -/
theorem provisionalDue_ahead (rs : RuleSet) {period day : Nat} (hp : day + period ≤ 65535)
    (h : ∃ d, day + period ≤ d ∧ d ≤ day + period + 14 ∧ rs.opens d = true) :
    ∃ d, rs.provisionalDue period day = some d ∧
      (day + period ≤ d ∧ d ≤ day + period + 14 ∧ rs.opens d = true) ∧
      ∀ k, day + period ≤ k ∧ k ≤ day + period + 14 ∧ rs.opens k = true → d ≤ k := by
  obtain ⟨a, hle, hlt, ha⟩ := h
  cases hf : rs.firstOpen 15 (day + period) with
  | none =>
    have hclosed := (firstOpen_eq_none_iff rs _ _).1 hf a hle (by omega)
    simp [ha] at hclosed
  | some d =>
    obtain ⟨hd, hdn, hopen, hmin⟩ := firstOpen_eq_some hf
    exact ⟨d, by rw [provisionalDue_of_candidate rs hp, hf, Option.some_or], ⟨hd, by omega, hopen⟩,
      fun k ⟨hk, _, hko⟩ => hmin k hk hko⟩

/-- No open day ahead: the backward search alone decides. -/
theorem provisionalDue_of_none_ahead (rs : RuleSet) {period day : Nat} (hp : day + period ≤ 65535)
    (h : ∀ d, ¬ (day + period ≤ d ∧ d ≤ day + period + 14 ∧ rs.opens d = true)) :
    rs.provisionalDue period day = rs.lastOpen day (period - 1) := by
  have hf : rs.firstOpen 15 (day + period) = none :=
    (firstOpen_eq_none_iff rs _ _).2 fun d hd hn => Bool.eq_false_iff.2 fun ho => h d ⟨hd, by omega, ho⟩
  rw [provisionalDue_of_candidate rs hp, hf, Option.none_or]

/-- An open day behind: the backward search finds the latest. -/
theorem lastOpen_behind (rs : RuleSet) {period day : Nat}
    (h : ∃ d, day < d ∧ d < day + period ∧ rs.opens d = true) :
    ∃ d, rs.lastOpen day (period - 1) = some d ∧ (day < d ∧ d < day + period ∧ rs.opens d = true) ∧
      ∀ k, day < k ∧ k < day + period ∧ rs.opens k = true → k ≤ d := by
  obtain ⟨b, hgt, hlt, hb⟩ := h
  cases hl : rs.lastOpen day (period - 1) with
  | none =>
    have hclosed := (lastOpen_eq_none_iff rs _ _).1 hl b hgt (by omega)
    simp [hb] at hclosed
  | some d =>
    obtain ⟨hd, hdn, hopen, hmax⟩ := lastOpen_eq_some hl
    exact ⟨d, rfl, ⟨hd, by omega, hopen⟩, fun k ⟨_, hk, hko⟩ => hmax k (by omega) hko⟩

theorem lastOpen_none_behind (rs : RuleSet) {period day : Nat}
    (h : ∀ d, ¬ (day < d ∧ d < day + period ∧ rs.opens d = true)) : rs.lastOpen day (period - 1) = none :=
  (lastOpen_eq_none_iff rs _ _).2 fun d hd hn => Bool.eq_false_iff.2 fun ho => h d ⟨hd, by omega, ho⟩

/-- Settles O55: the forward search decides where a day ahead is open, else the backward search does. -/
theorem provisionalDueDayIsTheRightOpenDay : Obligations.ProvisionalDueDayIsTheRightOpenDay := by
  intro rs period day
  refine ⟨opens_iff rs, provisionalDue_of_candidate_beyond rs, fun _ hp => ⟨?_, ?_, ?_⟩,
    dueDays_of_no_provisionalDue⟩
  · exact provisionalDue_ahead rs hp
  · intro hahead hbehind
    rw [provisionalDue_of_none_ahead rs hp hahead]
    exact lastOpen_behind rs hbehind
  · intro hahead hbehind
    rw [provisionalDue_of_none_ahead rs hp hahead]
    exact lastOpen_none_behind rs hbehind

/-! ## Fines of DAYS items (R57) -/

/-- The count is all the open days of the range, stopped at 400. -/
theorem countOpen_eq (rs : RuleSet) (n day count : Nat) (h : count ≤ 400) :
    rs.countOpen n day count =
      min 400 (count + ((List.range n).filter fun i => rs.opens (day + i)).length) := by
  induction n generalizing day count with
  | zero => simp [RuleSet.countOpen, h]
  | succ n ih =>
    obtain rfl | hlt := h.eq_or_lt
    · simp [RuleSet.countOpen]
    · have shift : (((List.range n).map Nat.succ).filter fun i => rs.opens (day + i)).length =
          ((List.range n).filter fun i => rs.opens (day + 1 + i)).length := by
        simp [List.filter_map, Function.comp_def, Nat.add_assoc, Nat.add_comm 1]
      rw [RuleSet.countOpen, if_neg (by omega), List.range_succ_eq_map]
      cases ho : rs.opens day with
      | true =>
        rw [List.filter_cons_of_pos (by simpa using ho), List.length_cons, shift, if_pos rfl, ih _ _ hlt]
        omega
      | false => rw [List.filter_cons_of_neg (by simpa using ho), shift, if_neg (by simp), ih _ _ h]

theorem fineDays_eq (rs : RuleSet) (r : ClassRule) (dueDay day : Nat) :
    rs.fineDays r dueDay day = min ((min 400
      ((List.range (day - dueDay)).filter fun i => rs.opens (dueDay + 1 + i)).length - r.grace) * r.rate) r.cap := by
  rw [RuleSet.fineDays, countOpen_eq _ _ _ _ (Nat.zero_le 400), Nat.zero_add]

theorem fineDays_not_overdue (rs : RuleSet) (r : ClassRule) {dueDay day : Nat} (h : day ≤ dueDay) :
    rs.fineDays r dueDay day = 0 := by
  simp [fineDays_eq, Nat.sub_eq_zero_of_le h]

theorem fineDays_le_cap (rs : RuleSet) (r : ClassRule) (dueDay day : Nat) : rs.fineDays r dueDay day ≤ r.cap :=
  min_le_right _ _

/-! ## Fines of HOURS items (R58) -/

theorem fineHours_not_overdue (r : ClassRule) {dueDay dueMinute day minute : Nat}
    (h : day < dueDay ∨ (day = dueDay ∧ minute ≤ dueMinute)) : fineHours r dueDay dueMinute day minute = 0 := by
  obtain hlt | ⟨rfl, hle⟩ := h
  · exact if_pos hlt
  · simp [fineHours, hle]

theorem fineHours_later_day (r : ClassRule) {dueDay day : Nat} (dueMinute minute : Nat) (h : dueDay < day) :
    fineHours r dueDay dueMinute day minute = r.cap := by
  simp [fineHours, h.not_gt, h.ne']

/-- Return on the due day within hour `h + 1` after the due minute: `h + 1` started hours. -/
theorem fineHours_due_day (r : ClassRule) (day : Nat) {dueMinute minute h : Nat}
    (hlo : 60 * h < minute - dueMinute) (hhi : minute - dueMinute ≤ 60 * (h + 1)) :
    fineHours r day dueMinute day minute = min ((h + 1) * r.rate) r.cap := by
  have overdue : ¬ minute ≤ dueMinute := by omega
  have started : (minute - dueMinute + 59) / 60 = h + 1 := by omega
  simp [fineHours, overdue, started]

theorem fineHours_le_cap (r : ClassRule) (dueDay dueMinute day minute : Nat) :
    fineHours r dueDay dueMinute day minute ≤ r.cap := by
  unfold fineHours
  split
  · exact Nat.zero_le _
  · split
    · split
      · exact Nat.zero_le _
      · exact min_le_right _ _
    · exact le_rfl

/-- Settles O57: the count of open days and the hours started, by the rules of each unit. -/
theorem finesChargeOpenDaysAndStartedHours : Obligations.FinesChargeOpenDaysAndStartedHours := by
  intro rs r dueDay dueMinute day minute
  refine ⟨fineDays_eq rs r dueDay day, fineDays_not_overdue rs r, fineHours_not_overdue r,
    fineHours_later_day r dueMinute minute, ?_, fineDays_le_cap rs r dueDay day,
    fineHours_le_cap r dueDay dueMinute day minute, ?_⟩
  · rintro h rfl hlo hhi
    exact fineHours_due_day r day hlo hhi
  · rintro c rfl
    rfl

end Sys2Proof.Proofs

/-! What every command keeps: the queue and the canonical form of the attached memory, and the capacities. -/

namespace Sys2Proof.Proofs
open Sys2Proof Sys2Proof.Machine

/-! ## The queue and the memory's canonical form -/

/-- From `s` to `t` the waiting commands stand, and a canonical memory stays canonical. -/
structure Keeps (s t : State) : Prop where
  queue : t.pending = s.pending
  canonical : s.memoryCanonical → t.memoryCanonical

theorem Keeps.refl (s : State) : Keeps s s := ⟨rfl, id⟩

theorem Keeps.trans {s t u : State} (h : Keeps s t) (h' : Keeps t u) : Keeps s u :=
  ⟨h'.queue.trans h.queue, h'.canonical ∘ h.canonical⟩

/-- Most operations leave the memory, the queue and the settings store as they are. -/
theorem Keeps.of_vault {s t : State} (h : t.vault = s.vault) : Keeps s t := by
  obtain ⟨hattached, hrest⟩ := Prod.mk.inj h
  obtain ⟨hpending, -⟩ := Prod.mk.inj hrest
  exact ⟨hpending, fun hs => by rwa [State.memoryCanonical, hattached]⟩

theorem Keeps.then_vault {s t u : State} (h : Keeps s t) (h' : u.vault = t.vault) : Keeps s u :=
  h.trans (.of_vault h')

theorem vault_of_base {s t : State} (h : t.base = s.base) : t.vault = s.vault := by rw [State.vault_eq, h]; rfl

theorem grant_vault (s : State) : s.grant.vault = s.vault := vault_of_base (State.grant_base s)

theorem latch_vault (s : State) (k : Nat) : (s.latch k).vault = s.vault := vault_of_base (State.latch_base s k)

theorem writeBytes_keeps (s : State) (a : Nat) (bs : List Byte) : Keeps s (s.writeBytes a bs) :=
  ⟨rfl, Memory.writeBytes_wf s.attached.cells a bs⟩

theorem header_keeps (s : State) (h : Header) :
    Keeps s (State.freePort { s with attached := { s.attached with header := h } }) := ⟨rfl, id⟩

theorem writeField_keeps (s : State) (f : HeaderField) (v : Nat) (good : Bool) : Keeps s (s.writeField f v good) :=
  ⟨rfl, id⟩

theorem writeFields_keeps (s : State) (fields : List (HeaderField × Nat)) (n : Nat) (torn : Bool) :
    Keeps s (s.writeFields fields n torn) := by
  induction fields generalizing s n with
  | nil => exact .refl s
  | cons field rest ih =>
    obtain ⟨f, v⟩ := field
    cases n with
    | zero => cases torn <;> exact ⟨rfl, id⟩
    | succ n =>
      have hcommit : Keeps s (s.commitField f v) := ⟨rfl, id⟩
      exact hcommit.trans (ih _ _)

theorem headerWrites_keeps {s t : State} {fields : List (HeaderField × Nat)} {e : HeaderEnd} {b : Bool}
    (h : s.headerWrites fields e = (t, b)) : Keeps s t := by
  obtain rfl : s.writeFields fields _ true = t := congrArg Prod.fst h
  exact writeFields_keeps ..

/-! ## Completions of writes -/

theorem appendVerified_keeps (s : State) (r : JournalRecord) : Keeps s (s.appendVerified r) := by
  refine ((writeField_keeps s .head (r.number + 1) true).trans
    (writeBytes_keeps _ (slotAddress r.number) r.bytes)).then_vault ?_
  unfold State.appendVerified
  dsimp only
  rw [grant_vault, State.vault_eq, State.appendDone_base]
  split
  · exact (State.vault_eq _).symm.trans (latch_vault _ _)
  · rfl

theorem appendEnd_keeps (s : State) (e : AppendEnd) : Keeps s (s.appendEnd e) := by
  unfold State.appendEnd
  split
  · split
    · exact appendVerified_keeps ..
    · exact (writeField_keeps ..).then_vault (State.memFault_vault _)
    · split
      · exact appendVerified_keeps ..
      · exact ((writeField_keeps ..).trans (writeBytes_keeps ..)).then_vault (State.memFault_vault _)
  · exact .refl s

theorem rollBeginEnd_keeps (s : State) (e : HeaderEnd) : Keeps s (s.rollBeginEnd e) := by
  unfold State.rollBeginEnd
  split
  · split
    · next h => exact (headerWrites_keeps h).then_vault (grant_vault _)
    · next h => exact (headerWrites_keeps h).then_vault (State.memFault_vault _)
  · exact .refl s

theorem chunkEnd_keeps (s : State) (e : BytesEnd) : Keeps s (s.chunkEnd e) := by
  unfold State.chunkEnd
  split
  · dsimp only
    split
    · exact (writeBytes_keeps ..).then_vault (grant_vault _)
    · split
      · exact (writeBytes_keeps ..).then_vault (grant_vault _)
      · exact (writeBytes_keeps ..).then_vault (State.memFault_vault _)
  · exact .refl s

theorem editionEnd_keeps (s : State) (e : HeaderEnd) : Keeps s (s.editionEnd e) := by
  unfold State.editionEnd
  split
  · split
    · next h =>
      exact (headerWrites_keeps h).then_vault ((grant_vault _).trans (State.newEdition_vault _))
    · next h => exact (headerWrites_keeps h).then_vault (State.memFault_vault _)
  · exact .refl s

theorem replayHeadEnd_keeps (s : State) (e : HeaderEnd) : Keeps s (s.replayHeadEnd e) := by
  unfold State.replayHeadEnd
  split
  · split
    · next h =>
      exact (headerWrites_keeps h).then_vault ((grant_vault _).trans (State.replayFrom_vault _ _))
    · next h => exact (headerWrites_keeps h).then_vault (State.memFault_vault _)
  · exact .refl s

theorem settle_vault (s : State) : s.settle.vault = s.vault :=
  vault_of_base (State.settle_base s)

theorem snapshotTaken_vault (s : State) : s.snapshotTaken.vault = s.vault :=
  vault_of_base (State.snapshotTaken_base s)

theorem marksMoved_vault (s : State) : s.marksMoved.vault = s.vault :=
  vault_of_base (State.marksMoved_base s)

theorem endSender_vault (s : State) (o : UploadOutcome) : (s.endSender o).vault = s.vault :=
  vault_of_base (State.endSender_base s o)

theorem snapshotEnd_keeps (s : State) (e : HeaderEnd) : Keeps s (s.snapshotEnd e) := by
  unfold State.snapshotEnd
  split
  · split
    · next h =>
      refine (headerWrites_keeps h).then_vault ((grant_vault _).trans ?_)
      split
      · exact settle_vault _
      · exact snapshotTaken_vault _
    · next h => exact (headerWrites_keeps h).then_vault (State.memFault_vault _)
  · exact .refl s

theorem moveMarksEnd_keeps (s : State) (e : HeaderEnd) : Keeps s (s.moveMarksEnd e) := by
  unfold State.moveMarksEnd
  split
  · dsimp only
    split
    · split
      · next h =>
        refine (headerWrites_keeps h).then_vault ((grant_vault _).trans ?_)
        split
        · exact settle_vault _
        · exact marksMoved_vault _
      · next h => exact (headerWrites_keeps h).then_vault (State.memFault_vault _)
    · refine .of_vault ((grant_vault _).trans ?_)
      split
      · exact settle_vault _
      · exact endSender_vault _ _
  · exact .refl s

theorem cycleDone_keeps (s : State) (e : SettingsEnd) : Keeps s (s.cycleDone e) := by
  unfold State.cycleDone
  split
  · exact .refl s
  · dsimp only
    repeat' split
    all_goals exact ⟨by simp [State.setReckoner], by simp [State.memoryCanonical, State.setReckoner]⟩

/-! ## Starts -/

theorem cutMemory_keeps (s : State) (c : Cut) : Keeps s (s.cutMemory c) := by
  unfold State.cutMemory
  split
  · exact .refl s
  · next r _ =>
    have hfields := writeFields_keeps s (s.opFields r.op) c.memWrites (decide (0 < c.memBytes))
    dsimp only
    split
    · split
      · exact hfields
      · exact hfields.trans (writeBytes_keeps ..)
    · exact hfields.trans (writeBytes_keeps ..)
    · split
      · exact hfields.trans ⟨rfl, id⟩
      · exact hfields
    · exact hfields

theorem keepRollBegin_keeps (s : State) : Keeps s s.keepRollBegin := by
  unfold State.keepRollBegin
  split <;> exact ⟨rfl, id⟩

theorem cutSettings_keeps (s : State) (c : Cut) : Keeps s (s.cutSettings c) := by
  unfold State.cutSettings
  split <;> exact ⟨rfl, id⟩

theorem resetBlocks_keeps (s : State) (cold : Bool) (x : ResetInputs) : Keeps s (s.resetBlocks cold x) :=
  (((cutMemory_keeps s x.cut).trans (keepRollBegin_keeps _)).trans (cutSettings_keeps _ x.cut)).trans ⟨rfl, id⟩

theorem settingsRead_vault (s : State) (strap : Bool) : (s.settingsRead strap).vault = s.vault := by
  unfold State.settingsRead
  dsimp only
  split
  · exact State.stationFault_vault _
  · rfl

theorem start_keeps (s : State) (cold : Bool) (x : ResetInputs) : Keeps s (s.start cold x) :=
  (resetBlocks_keeps s cold x).then_vault (settingsRead_vault ..)

/-- A release either makes the restart that WARM RESTART asked for, or closes the frame. -/
theorem release_cases (s : State) (begun : Bool) (x : ResetInputs) :
    s.release begun x = s.start false x ∨
      ∃ latched, s.release begun x = { s with port := { s.port with frame := .closed, errorLatch := latched } } := by
  unfold State.release
  generalize (match s.port.frame with
    | .opened => true
    | .further => begun
    | .answering .none => begun
    | _ => false) = short
  dsimp only
  split
  · exact .inl rfl
  · exact .inr ⟨_, rfl⟩

theorem release_keeps (s : State) (begun : Bool) (x : ResetInputs) : Keeps s (s.release begun x) := by
  obtain h | ⟨latched, h⟩ := release_cases s begun x <;> rw [h]
  · exact start_keeps ..
  · exact ⟨rfl, id⟩

theorem headerDone_vault (s : State) : s.headerDone.vault = s.vault := by
  unfold State.headerDone
  split
  · split
    · rfl
    · split
      · exact (grant_vault _).trans (State.startReplay_vault _)
      · exact State.memFault_vault _
  · rfl

theorem headerRead_vault (s : State) : s.headerRead.vault = s.vault := by
  unfold State.headerRead
  split
  · exact headerDone_vault s
  · exact (headerDone_vault _).trans (settingsRead_vault ..)

theorem freshHeaderEnd_keeps (s : State) (e : HeaderEnd) : Keeps s (s.freshHeaderEnd e) := by
  unfold State.freshHeaderEnd
  split
  · dsimp only
    have hfields := writeFields_keeps s (s.opFields .freshHeader)
      (HeaderEnd.good e ((s.opFields .freshHeader).length + 1)) true
    split
    · exact (hfields.trans (header_keeps ..)).then_vault ((grant_vault _).trans (State.startReplay_vault _))
    · exact hfields.then_vault (State.memFault_vault _)
  · exact .refl s

/-! ## Every command -/

/-- Every command ends in a next state that keeps the queue and the memory's form. -/
theorem exec_keeps (c : Instr) (s : State) : ∃ t, exec c s = .next t ∧ Keeps s t := by
  cases c with
  | coldStart inputs => exact ⟨_, rfl, start_keeps s true inputs⟩
  | headerReadComplete => exact ⟨_, rfl, .of_vault (headerRead_vault s)⟩
  | freshHeaderWriteComplete result => exact ⟨_, rfl, freshHeaderEnd_keeps s result⟩
  | appendComplete result => exact ⟨_, rfl, appendEnd_keeps s result⟩
  | rollBeginWriteComplete result => exact ⟨_, rfl, rollBeginEnd_keeps s result⟩
  | chunkWriteComplete result => exact ⟨_, rfl, chunkEnd_keeps s result⟩
  | editionWriteComplete result => exact ⟨_, rfl, editionEnd_keeps s result⟩
  | replayHeadWriteComplete result => exact ⟨_, rfl, replayHeadEnd_keeps s result⟩
  | takeSnapshotComplete result => exact ⟨_, rfl, snapshotEnd_keeps s result⟩
  | moveMarksComplete result => exact ⟨_, rfl, moveMarksEnd_keeps s result⟩
  | selectRelease begun inputs => exact ⟨_, rfl, release_keeps s begun inputs⟩
  | settingsWriteComplete result => exact ⟨_, rfl, cycleDone_keeps s result⟩
  | levelChange wand ticks =>
    refine ⟨_, rfl, ?_⟩
    split
    · exact .of_vault (State.levelChanges_vault s wand ticks)
    · exact .refl s
  | quietZoneReached wand =>
    refine ⟨_, rfl, ?_⟩
    split
    · exact .of_vault (State.quietZone_vault s wand)
    · exact .refl s
  | decodeComplete => exact ⟨_, rfl, .of_vault (State.decodeDone_vault s)⟩
  | agreementTimerExpiry wand =>
    refine ⟨_, rfl, ?_⟩
    split
    · exact .of_vault (State.mapWand_vault s wand _)
    · exact .refl s
  | toneEnd wand =>
    exact ⟨_, rfl, .of_vault (State.mapWand_vault s wand _)⟩
  | laneMode lane mode =>
    exact ⟨_, rfl, .of_vault (State.take_vault s 0 _ (withLane_vault _ _ _ (fun l s => laneModeCommand_vault l mode s)))⟩
  | keyedEntry lane count digits =>
    exact ⟨_, rfl, .of_vault (State.take_vault s 0 _ (withLane_vault _ _ _ (fun l s => keyedEntryCommand_vault l count digits s)))⟩
  | endSession lane =>
    exact ⟨_, rfl, .of_vault (State.take_vault s 0 _ (withLane_vault _ _ _ (fun l s => endSessionCommand_vault l s)))⟩
  | sessionIdleTimerExpiry lane => exact ⟨_, rfl, .of_vault (State.idleExpired_vault s lane)⟩
  | cancel lane =>
    exact ⟨_, rfl, .of_vault (State.take_vault s 0 _ (withLane_vault _ _ _ (fun l s => cancelCommand_vault l s)))⟩
  | readResult lane =>
    exact ⟨_, rfl, .of_vault (State.take_vault s 36 _ (withLane_vault _ _ _ (fun l s => readResultCommand_vault l s)))⟩
  | block borrower reason =>
    exact ⟨_, rfl, .of_vault (State.take_vault s 0 _ (withNumber_vault _ _ _ (fun b s => blockCommand_vault .block reason b s)))⟩
  | lift borrower reason =>
    exact ⟨_, rfl, .of_vault (State.take_vault s 0 _ (withNumber_vault _ _ _ (fun b s => blockCommand_vault .lift reason b s)))⟩
  | payment borrower amount =>
    exact ⟨_, rfl, .of_vault (State.take_vault s 0 _ (withNumber_vault _ _ _ (fun b s => paymentCommand_vault amount.toNat b s)))⟩
  | blockWaitExpiry lane => exact ⟨_, rfl, .of_vault (State.blockWaitExpired_vault s lane)⟩
  | trapWaitExpiry lane => exact ⟨_, rfl, .of_vault (State.trapWaitExpired_vault s lane)⟩
  | rollLookupComplete => exact ⟨_, rfl, .of_vault (State.rollLookupDone_vault s)⟩
  | loansListLookupComplete => exact ⟨_, rfl, .of_vault (State.loansLookupDone_vault s)⟩
  | holdLookupComplete => exact ⟨_, rfl, .of_vault (State.holdLookupDone_vault s)⟩
  | rollBegin => exact ⟨_, rfl, .of_vault (State.take_vault s 0 _ (fun s => rollBeginCommand_vault s))⟩
  | rollChunk list first count entries => exact ⟨_, rfl, .of_vault (State.take_vault s 4 _ (fun s => chunkCommand_vault _ _ _ _ s))⟩
  | rollEnd edition roll loans holds => exact ⟨_, rfl, .of_vault (State.take_vault s 5 _ (fun s => rollEndCommand_vault _ _ _ _ s))⟩
  | journalQuery field comparison value step => exact ⟨_, rfl, .of_vault (State.take_vault s 4 _ (fun s => journalQueryCommand_vault _ _ _ _ s))⟩
  | queryReadComplete => exact ⟨_, rfl, .of_vault (State.queryReadDone_vault s)⟩
  | queryNext => exact ⟨_, rfl, .of_vault (State.take_vault s 33 _ (fun s => queryNextCommand_vault s))⟩
  | replayLastRecordRead => exact ⟨_, rfl, .of_vault (State.replayLastDone_vault s)⟩
  | replayReadComplete => exact ⟨_, rfl, .of_vault (State.replayReadDone_vault s)⟩
  | minimumTimerExpiry =>
    refine ⟨_, rfl, ?_⟩
    split
    · exact .of_vault (State.testReady_vault { s with minimumTimer := none })
    · exact .refl s
  | quietTimerExpiry =>
    refine ⟨_, rfl, ?_⟩
    split
    · exact .of_vault (State.testReady_vault { s with quietTimer := none })
    · exact .refl s
  | uploadReadComplete => exact ⟨_, rfl, .of_vault (State.uploadReadDone_vault s)⟩
  | frameStart => exact ⟨_, rfl, .of_vault (State.carrierBegins_vault s)⟩
  | lineIdle => exact ⟨_, rfl, .of_vault (State.lineQuiet_vault s)⟩
  | transmitStart slots => exact ⟨_, rfl, .of_vault (State.startSending_vault s slots)⟩
  | lineLost => exact ⟨_, rfl, .of_vault (State.lineLost_vault s)⟩
  | transmitComplete => exact ⟨_, rfl, .of_vault (State.sendComplete_vault s)⟩
  | frameEnd frame => exact ⟨_, rfl, .of_vault (State.frameEnded_vault s frame)⟩
  | presenceTimerExpiry =>
    refine ⟨_, rfl, ?_⟩
    split
    · exact .of_vault (vault_of_base ((State.handPresence_base _).trans (State.base_line s _)))
    · exact .refl s
  | absenceTimerExpiry station => exact ⟨_, rfl, .of_vault (State.peerAbsent_vault s station.val)⟩
  | resumeLine => exact ⟨_, rfl, .of_vault (State.take_vault s 0 _ (fun s => resumeLineCommand_vault s))⟩
  | readPeer station => exact ⟨_, rfl, .of_vault (State.take_vault s 11 _ (fun s => readPeerCommand_vault _ s))⟩
  | secondTick => exact ⟨_, rfl, .of_vault (State.countSecond_vault s)⟩
  | setClock day minute second => exact ⟨_, rfl, .of_vault (State.take_vault s 0 _ (fun s => setClockCommand_vault _ _ _ s))⟩
  | uploadNow => exact ⟨_, rfl, .of_vault (State.take_vault s 0 _ (fun s => uploadNowCommand_vault s))⟩
  | callTimerExpiry => exact ⟨_, rfl, .of_vault (vault_of_base (State.callExpiry_base s))⟩
  | senderBeginTimerExpiry => exact ⟨_, rfl, .of_vault (vault_of_base (State.senderBeginExpiry_base s))⟩
  | receiptTimerExpiry => exact ⟨_, rfl, .of_vault (vault_of_base (State.receiptExpiry_base s))⟩
  | handAgainTimerExpiry => exact ⟨_, rfl, .of_vault (vault_of_base (State.handAgain_base s))⟩
  | gatewayBeginTimerExpiry => exact ⟨_, rfl, .of_vault (vault_of_base (State.gatewayBeginExpiry_base s))⟩
  | silenceTimerExpiry station => exact ⟨_, rfl, .of_vault (vault_of_base (State.gatewaySilence_base s station.val))⟩
  | uplinkSendComplete => exact ⟨_, rfl, .of_vault (vault_of_base (State.uplinkSent_base s))⟩
  | uplinkMessageReceived bytes => exact ⟨_, rfl, .of_vault (vault_of_base (State.uplinkReceived_base s bytes))⟩
  | answerTimerExpiry => exact ⟨_, rfl, .of_vault (vault_of_base (State.answerExpiry_base s))⟩
  | warmTimerExpiry => exact ⟨_, rfl, .of_vault (State.warmed_vault s)⟩
  | unloadTimerExpiry => exact ⟨_, rfl, .of_vault (State.unloaded_vault s)⟩
  | printComplete => exact ⟨_, rfl, .of_vault (State.printed_vault s)⟩
  | printerSensorAccepted level => exact ⟨_, rfl, .of_vault (State.sensed_vault s level)⟩
  | alignStep mark => exact ⟨_, rfl, .of_vault (State.alignOne_vault s mark)⟩
  | padSensorAccepted pad present => exact ⟨_, rfl, .of_vault (State.padSensed_vault s pad present)⟩
  | padPulseEnd pad => exact ⟨_, rfl, .of_vault (State.pulseEnded_vault s pad)⟩
  | selectActive => exact ⟨_, rfl, .of_vault (State.openFrame_vault s)⟩
  | errorState command =>
    refine ⟨_, rfl, ?_⟩
    split
    · exact .of_vault (State.badCommand_vault s)
    · exact .refl s
  | answerComplete => exact ⟨_, rfl, .of_vault (State.answered_vault s)⟩
  | identify => exact ⟨_, rfl, .of_vault (State.take_vault s 6 _ (fun s => identifyCommand_vault s))⟩
  | readStatus => exact ⟨_, rfl, .of_vault (State.take_vault s 37 _ (fun s => readStatusCommand_vault s))⟩
  | takeAttention => exact ⟨_, rfl, .of_vault (State.take_vault s 1 _ (fun s => takeAttentionCommand_vault s))⟩
  | setEnables enables => exact ⟨_, rfl, .of_vault (State.take_vault s 0 _ (fun s => setEnablesCommand_vault _ s))⟩
  | inquireBorrower borrower =>
    exact ⟨_, rfl, .of_vault (State.take_vault s 37 _ (withNumber_vault _ _ _ (fun b s => inquireBorrowerCommand_vault b s)))⟩
  | inquireItem item =>
    exact ⟨_, rfl, .of_vault (State.take_vault s 27 _ (withNumber_vault _ _ _ (fun b s => inquireItemCommand_vault b s)))⟩
  | stageRuleDiscard =>
    exact ⟨_, rfl, .of_vault (State.take_vault s 1 _ (stageCommand_vault _ (fun s => discardStaged_vault s)))⟩
  | stageRuleClass cls unit period rate cap grace renewLimit =>
    exact ⟨_, rfl, .of_vault (State.take_vault s 1 _ (stageCommand_vault _ (fun s => stagePart_vault _ s)))⟩
  | stageRuleCategory category limit mask =>
    exact ⟨_, rfl, .of_vault (State.take_vault s 1 _ (stageCommand_vault _ (fun s => stagePart_vault _ s)))⟩
  | stageRuleHours weekday opening closing =>
    exact ⟨_, rfl, .of_vault (State.take_vault s 1 _ (stageCommand_vault _ (fun s => stagePart_vault _ s)))⟩
  | stageRuleClosure mask =>
    exact ⟨_, rfl, .of_vault (State.take_vault s 1 _ (stageCommand_vault _ (fun s => stagePart_vault _ s)))⟩
  | stageRuleHolidayAdd day =>
    exact ⟨_, rfl, .of_vault (State.take_vault s 1 _ (stageCommand_vault _ (fun s => holidayAdd_vault _ s)))⟩
  | stageRuleHolidayRemove day =>
    exact ⟨_, rfl, .of_vault (State.take_vault s 1 _ (stageCommand_vault _ (fun s => stagePart_vault _ s)))⟩
  | stageRuleWindow warning blocking =>
    exact ⟨_, rfl, .of_vault (State.take_vault s 1 _ (stageCommand_vault _ (fun s => stagePart_vault _ s)))⟩
  | stageRuleUploadMinute minute =>
    exact ⟨_, rfl, .of_vault (State.take_vault s 1 _ (stageCommand_vault _ (fun s => stagePart_vault _ s)))⟩
  | applyNow =>
    exact ⟨_, rfl, .of_vault (State.take_vault s 0 _ (settingsCommand_vault _ _ (fun s => applyNowCommand_vault s)))⟩
  | readSetting number =>
    exact ⟨_, rfl, .of_vault (State.take_vault s 4 _ (settingsCommand_vault _ _ (fun s => readSettingCommand_vault _ s)))⟩
  | writeSetting number value =>
    exact ⟨_, rfl, .of_vault (State.take_vault s 0 _ (settingsCommand_vault _ _ (fun s => writeSettingCommand_vault _ _ s)))⟩
  | commitSettings =>
    exact ⟨_, rfl, .of_vault (State.take_vault s 0 _ (settingsCommand_vault _ _ (fun s => commitSettingsCommand_vault s)))⟩
  | warmRestart => exact ⟨_, rfl, .of_vault (State.takeWarmRestart_vault s)⟩
  | stageRuleBadPartCode code =>
    refine ⟨_, rfl, ?_⟩
    split
    · exact .of_vault (State.take_vault s 1 _ (stageCommand_vault _ (fun s => stagePart_vault _ s)))
    · exact .refl s

theorem pending_of_exec {c : Instr} {s t : State} (h : exec c s = .next t) : t.pending = s.pending := by
  obtain ⟨u, hu, hk⟩ := exec_keeps c s
  obtain rfl : u = t := by simpa [hu] using h
  exact hk.queue

theorem memoryCanonical_of_exec {c : Instr} {s t : State} (hs : s.memoryCanonical) (h : exec c s = .next t) :
    t.memoryCanonical := by
  obtain ⟨u, hu, hk⟩ := exec_keeps c s
  obtain rfl : u = t := by simpa [hu] using h
  exact hk.canonical hs

/-- A step either idles or runs the front command on the rest of the queue. -/
theorem step_cases {s t : State} (h : step s = .next t) :
    t = s ∨ ∃ c rest, s.pending = c :: rest ∧ exec c { s with pending := rest } = .next t := by
  unfold step at h
  split at h
  · exact .inl (by simpa using h.symm)
  · next c rest hp => exact .inr ⟨c, rest, hp, h⟩

/-! ## Capacities -/

/-- Every command ends in a next state within the capacities. -/
theorem exec_within (c : Instr) (s : State) (hs : s.within) : ∃ t, exec c s = .next t ∧ t.within := by
  cases c with
  | coldStart inputs => exact ⟨_, rfl, State.start_within s true inputs hs⟩
  | headerReadComplete => exact ⟨_, rfl, State.headerRead_within s hs⟩
  | freshHeaderWriteComplete result => exact ⟨_, rfl, State.freshHeaderEnd_within s result hs⟩
  | levelChange wand ticks =>
    refine ⟨_, rfl, ?_⟩
    split
    · exact State.levelChanges_within s wand ticks hs
    · exact hs
  | quietZoneReached wand =>
    refine ⟨_, rfl, ?_⟩
    split
    · exact State.quietZone_within s wand hs
    · exact hs
  | decodeComplete => exact ⟨_, rfl, State.decodeDone_within s hs⟩
  | agreementTimerExpiry wand =>
    refine ⟨_, rfl, ?_⟩
    split
    · exact State.mapWand_within s wand _ (State.wand_within s wand hs) hs
    · exact hs
  | toneEnd wand =>
    exact ⟨_, rfl, State.mapWand_within s wand _ (State.wand_within s wand hs) hs⟩
  | laneMode lane mode =>
    exact ⟨_, rfl, State.take_within s 0 _ (withLane_within _ _ _ (fun l s hs => laneModeCommand_within l mode s hs)) hs⟩
  | keyedEntry lane count digits =>
    exact ⟨_, rfl, State.take_within s 0 _ (withLane_within _ _ _ (fun l s hs => keyedEntryCommand_within l count digits s hs)) hs⟩
  | endSession lane =>
    exact ⟨_, rfl, State.take_within s 0 _ (withLane_within _ _ _ (fun l s hs => endSessionCommand_within l s hs)) hs⟩
  | sessionIdleTimerExpiry lane => exact ⟨_, rfl, State.idleExpired_within s lane hs⟩
  | cancel lane =>
    exact ⟨_, rfl, State.take_within s 0 _ (withLane_within _ _ _ (fun l s hs => cancelCommand_within l s hs)) hs⟩
  | readResult lane =>
    exact ⟨_, rfl, State.take_within s 36 _ (withLane_within _ _ _ (fun l s hs => readResultCommand_within l s hs)) hs⟩
  | block borrower reason =>
    exact ⟨_, rfl, State.take_within s 0 _ (withNumber_within _ _ _ (fun b s hs => blockCommand_within .block reason b s hs)) hs⟩
  | lift borrower reason =>
    exact ⟨_, rfl, State.take_within s 0 _ (withNumber_within _ _ _ (fun b s hs => blockCommand_within .lift reason b s hs)) hs⟩
  | payment borrower amount =>
    exact ⟨_, rfl, State.take_within s 0 _ (withNumber_within _ _ _ (fun b s hs => paymentCommand_within amount.toNat b s hs)) hs⟩
  | blockWaitExpiry lane => exact ⟨_, rfl, State.blockWaitExpired_within s lane hs⟩
  | trapWaitExpiry lane => exact ⟨_, rfl, State.trapWaitExpired_within s lane hs⟩
  | rollLookupComplete => exact ⟨_, rfl, State.rollLookupDone_within s hs⟩
  | loansListLookupComplete => exact ⟨_, rfl, State.loansLookupDone_within s hs⟩
  | holdLookupComplete => exact ⟨_, rfl, State.holdLookupDone_within s hs⟩
  | appendComplete result => exact ⟨_, rfl, State.appendEnd_within s result hs⟩
  | rollBegin => exact ⟨_, rfl, State.take_within s 0 _ (fun s hs => rollBeginCommand_within s hs) hs⟩
  | rollBeginWriteComplete result => exact ⟨_, rfl, State.rollBeginEnd_within s result hs⟩
  | rollChunk list first count entries => exact ⟨_, rfl, State.take_within s 4 _ (fun s hs => chunkCommand_within _ _ _ _ s hs) hs⟩
  | chunkWriteComplete result => exact ⟨_, rfl, State.chunkEnd_within s result hs⟩
  | rollEnd edition roll loans holds => exact ⟨_, rfl, State.take_within s 5 _ (fun s hs => rollEndCommand_within _ _ _ _ s hs) hs⟩
  | editionWriteComplete result => exact ⟨_, rfl, State.editionEnd_within s result hs⟩
  | journalQuery field comparison value step => exact ⟨_, rfl, State.take_within s 4 _ (fun s hs => journalQueryCommand_within _ _ _ _ s hs) hs⟩
  | queryReadComplete => exact ⟨_, rfl, State.queryReadDone_within s hs⟩
  | queryNext => exact ⟨_, rfl, State.take_within s 33 _ (fun s hs => queryNextCommand_within s hs) hs⟩
  | replayLastRecordRead => exact ⟨_, rfl, State.replayLastDone_within s hs⟩
  | replayHeadWriteComplete result => exact ⟨_, rfl, State.replayHeadEnd_within s result hs⟩
  | replayReadComplete => exact ⟨_, rfl, State.replayReadDone_within s hs⟩
  | minimumTimerExpiry =>
    refine ⟨_, rfl, ?_⟩
    split
    · exact State.testReady_within _ (State.within_minimumTimer s none hs)
    · exact hs
  | quietTimerExpiry =>
    refine ⟨_, rfl, ?_⟩
    split
    · exact State.testReady_within _ (State.within_quietTimer s none hs)
    · exact hs
  | uploadReadComplete => exact ⟨_, rfl, State.uploadReadDone_within s hs⟩
  | takeSnapshotComplete result => exact ⟨_, rfl, State.snapshotEnd_within s result hs⟩
  | moveMarksComplete result => exact ⟨_, rfl, State.moveMarksEnd_within s result hs⟩
  | frameStart => exact ⟨_, rfl, State.carrierBegins_within s hs⟩
  | lineIdle => exact ⟨_, rfl, State.lineQuiet_within s hs⟩
  | transmitStart slots => exact ⟨_, rfl, State.startSending_within s slots hs⟩
  | lineLost => exact ⟨_, rfl, State.lineLost_within s hs⟩
  | transmitComplete => exact ⟨_, rfl, State.sendComplete_within s hs⟩
  | frameEnd frame => exact ⟨_, rfl, State.frameEnded_within s frame hs⟩
  | presenceTimerExpiry =>
    refine ⟨_, rfl, ?_⟩
    split
    · exact State.handPresence_within _ (State.mapLine_within s _ { hs.line with } hs)
    · exact hs
  | absenceTimerExpiry station => exact ⟨_, rfl, State.peerAbsent_within s station.val hs⟩
  | resumeLine => exact ⟨_, rfl, State.take_within s 0 _ (fun s hs => resumeLineCommand_within s hs) hs⟩
  | readPeer station => exact ⟨_, rfl, State.take_within s 11 _ (fun s hs => readPeerCommand_within _ s hs) hs⟩
  | secondTick => exact ⟨_, rfl, State.countSecond_within s hs⟩
  | setClock day minute second => exact ⟨_, rfl, State.take_within s 0 _ (fun s hs => setClockCommand_within _ _ _ s hs) hs⟩
  | uploadNow => exact ⟨_, rfl, State.take_within s 0 _ (fun s hs => uploadNowCommand_within s hs) hs⟩
  | callTimerExpiry => exact ⟨_, rfl, State.callExpiry_within s hs⟩
  | senderBeginTimerExpiry => exact ⟨_, rfl, State.senderBeginExpiry_within s hs⟩
  | receiptTimerExpiry => exact ⟨_, rfl, State.receiptExpiry_within s hs⟩
  | handAgainTimerExpiry => exact ⟨_, rfl, State.handAgain_within s hs⟩
  | gatewayBeginTimerExpiry => exact ⟨_, rfl, State.gatewayBeginExpiry_within s hs⟩
  | silenceTimerExpiry station => exact ⟨_, rfl, State.gatewaySilence_within s station.val hs⟩
  | uplinkSendComplete => exact ⟨_, rfl, State.uplinkSent_within s hs⟩
  | uplinkMessageReceived bytes => exact ⟨_, rfl, State.uplinkReceived_within s bytes hs⟩
  | answerTimerExpiry => exact ⟨_, rfl, State.answerExpiry_within s hs⟩
  | warmTimerExpiry => exact ⟨_, rfl, State.warmed_within s hs⟩
  | unloadTimerExpiry => exact ⟨_, rfl, State.unloaded_within s hs⟩
  | printComplete => exact ⟨_, rfl, State.printed_within s hs⟩
  | printerSensorAccepted level => exact ⟨_, rfl, State.sensed_within s level hs⟩
  | alignStep mark => exact ⟨_, rfl, State.alignOne_within s mark hs⟩
  | padSensorAccepted pad present => exact ⟨_, rfl, State.padSensed_within s pad present hs⟩
  | padPulseEnd pad => exact ⟨_, rfl, State.pulseEnded_within s pad hs⟩
  | selectActive => exact ⟨_, rfl, State.openFrame_within s hs⟩
  | errorState command =>
    refine ⟨_, rfl, ?_⟩
    split
    · exact State.badCommand_within s hs
    · exact hs
  | answerComplete => exact ⟨_, rfl, State.answered_within s hs⟩
  | selectRelease begun inputs => exact ⟨_, rfl, State.release_within s begun inputs hs⟩
  | identify => exact ⟨_, rfl, State.take_within s 6 _ (fun s hs => identifyCommand_within s hs) hs⟩
  | readStatus => exact ⟨_, rfl, State.take_within s 37 _ (fun s hs => readStatusCommand_within s hs) hs⟩
  | takeAttention => exact ⟨_, rfl, State.take_within s 1 _ (fun s hs => takeAttentionCommand_within s hs) hs⟩
  | setEnables enables => exact ⟨_, rfl, State.take_within s 0 _ (fun s hs => setEnablesCommand_within _ s hs) hs⟩
  | inquireBorrower borrower =>
    exact ⟨_, rfl, State.take_within s 37 _ (withNumber_within _ _ _ (fun b s hs => inquireBorrowerCommand_within b s hs)) hs⟩
  | inquireItem item =>
    exact ⟨_, rfl, State.take_within s 27 _ (withNumber_within _ _ _ (fun b s hs => inquireItemCommand_within b s hs)) hs⟩
  | stageRuleDiscard =>
    exact ⟨_, rfl, State.take_within s 1 _ (stageCommand_within _ (fun s hs => discardStaged_within s hs)) hs⟩
  | stageRuleClass cls unit period rate cap grace renewLimit =>
    exact ⟨_, rfl, State.take_within s 1 _ (stageCommand_within _ (fun s hs => stagePart_within _ s hs)) hs⟩
  | stageRuleCategory category limit mask =>
    exact ⟨_, rfl, State.take_within s 1 _ (stageCommand_within _ (fun s hs => stagePart_within _ s hs)) hs⟩
  | stageRuleHours weekday opening closing =>
    exact ⟨_, rfl, State.take_within s 1 _ (stageCommand_within _ (fun s hs => stagePart_within _ s hs)) hs⟩
  | stageRuleClosure mask =>
    exact ⟨_, rfl, State.take_within s 1 _ (stageCommand_within _ (fun s hs => stagePart_within _ s hs)) hs⟩
  | stageRuleHolidayAdd day =>
    exact ⟨_, rfl, State.take_within s 1 _ (stageCommand_within _ (fun s hs => holidayAdd_within _ s hs)) hs⟩
  | stageRuleHolidayRemove day =>
    exact ⟨_, rfl, State.take_within s 1 _ (stageCommand_within _ (fun s hs => stagePart_within _ s hs)) hs⟩
  | stageRuleWindow warning blocking =>
    exact ⟨_, rfl, State.take_within s 1 _ (stageCommand_within _ (fun s hs => stagePart_within _ s hs)) hs⟩
  | stageRuleUploadMinute minute =>
    exact ⟨_, rfl, State.take_within s 1 _ (stageCommand_within _ (fun s hs => stagePart_within _ s hs)) hs⟩
  | applyNow =>
    exact ⟨_, rfl, State.take_within s 0 _ (settingsCommand_within _ _ (fun s hs => applyNowCommand_within s hs)) hs⟩
  | readSetting number =>
    exact ⟨_, rfl, State.take_within s 4 _ (settingsCommand_within _ _ (fun s hs => readSettingCommand_within _ s hs)) hs⟩
  | writeSetting number value =>
    exact ⟨_, rfl, State.take_within s 0 _ (settingsCommand_within _ _ (fun s hs => writeSettingCommand_within _ _ s hs)) hs⟩
  | commitSettings =>
    exact ⟨_, rfl, State.take_within s 0 _ (settingsCommand_within _ _ (fun s hs => commitSettingsCommand_within s hs)) hs⟩
  | settingsWriteComplete result => exact ⟨_, rfl, State.cycleDone_within s result hs⟩
  | warmRestart => exact ⟨_, rfl, State.takeWarmRestart_within s hs⟩
  | stageRuleBadPartCode code =>
    refine ⟨_, rfl, ?_⟩
    split
    · exact State.take_within s 1 _ (stageCommand_within _ (fun s hs => stagePart_within _ s hs)) hs
    · exact hs

theorem within_of_exec {c : Instr} {s t : State} (hs : s.within) (h : exec c s = .next t) : t.within := by
  obtain ⟨u, hu, hw⟩ := exec_within c s hs
  obtain rfl : u = t := by simpa [hu] using h
  exact hw

/-! ## The statements -/

/-- Settles O1. -/
theorem stepRunsTheFrontCommand : Obligations.StepRunsTheFrontCommand := fun _ _ => rfl

/-- Settles O2, from what every command keeps. -/
theorem execLeavesTheQueue : Obligations.ExecLeavesTheQueue := fun _ _ _ h => pending_of_exec h

/-- Settles O3: taking the command from the queue and running it both keep the form. -/
theorem stepKeepsMemoryCanonical : Obligations.StepKeepsMemoryCanonical := by
  intro s t hs h
  obtain rfl | ⟨c, rest, -, hc⟩ := step_cases h
  · exact hs
  · exact memoryCanonical_of_exec (s := { s with pending := rest }) hs hc

/-- Settles O4: taking the command from the queue and running it both keep the capacities. -/
theorem stepKeepsTablesWithinCapacity : Obligations.StepKeepsTablesWithinCapacity := by
  intro s t hs h
  obtain rfl | ⟨c, rest, -, hc⟩ := step_cases h
  · exact hs
  · exact within_of_exec (State.within_pending s rest hs) hc

/-- The blocks at power-on are within their capacities. -/
theorem reset_within : State.reset.within where
  line := LineCtl.reset_within
  standing := Standing.reset_within
  traps := by decide
  slips := SlipUnit.reset_within
  upload := fun _ h => by cases h
  wand0 := by decide
  wand1 := by decide
  overlay := by decide

/-- Settles O5. -/
theorem resetHoldsTheInvariants : Obligations.ResetHoldsTheInvariants := by
  refine ⟨State.reset_memory_wf, reset_within, rfl, rfl, ?_, rfl, rfl, rfl⟩
  intro l
  cases l <;> exact ⟨rfl, rfl⟩

end Sys2Proof.Proofs

/-! Numbers and flags as bytes, and the places of bytes in an answer or a record (sections 4.2, 7.6, 10.2). -/

namespace Sys2Proof.Proofs
open Sys2Proof Sys2Proof.Machine

/-! ## One byte -/

@[simp] theorem toNat_byteOf (x : Nat) : (byteOf x).toNat = x % 256 := BitVec.toNat_ofNat x 8

/-! ## Numbers as bytes -/

@[simp] theorem length_bytesOf (n x : Nat) : (bytesOf n x).length = n := by
  induction n with
  | zero => rfl
  | succ n ih => rw [bytesOf, List.length_cons, ih]

@[simp] theorem length_bytesOfInt (n : Nat) (x : Int) : (bytesOfInt n x).length = n := length_bytesOf ..

@[simp] theorem length_packNumber (x : Nat) : (packNumber x).length = 6 := by simp [packNumber]

theorem natOf_foldl (bs : List Byte) (acc : Nat) :
    bs.foldl (fun acc b => acc * 256 + b.toNat) acc = acc * 256 ^ bs.length + natOf bs := by
  induction bs generalizing acc with
  | nil => simp [natOf]
  | cons b bs ih =>
    rw [natOf, List.foldl_cons, List.foldl_cons, ih, ih, List.length_cons]
    ring

theorem natOf_cons (b : Byte) (bs : List Byte) : natOf (b :: bs) = b.toNat * 256 ^ bs.length + natOf bs := by
  rw [natOf, List.foldl_cons, natOf_foldl]
  simp

@[simp] theorem natOf_bytesOf (n x : Nat) : natOf (bytesOf n x) = x % 256 ^ n := by
  induction n with
  | zero => simp [bytesOf, natOf, Nat.mod_one]
  | succ n ih =>
    rw [bytesOf, natOf_cons, ih, length_bytesOf, toNat_byteOf, pow_succ, Nat.mod_mul]
    ring

theorem bytesOf_zero (n : Nat) : bytesOf n 0 = List.replicate n 0#8 := by
  induction n with
  | zero => rfl
  | succ n ih => rw [bytesOf, ih, Nat.zero_div]; rfl

/-! ## Bytes at their places -/

@[simp] theorem length_bytesAt (bs : List Byte) (i n : Nat) : (bytesAt bs i n).length = n := by simp [bytesAt]

theorem bytesAt_append_left {a b : List Byte} {i n : Nat} (h : i + n ≤ a.length) :
    bytesAt (a ++ b) i n = bytesAt a i n := by
  refine List.map_congr_left fun k hk => ?_
  rw [List.getElem?_append_left (by have := List.mem_range.1 hk; omega)]

theorem bytesAt_append_right {a b : List Byte} {i n : Nat} (h : a.length ≤ i) :
    bytesAt (a ++ b) i n = bytesAt b (i - a.length) n := by
  refine List.map_congr_left fun k _ => ?_
  rw [List.getElem?_append_right (by omega), show i + k - a.length = i - a.length + k by omega]

theorem bytesAt_cons_succ (b : Byte) (bs : List Byte) (i n : Nat) :
    bytesAt (b :: bs) (i + 1) n = bytesAt bs i n := by
  refine List.map_congr_left fun k _ => ?_
  rw [show i + 1 + k = i + k + 1 by omega, List.getElem?_cons_succ]

theorem bytesAt_cons_one (b : Byte) (bs : List Byte) : bytesAt (b :: bs) 0 1 = [b] := rfl

/-- All the bytes, from the first on. -/
theorem bytesAt_all {bs : List Byte} {n : Nat} (h : bs.length = n) : bytesAt bs 0 n = bs := by
  subst h
  refine List.ext_getElem (by simp) fun k _ hk => ?_
  simp [bytesAt, hk]

theorem natAt_append_left {a b : List Byte} {i n : Nat} (h : i + n ≤ a.length) :
    natAt (a ++ b) i n = natAt a i n := by
  rw [natAt, bytesAt_append_left h, natAt]

theorem natAt_append_right {a b : List Byte} {i n : Nat} (h : a.length ≤ i) :
    natAt (a ++ b) i n = natAt b (i - a.length) n := by
  rw [natAt, bytesAt_append_right h, natAt]

theorem natAt_cons_succ (b : Byte) (bs : List Byte) (i n : Nat) : natAt (b :: bs) (i + 1) n = natAt bs i n := by
  rw [natAt, bytesAt_cons_succ, natAt]

theorem natAt_cons_one (b : Byte) (bs : List Byte) : natAt (b :: bs) 0 1 = b.toNat := by
  simp [natAt, bytesAt, natOf]

theorem natAt_bytesOf (n x : Nat) : natAt (bytesOf n x) 0 n = x % 256 ^ n := by
  rw [natAt, bytesAt_all (length_bytesOf n x), natOf_bytesOf]

end Sys2Proof.Proofs

/-! The holiday list, the two copies of an image and of a header field, due dates, and the balance with its limits
(R48, R54 to R56, R60 to R64, R128 to R130, R184). -/

namespace Sys2Proof.Proofs
open Sys2Proof Sys2Proof.Machine

/-! ## Holidays (R48) -/

theorem mem_insertDay (d x : Nat) (hs : List Nat) : x ∈ insertDay d hs ↔ x = d ∨ x ∈ hs := by
  induction hs with
  | nil => simp [insertDay]
  | cons y ys ih =>
    unfold insertDay
    split
    · simp
    · split
      next heq => simp [heq]
      · simp only [List.mem_cons, ih]
        tauto

theorem insertDay_pairwise (d : Nat) {hs : List Nat} (h : hs.Pairwise (· < ·)) :
    (insertDay d hs).Pairwise (· < ·) := by
  induction hs with
  | nil => simp [insertDay]
  | cons y ys ih =>
    obtain ⟨hy, hys⟩ := List.pairwise_cons.1 h
    unfold insertDay
    split
    next hlt =>
      refine List.pairwise_cons.2 ⟨fun x hx => ?_, h⟩
      obtain rfl | hx := List.mem_cons.1 hx
      · exact hlt
      · exact hlt.trans (hy x hx)
    · split
      · exact h
      · refine List.pairwise_cons.2 ⟨fun x hx => ?_, ih hys⟩
        obtain rfl | hx := (mem_insertDay d x ys).1 hx
        · omega
        · exact hy x hx

/-- Settles O11: insertion keeps the order and adds its day alone, and a filtered list is a part of the list. -/
theorem holidaysStayAscending : Obligations.HolidaysStayAscending := by
  intro d hs h
  refine ⟨⟨insertDay_pairwise d h, fun x => mem_insertDay d x hs⟩, h.filter _, fun x => ?_⟩
  simp [and_comm]

/-! ## Two copies (R128 to R130, R184) -/

theorem count_lt_succ {c : BitVec 32} (h : c ≠ BitVec.allOnes 32) : c < c + 1#32 := by
  have : c.toNat ≠ (BitVec.allOnes 32).toNat := fun e => h (BitVec.eq_of_toNat_eq e)
  simp only [BitVec.toNat_allOnes] at this
  simp only [BitVec.lt_def, BitVec.toNat_add, BitVec.toNat_ofNat]
  omega

section Image
variable {α : Type} {i : Image α} {a : α}

theorem write_slot0 (good : Bool) (h : i.writesSlot0 = true) :
    i.write a good = { i with slot0 := ⟨a, i.slot1.count + 1#32, good⟩ } := if_pos h

theorem write_slot1 (good : Bool) (h : ¬ i.writesSlot0 = true) :
    i.write a good = { i with slot1 := ⟨a, i.slot0.count + 1#32, good⟩ } := if_neg h

/-- A write that is good is the image of the next start. -/
theorem current_write_good (h0 : i.slot0.count ≠ BitVec.allOnes 32) (h1 : i.slot1.count ≠ BitVec.allOnes 32) :
    (i.write a true).current = some a := by
  by_cases hw : i.writesSlot0 = true
  · rw [write_slot0 true hw]
    cases hg : i.slot1.good <;> simp [Image.current, hg, count_lt_succ h1]
  · rw [write_slot1 true hw]
    cases hg : i.slot0.good <;> simp [Image.current, hg, BitVec.lt_asymm (count_lt_succ h0)]

/-- A write that is not good leaves the image of the next start: the slot it spoils was not that image's. -/
theorem current_write_bad (hne : i.slot0.good = true → i.slot1.good = true → i.slot0.count ≠ i.slot1.count)
    (hg : i.slot0.good = true ∨ i.slot1.good = true) : (i.write a false).current = i.current := by
  by_cases hw : i.writesSlot0 = true
  · rw [write_slot0 false hw]
    cases h0 : i.slot0.good <;> cases h1 : i.slot1.good <;> simp [Image.writesSlot0, Image.current, h0, h1] at hw hg ⊢
    exact fun h => absurd h (BitVec.lt_asymm hw)
  · rw [write_slot1 false hw]
    cases h0 : i.slot0.good <;> cases h1 : i.slot1.good <;> simp [Image.writesSlot0, Image.current, h0, h1] at hw hg ⊢
    exact fun h => absurd (BitVec.le_antisymm h hw) (hne h0 h1)

theorem write_keeps_a_slot (good : Bool) : (i.write a good).slot0 = i.slot0 ∨ (i.write a good).slot1 = i.slot1 := by
  unfold Image.write
  split
  · exact .inr rfl
  · exact .inl rfl

end Image

/-- A header field's two cells, as the two slots of an image. -/
def cellsImage (p : CellPair) : Image Nat :=
  ⟨⟨p.cell0.value, p.cell0.count, p.cell0.good⟩, ⟨p.cell1.value, p.cell1.count, p.cell1.good⟩⟩

theorem current_cellsImage (p : CellPair) : (cellsImage p).current = p.value? := rfl

theorem cellsImage_write (p : CellPair) (v : Nat) (good : Bool) :
    cellsImage (p.write v good) = (cellsImage p).write v good := by
  have h : (cellsImage p).writesSlot0 = p.writesCell0 := rfl
  unfold CellPair.write Image.write
  rw [h]
  split <;> rfl

theorem write_keeps_a_cell (p : CellPair) (v : Nat) (good : Bool) :
    (p.write v good).cell0 = p.cell0 ∨ (p.write v good).cell1 = p.cell1 := by
  unfold CellPair.write
  split
  · exact .inr rfl
  · exact .inl rfl

/-- Settles O14: a pair of cells writes and reads as an image of numbers does. -/
theorem twoCopiesKeepTheFormerOne : Obligations.TwoCopiesKeepTheFormerOne := by
  refine ⟨fun α i a hne h0 h1 => ⟨current_write_good h0 h1, current_write_bad hne, write_keeps_a_slot true⟩,
    fun p v hne h0 h1 => ⟨?_, fun hg => ?_, write_keeps_a_cell p v true⟩⟩
  · rw [← current_cellsImage, cellsImage_write]
    exact current_write_good h0 h1
  · rw [← current_cellsImage, cellsImage_write, current_write_bad hne hg, current_cellsImage]

/-! ## Due dates (R54 to R56) -/

section DueDays
variable {rs : RuleSet} {period expiry day p : Nat}

/-- The provisional due day is an open day after the loan day. -/
theorem provisionalDue_after (hp : 1 ≤ period) (h : rs.provisionalDue period day = some p) :
    day < p ∧ rs.opens p = true := by
  by_cases hb : 65535 < day + period
  · simp [provisionalDue_of_candidate_beyond rs hb] at h
  rw [provisionalDue_of_candidate rs (by omega)] at h
  cases hf : rs.firstOpen 15 (day + period) with
  | some d =>
    obtain rfl : d = p := by simpa [hf] using h
    obtain ⟨hle, _, ho, _⟩ := firstOpen_eq_some hf
    exact ⟨by omega, ho⟩
  | none =>
    obtain ⟨hlt, _, ho, _⟩ := lastOpen_eq_some (by simpa [hf] using h)
    exact ⟨hlt, ho⟩

theorem dueDays_of_le (h : rs.provisionalDue period day = some p) (hle : p ≤ expiry) :
    rs.dueDays period expiry day = .ok (p, (rs.dayHours p).closing) := by
  simp [RuleSet.dueDays, h, hle]

theorem dueDays_of_lt (h : rs.provisionalDue period day = some p) (hlt : expiry < p) :
    rs.dueDays period expiry day = match rs.lastOpen day (expiry - day) with
      | some d => .ok (d, (rs.dayHours d).closing)
      | none => .error .cardExpiring := by
  simp only [RuleSet.dueDays, h, if_neg (Nat.not_le.2 hlt)] <;> rfl

/-- The clamp to the card's expiry finds the latest open day it may. -/
theorem lastOpen_by_expiry {d : Nat} (h : rs.lastOpen day (expiry - day) = some d) :
    day < d ∧ d ≤ expiry ∧ rs.opens d = true ∧ ∀ k, k ≤ expiry → rs.opens k = true → k ≤ d := by
  obtain ⟨hlt, hle, ho, hmax⟩ := lastOpen_eq_some h
  exact ⟨hlt, by omega, ho, fun k hk => hmax k (by omega)⟩

theorem lastOpen_by_expiry_eq_none_iff :
    rs.lastOpen day (expiry - day) = none ↔ ∀ k, day < k → k ≤ expiry → rs.opens k = false := by
  rw [lastOpen_eq_none_iff]
  exact forall_congr' fun k => ⟨fun h hlt hle => h hlt (by omega), fun h hlt hle => h hlt (by omega)⟩

/-- Of three outcomes one: the provisional day, the latest open day by the expiry, or a refusal. -/
theorem dueDays_cases (period expiry day : Nat) (rs : RuleSet) :
    (rs.provisionalDue period day = none ∧ rs.dueDays period expiry day = .error .noDueDay) ∨
    (∃ p, rs.provisionalDue period day = some p ∧ p ≤ expiry ∧
      rs.dueDays period expiry day = .ok (p, (rs.dayHours p).closing)) ∨
    (∃ p d, rs.provisionalDue period day = some p ∧ expiry < p ∧ rs.lastOpen day (expiry - day) = some d ∧
      rs.dueDays period expiry day = .ok (d, (rs.dayHours d).closing)) ∨
    (∃ p, rs.provisionalDue period day = some p ∧ expiry < p ∧ rs.lastOpen day (expiry - day) = none ∧
      rs.dueDays period expiry day = .error .cardExpiring) := by
  cases hp : rs.provisionalDue period day with
  | none => exact .inl ⟨rfl, dueDays_of_no_provisionalDue hp expiry⟩
  | some p =>
    obtain hlt | hle := Nat.lt_or_ge expiry p
    case inr => exact .inr (.inl ⟨p, rfl, hle, dueDays_of_le hp hle⟩)
    case inl =>
      have hd := dueDays_of_lt hp hlt
      cases hl : rs.lastOpen day (expiry - day) with
      | some d => exact .inr (.inr (.inl ⟨p, d, rfl, hlt, rfl, by rw [hd, hl]⟩))
      | none => exact .inr (.inr (.inr ⟨p, rfl, hlt, rfl, by rw [hd, hl]⟩))

theorem dueDays_eq_ok {d m : Nat} (hp : 1 ≤ period) (h : rs.dueDays period expiry day = .ok (d, m)) :
    day < d ∧ d ≤ expiry ∧ rs.opens d = true ∧ m = (rs.dayHours d).closing ∧
      (∀ p, rs.provisionalDue period day = some p → p ≤ expiry → d = p) ∧
      (∀ p, rs.provisionalDue period day = some p → expiry < p →
        ∀ k, day < k → k ≤ expiry → rs.opens k = true → k ≤ d) := by
  obtain ⟨_, hd⟩ | ⟨p, hprov, hle, hd⟩ | ⟨p, e, hprov, hlt, hl, hd⟩ | ⟨p, _, _, _, hd⟩ :=
    dueDays_cases period expiry day rs <;> rw [hd] at h <;> cases h
  · obtain ⟨hday, ho⟩ := provisionalDue_after hp hprov
    refine ⟨hday, hle, ho, rfl, fun q hq _ => ?_, fun q hq hlt => ?_⟩ <;> rw [hprov] at hq <;> cases hq
    · rfl
    · omega
  · obtain ⟨hday, hle, ho, hmax⟩ := lastOpen_by_expiry hl
    refine ⟨hday, hle, ho, rfl, fun q hq hle' => ?_, fun q _ _ k _ hk hko => hmax k hk hko⟩
    rw [hprov] at hq
    cases hq
    omega

theorem dueDays_by_expiry {k : Nat} (hp : rs.provisionalDue period day = some p) (hlt : expiry < p)
    (hday : day < k) (hk : k ≤ expiry) (ho : rs.opens k = true)
    (hlast : ∀ j, k < j → j ≤ expiry → rs.opens j = false) :
    rs.dueDays period expiry day = .ok (k, (rs.dayHours k).closing) := by
  rw [dueDays_of_lt hp hlt]
  cases hl : rs.lastOpen day (expiry - day) with
  | none => simp [lastOpen_by_expiry_eq_none_iff.1 hl k hday hk] at ho
  | some d =>
    obtain ⟨_, hle, hdo, hmax⟩ := lastOpen_by_expiry hl
    have hkd := hmax k hk ho
    obtain rfl | hgt := hkd.eq_or_lt
    · rfl
    · simp [hlast d hgt hle] at hdo

theorem dueDays_cardExpiring_iff : rs.dueDays period expiry day = .error .cardExpiring ↔
    ∃ p, rs.provisionalDue period day = some p ∧ expiry < p ∧
      ∀ k, day < k → k ≤ expiry → rs.opens k = false := by
  rw [← lastOpen_by_expiry_eq_none_iff]
  obtain ⟨hn, hd⟩ | ⟨p, hprov, hle, hd⟩ | ⟨p, e, hprov, hlt, hl, hd⟩ | ⟨p, hprov, hlt, hl, hd⟩ :=
    dueDays_cases period expiry day rs
  · simp [hd, hn]
  · simp [hd, hprov, hle]
  · simp [hd, hl]
  · simp [hd, hl, hprov, hlt]

theorem dueDays_noDueDay_iff :
    rs.dueDays period expiry day = .error .noDueDay ↔ rs.provisionalDue period day = none := by
  obtain ⟨hn, hd⟩ | ⟨p, hprov, _, hd⟩ | ⟨p, e, hprov, _, _, hd⟩ | ⟨p, hprov, _, _, hd⟩ :=
    dueDays_cases period expiry day rs
  · simp [hd, hn]
  all_goals simp [hd, hprov]

end DueDays

section DueHours
variable (rs : RuleSet) (period expiry day minute d m : Nat)

/-- Hours are reckoned in order: the card, the calendar, the closing minute. -/
theorem dueHours_eq : rs.dueHours period expiry day minute =
    if expiry < day then .error .cardExpiring
    else if rs.opens day = false then .error .closedToday
    else if (rs.dayHours day).closing < max minute (rs.dayHours day).opening + 15 then .error .tooLate
    else .ok (day, min (max minute (rs.dayHours day).opening + 60 * period) (rs.dayHours day).closing) := by
  simp [RuleSet.dueHours]

theorem dueHours_iffs (hp : 1 ≤ period) :
    let start := max minute (rs.dayHours day).opening
    let closing := (rs.dayHours day).closing
    let due := rs.dueHours period expiry day minute
    (due = .error .cardExpiring ↔ expiry < day) ∧
    (due = .error .closedToday ↔ day ≤ expiry ∧ rs.opens day = false) ∧
    (due = .error .tooLate ↔ day ≤ expiry ∧ rs.opens day = true ∧ closing < start + 15) ∧
    (due = .ok (d, m) ↔ day ≤ expiry ∧ rs.opens day = true ∧ start + 15 ≤ closing ∧ d = day ∧
      m = min (start + 60 * period) closing) ∧
    (due = .ok (d, m) → minute + 15 ≤ m ∧ m ≤ closing) := by
  intro start closing due
  have hdue : due = _ := dueHours_eq rs period expiry day minute
  clear_value due
  subst hdue
  split
  next hx => simp [hx, hx.not_ge]
  next hx =>
    have hx := Nat.not_lt.1 hx
    split
    next ho => simp [hx, ho, hx.not_gt]
    next ho =>
      have ho : rs.opens day = true := by simpa using ho
      split
      next hlate =>
        have : ¬ start + 15 ≤ closing := Nat.not_le.2 hlate
        simp [hx, ho, hx.not_gt, hlate, this, start, closing]
      next hlate =>
        have hfits : start + 15 ≤ closing := Nat.not_lt.1 hlate
        have hstart : minute ≤ start := le_max_left _ _
        simp only [Except.ok.injEq, Prod.mk.injEq, reduceCtorEq, hx, ho, hx.not_gt, hfits, Nat.not_lt.2 hfits,
          and_false, true_and, eq_comm, start, closing]
        omega

end DueHours

/-- Settles O56: the three outcomes of a DAYS loan and the ordered tests of an HOURS loan. -/
theorem dueDatesRespectCardAndCalendar : Obligations.DueDatesRespectCardAndCalendar := by
  intro rs period expiry day minute d m hp
  exact ⟨dueDays_eq_ok hp, fun p => dueDays_of_le, fun p k => dueDays_by_expiry, dueDays_cardExpiring_iff,
    dueDays_noDueDay_iff, dueHours_iffs rs period expiry day minute d m hp⟩

/-! ## Balance, window and limits (R60 to R64) -/

theorem balance_cases (e : Entry) : -99999 ≤ e.balance ∧ e.balance ≤ 999999 ∧
    (-99999 ≤ e.exactBalance → e.exactBalance ≤ 999999 → e.balance = e.exactBalance) ∧
    (999999 < e.exactBalance → e.balance = 999999) ∧ (e.exactBalance < -99999 → e.balance = -99999) := by
  simp only [Entry.balance, clampInt, minBalance, maxBalance]
  omega

theorem window_cases (rs : RuleSet) (balance : Int) (present : Bool) (h : rs.warning ≤ rs.blocking) :
    ((rs.blocking : Int) ≤ balance → rs.window balance present = true) ∧
    (balance < rs.warning → rs.window balance present = false) ∧
    ((rs.warning : Int) ≤ balance → balance < rs.blocking → rs.window balance present = present) := by
  refine ⟨fun hb => if_pos hb, fun hw => ?_, fun hw hb => ?_⟩
  · rw [RuleSet.window, if_neg (by omega), if_pos hw]
  · rw [RuleSet.window, if_neg (by omega), if_neg (by omega)]

section Limit
variable (s : State) (e : Entry)

theorem limitInForce_complete (c : Nat) (h : s.standing.incomplete = false) :
    s.limitInForce c = (s.reckoner.active.categoryRule c).limit := by simp [State.limitInForce, h]

theorem limitInForce_incomplete (c : Nat) (h : s.standing.incomplete = true) :
    s.limitInForce c = min (s.reckoner.active.categoryRule c).limit s.settings.inForce.reducedLimit := by
  simp [State.limitInForce, h]

@[simp] theorem count_setReserved (l : LaneId) (v : Bool) : (e.setReserved l v).count = e.count := by
  cases l <;> rfl

@[simp] theorem category_setReserved (l : LaneId) (v : Bool) :
    (e.setReserved l v).roll.category = e.roll.category := by
  cases l <;> rfl

theorem ownChange_cases (rs : RuleSet) (loans balance : Int) (stamp : Nat) :
    ∃ t f, e.ownChange rs loans balance stamp = { e with own := t, fines := f } ∧
      t = ⟨clampLoans (e.own.loans + loans), clampBalance (e.own.balance + balance), max e.own.stamp stamp⟩ := by
  unfold Entry.ownChange
  dsimp only
  split
  · exact ⟨_, _, rfl, rfl⟩
  · exact ⟨_, _, rfl, rfl⟩

/-- A loan raises the count by one within the range of the own tally (R62, R69). -/
theorem count_ownChange_loan (rs : RuleSet) (stamp : Nat) (hlo : -999 ≤ e.own.loans) (hhi : e.own.loans < 999) :
    (e.ownChange rs 1 0 stamp).count = e.count + 1 := by
  obtain ⟨t, f, h, rfl⟩ := ownChange_cases e rs 1 0 stamp
  simp only [h, Entry.count, clampLoans, clampInt]
  omega

theorem reserved_ownChange (rs : RuleSet) (loans balance : Int) (stamp : Nat) :
    (e.ownChange rs loans balance stamp).reservedA = e.reservedA ∧
      (e.ownChange rs loans balance stamp).reservedB = e.reservedB ∧
      (e.ownChange rs loans balance stamp).roll = e.roll := by
  obtain ⟨t, f, h, -⟩ := ownChange_cases e rs loans balance stamp
  simp [h]

end Limit

/-- Settles O58: the clamp, the window and the limit by their cases; a loan moves one place from the reservations
to the count. -/
theorem balancesAndLimitsHold : Obligations.BalancesAndLimitsHold := by
  refine ⟨balance_cases, window_cases, fun s c => ⟨limitInForce_complete s c, limitInForce_incomplete s c⟩,
    fun s e stamp hlo hhi => ?_⟩
  have hcount := count_ownChange_loan e s.rules stamp hlo hhi
  obtain ⟨hA, hB, hroll⟩ := reserved_ownChange e s.rules 1 0 stamp
  refine ⟨fun h => ?_, fun h => ?_, fun h => ?_, fun h => ?_⟩ <;>
    simp only [State.limitAtCommit, State.limitAtCheck, count_setReserved, category_setReserved, hcount, hroll,
      decide_eq_decide] <;>
    simp only [Entry.setReserved, Entry.reservations, h, hA, hB, Bool.toNat_true, Bool.toNat_false] <;> omega

end Sys2Proof.Proofs

/-! The probing search of a list (R132), and the bytes of a journal record (section 7.6, R129). -/

namespace Sys2Proof.Proofs
open Sys2Proof Sys2Proof.Machine

/-! ## Keys in order -/

theorem keyLt_iff (a b : Nat × Nat) : keyLt a b = true ↔ a.1 < b.1 ∨ a.1 = b.1 ∧ a.2 < b.2 := by simp [keyLt]

theorem keyLt_irrefl (a : Nat × Nat) : ¬ keyLt a a = true := by simp [keyLt]

theorem keyLt_trans {a b c : Nat × Nat} (h : keyLt a b = true) (h' : keyLt b c = true) : keyLt a c = true := by
  rw [keyLt_iff] at *
  omega

theorem keyLt_of_ne {a b : Nat × Nat} (hne : a ≠ b) (h : ¬ keyLt a b = true) : keyLt b a = true := by
  rw [Ne, Prod.ext_iff] at hne
  rw [keyLt_iff] at *
  omega

/-! ## The search (R132) -/

/-- What the end of a search of list `l` for `key` says of the list. -/
def SearchAnswers (s : State) (l : ListId) (key : Nat × Nat) : Search → Prop
  | .found i => i < s.listCount l ∧ l.key (s.entryBytes l i) = key
  | .missing p => p ≤ s.listCount l ∧ (∀ i, i < p → keyLt (l.key (s.entryBytes l i)) key = true) ∧
      ∀ i, p ≤ i → i < s.listCount l → keyLt key (l.key (s.entryBytes l i)) = true
  | .damaged => False

/-- The key is not outside the window of `size` entries from `lo` on. -/
structure Window (s : State) (l : ListId) (key : Nat × Nat) (lo size : Nat) : Prop where
  fits : lo + size ≤ s.listCount l
  below : ∀ i, i < lo → keyLt (l.key (s.entryBytes l i)) key = true
  above : ∀ i, lo + size ≤ i → i < s.listCount l → keyLt key (l.key (s.entryBytes l i)) = true

section Probe
variable {s : State} {l : ListId} {key : Nat × Nat} {lo size : Nat}

/-- Entries up to one below the key are below it. -/
theorem below_of_keyLt (hs : s.listSound l) {p : Nat} (hp : p < s.listCount l)
    (h : keyLt (l.key (s.entryBytes l p)) key = true) (i : Nat) (hi : i < p + 1) :
    keyLt (l.key (s.entryBytes l i)) key = true := by
  obtain rfl | hlt := (Nat.lt_succ_iff.1 hi).eq_or_lt
  · exact h
  · exact keyLt_trans (hs.rising i p hlt hp) h

/-- Entries from one above the key on are above it. -/
theorem above_of_keyLt (hs : s.listSound l) {p : Nat} (h : keyLt key (l.key (s.entryBytes l p)) = true)
    (i : Nat) (hi : p ≤ i) (hc : i < s.listCount l) : keyLt key (l.key (s.entryBytes l i)) = true := by
  obtain rfl | hlt := hi.eq_or_lt
  · exact h
  · exact keyLt_trans h (hs.rising p i hlt hc)

theorem window_empty (w : Window s l key lo 0) : SearchAnswers s l key (.missing lo) :=
  ⟨w.fits, w.below, w.above⟩

/-- The probe of a window of one entry. -/
theorem window_one (hs : s.listSound l) (w : Window s l key lo 1) :
    SearchAnswers s l key (if l.key (s.entryBytes l lo) = key then .found lo
      else if keyLt key (l.key (s.entryBytes l lo)) then .missing lo else .missing (lo + 1)) := by
  have hlo : lo < s.listCount l := w.fits
  split
  next heq => exact ⟨hlo, heq⟩
  next hne =>
    split
    next hlt => exact ⟨hlo.le, w.below, above_of_keyLt hs hlt⟩
    next hge => exact ⟨hlo, below_of_keyLt hs hlo (keyLt_of_ne (Ne.symm hne) hge), w.above⟩

/-- Every probe keeps the key in the window, whose size halves: with fuel enough, the search answers. -/
theorem probe_answers (hs : s.listSound l) (fuel : Nat) (hfuel : size < 2 ^ fuel) (w : Window s l key lo size) :
    SearchAnswers s l key (s.probe l key fuel lo size) := by
  induction fuel generalizing lo size with
  | zero =>
    obtain rfl : size = 0 := by omega
    exact window_empty w
  | succ fuel ih =>
    have hfits := w.fits
    have hgood := hs.undamaged
    unfold State.probe
    split
    next h0 => subst h0; exact window_empty w
    next h0 =>
      split
      next h1 =>
        subst h1
        simp only [hgood lo hfits, Bool.not_true, Bool.false_eq_true, if_false]
        exact window_one hs w
      next h1 =>
        dsimp only
        generalize hi : lo + size / 2 - 1 = i
        have hi1 : i + 1 < lo + size := by omega
        simp only [hgood i (by omega), hgood (i + 1) (by omega), Bool.not_true, Bool.or_self,
          Bool.false_eq_true, if_false]
        split
        next heq => exact ⟨by omega, heq⟩
        next hne =>
          split
          next heq => exact ⟨by omega, heq⟩
          next hne' =>
            split
            next hlt =>
              refine ih (by omega) ⟨by omega, w.below, fun j hj => above_of_keyLt hs hlt j (by omega)⟩
            next hge =>
              have hlow := below_of_keyLt hs (p := i) (by omega) (keyLt_of_ne (Ne.symm hne) hge)
              split
              next hlt =>
                exact ih (by omega) ⟨by omega, below_of_keyLt hs (p := i + 1) (by omega) hlt,
                  fun j hj => w.above j (by omega)⟩
              next hge' =>
                exact ⟨by omega, hlow, above_of_keyLt hs (keyLt_of_ne hne' hge')⟩

theorem listCount_lt (s : State) (l : ListId) : s.listCount l < 2 ^ 20 := by
  refine (Nat.min_le_right _ _).trans_lt ?_
  cases l <;> decide

theorem search_answers (hs : s.listSound l) (key : Nat × Nat) : SearchAnswers s l key (s.search l key) :=
  probe_answers hs 20 (listCount_lt s l) ⟨by omega, by omega, by omega⟩

end Probe

/-- Settles O59: a search of a sound list answers, and only one of the two answers agrees with the entries. -/
theorem listSearchIsRight : Obligations.ListSearchIsRight := by
  intro s l key hs
  have hans := search_answers hs key
  cases hsearch : s.search l key with
  | found i =>
    rw [hsearch] at hans
    exact ⟨fun _ => ⟨i, rfl, hans⟩, fun hnone => absurd hans.2 (hnone i hans.1)⟩
  | missing p =>
    rw [hsearch] at hans
    obtain ⟨hp, hbelow, habove⟩ := hans
    refine ⟨fun ⟨i, hi, hkey⟩ => ?_, fun _ => ⟨p, rfl, hp, hbelow, habove⟩⟩
    obtain hlt | hge := Nat.lt_or_ge i p
    · exact absurd (hkey ▸ hbelow i hlt) (keyLt_irrefl _)
    · exact absurd (hkey ▸ habove i hge hi) (keyLt_irrefl _)
  | damaged =>
    rw [hsearch] at hans
    exact hans.elim

/-! ## Check bytes (R129) -/

/-- A unit with its check byte is undamaged. -/
@[simp] theorem unitGood_withCheck (bs : List Byte) : unitGood (withCheck bs) = true := by
  simp only [unitGood, withCheck, checkByte, List.map_append, List.sum_append, List.map_cons, List.map_nil,
    List.sum_cons, List.sum_nil, toNat_byteOf, beq_iff_eq]
  omega

@[simp] theorem length_withCheck (bs : List Byte) : (withCheck bs).length = bs.length + 1 := by simp [withCheck]

/-! ## Journal records (section 7.6) -/

@[simp] theorem length_detail (r : JournalRecord) : r.detail.length = 5 := by
  cases h : r.kind <;> simp [JournalRecord.detail, h]

@[simp] theorem length_record (r : JournalRecord) : r.bytes.length = 32 := by simp [JournalRecord.bytes]

/-- The byte of kind and lane. -/
def kindByte (k : RecordKind) (l : LaneId) : Byte := byteOf (k.code + 16 * laneCode l)

theorem ofCode_kindByte (k : RecordKind) (l : LaneId) : RecordKind.ofCode ((kindByte k l).toNat % 16) = some k := by
  cases k <;> cases l <;> rfl

theorem lane_kindByte (k : RecordKind) (l : LaneId) :
    (if (kindByte k l).getLsbD 4 then LaneId.b else .a) = l := by
  cases k <;> cases l <;> rfl

/-- A record's fields at their places. -/
theorem record_fields (r : JournalRecord) (h : r.fits) :
    natAt r.bytes 0 4 = r.number ∧ natAt r.bytes 4 2 = r.stamp ∧ bytesAt r.bytes 6 1 = [kindByte r.kind r.lane] ∧
    natAt r.bytes 7 2 = r.day ∧ natAt r.bytes 9 2 = r.minute ∧ natAt r.bytes 11 5 = r.borrower ∧
    natAt r.bytes 16 5 = r.item ∧ natAt r.bytes 21 5 = natAt r.detail 0 5 ∧
    natAt r.bytes 21 2 = natAt r.detail 0 2 ∧ natAt r.bytes 23 2 = natAt r.detail 2 2 ∧
    natAt r.bytes 26 3 = r.amount ∧ natAt r.bytes 29 1 = r.outcome ∧ natAt r.bytes 30 1 = r.edition := by
  have hnumber : r.number < 4294967296 := h.number
  have hborrower : r.borrower < 1099511627776 := h.borrower
  have hitem : r.item < 1099511627776 := h.item
  have hamount : r.amount < 16777216 := h.amount
  simp only [JournalRecord.bytes, withCheck, List.append_assoc, List.cons_append]
  simp [natAt_append_right, natAt_append_left, bytesAt_append_right, natAt_cons_succ, natAt_cons_one, natAt_bytesOf,
    bytesAt_cons_one, kindByte, Nat.mod_eq_of_lt, hnumber, h.stamp, h.day, h.minute, hborrower, hitem, hamount,
    h.outcome, h.edition]

/-- A record's detail field spells the loan of a LOAN or RENEW record, the hold borrower of a RETURN record. -/
theorem detail_fields (r : JournalRecord) (h : r.fits) :
    (if (r.kind == .loan || r.kind == .renew) = true then natAt r.detail 0 2 else 0) = r.dueDay ∧
    (if (r.kind == .loan || r.kind == .renew) = true then natAt r.detail 2 2 else 0) = r.dueMinute ∧
    (if (r.kind == .ret) = true then natAt r.detail 0 5 else 0) = r.holdBorrower := by
  have hnoLoan := h.noLoan
  have hnoHold := h.noHold
  have hday := Nat.mod_eq_of_lt h.dueDay
  have hminute := Nat.mod_eq_of_lt h.dueMinute
  have hhold : r.holdBorrower % 1099511627776 = r.holdBorrower := Nat.mod_eq_of_lt h.holdBorrower
  cases hk : r.kind <;> simp [hk] at hnoLoan hnoHold ⊢ <;>
    simp [JournalRecord.detail, natAt_append_left, natAt_append_right, natAt_bytesOf, *]

theorem recordOf_bytes (r : JournalRecord) (h : r.fits) : recordOf r.bytes = some r := by
  obtain ⟨hnumber, hstamp, hkind, hday, hminute, hborrower, hitem, h21, h21', h23, hamount, houtcome, hedition⟩ :=
    record_fields r h
  obtain ⟨hdueDay, hdueMinute, hhold⟩ := detail_fields r h
  unfold recordOf
  simp only [hkind, List.headD_cons, ofCode_kindByte, lane_kindByte, Option.map_some, hnumber, hstamp, hday, hminute,
    hborrower, hitem, h21, h21', h23, hamount, houtcome, hedition, hdueDay, hdueMinute, hhold]

theorem slotHolds_bytes (r : JournalRecord) (h : r.fits) : slotHolds r.bytes r.number = true := by
  obtain ⟨hnumber, -⟩ := record_fields r h
  rw [slotHolds, hnumber, beq_self_eq_true, Bool.and_true]
  exact unitGood_withCheck _

/-- Settles O60: every field stands at its place and fits it. -/
theorem journalRecordsReadBack : Obligations.JournalRecordsReadBack :=
  fun r h => ⟨length_record r, recordOf_bytes r h, slotHolds_bytes r h⟩

end Sys2Proof.Proofs

/-! Entries, lanes and slips by name, and the end of a session (R27, R29, R148, R150, R152). -/

namespace Sys2Proof.Proofs
open Sys2Proof Sys2Proof.Machine

/-! ## Lanes -/

@[simp] theorem otherLane_ne (l : LaneId) : otherLane l ≠ l := by cases l <;> simp [otherLane]

@[simp] theorem lane_setLane_otherLane (s : State) (l : LaneId) (c : LaneCtl) :
    (s.setLane l c).lane (otherLane l) = s.lane (otherLane l) :=
  State.lane_setLane_other s l _ c (otherLane_ne l)

@[simp] theorem lane_mapLane_otherLane (s : State) (l : LaneId) (f : LaneCtl → LaneCtl) :
    (s.mapLane l f).lane (otherLane l) = s.lane (otherLane l) :=
  lane_setLane_otherLane s l _

/-- An update of a lane touches nothing but the two lanes. -/
theorem mapLane_frame (s : State) (l : LaneId) (f : LaneCtl → LaneCtl) :
    s.mapLane l f = { s with laneA := (s.mapLane l f).laneA, laneB := (s.mapLane l f).laneB } := by
  cases l <;> rfl

/-! ## Entries of borrowers -/

theorem entry?_borrower {s : State} {b : Nat} {e : Entry} (h : s.entry? b = some e) : e.borrower = b := by
  simpa using List.find?_some h

theorem entry?_mapEntry (s : State) (b : Nat) (f : Entry → Entry) (hf : ∀ e, (f e).borrower = e.borrower) :
    (s.mapEntry b f).entry? b = (s.entry? b).map f := by
  have hp : (fun e : Entry => (if e.borrower = b then f e else e).borrower == b) = fun e => e.borrower == b := by
    funext e
    split
    · rw [hf]
    · rfl
  simp only [State.entry?, State.mapEntry, State.setStanding_standing, List.find?_map, Function.comp_def, hp]
  cases hfind : s.standing.entries.find? (·.borrower == b) with
  | none => rfl
  | some e => simp [entry?_borrower hfind]

/-- No entry of another borrower changes. -/
theorem mem_mapEntry (s : State) {b : Nat} {f : Entry → Entry} (hf : ∀ e, (f e).borrower = e.borrower) {e : Entry}
    (he : e.borrower ≠ b) : e ∈ (s.mapEntry b f).standing.entries ↔ e ∈ s.standing.entries := by
  simp only [State.mapEntry, State.setStanding_standing, List.mem_map]
  constructor
  · rintro ⟨x, hx, rfl⟩
    split
    next hb => simp [hb, hf] at he
    · exact hx
  · exact fun hm => ⟨e, hm, if_neg he⟩

theorem useEntry_of_none {s : State} {b : Nat} (h : s.entry? b = none) (f : Entry → Entry) : s.useEntry b f = s := by
  simp only [State.useEntry, h]

/-- A use of an entry, changed by `f`, in a table that holds it. -/
theorem useEntry_of_some {s : State} {b : Nat} {e : Entry} (h : s.entry? b = some e) (f : Entry → Entry) :
    s.useEntry b f = (s.setStanding { s.standing with uses := s.standing.uses + 1 }).mapEntry b
      fun e => { f e with lastUse := s.standing.uses + 1 } := by
  simp only [State.useEntry, h]

theorem entry?_useEntry (s : State) (b : Nat) (f : Entry → Entry) (hf : ∀ e, (f e).borrower = e.borrower) :
    (s.useEntry b f).entry? b = (s.entry? b).map fun e => { f e with lastUse := s.standing.uses + 1 } := by
  cases h : s.entry? b with
  | none => rw [useEntry_of_none h, h]; rfl
  | some e =>
    rw [useEntry_of_some h, entry?_mapEntry _ _ (fun e => { f e with lastUse := s.standing.uses + 1 }) hf]
    exact congrArg (Option.map _) h

theorem mem_useEntry (s : State) {b : Nat} {f : Entry → Entry} (hf : ∀ e, (f e).borrower = e.borrower) {e : Entry}
    (he : e.borrower ≠ b) : e ∈ (s.useEntry b f).standing.entries ↔ e ∈ s.standing.entries := by
  cases h : s.entry? b with
  | none => rw [useEntry_of_none h]
  | some x => rw [useEntry_of_some h]; exact mem_mapEntry _ (f := fun e => { f e with lastUse := s.standing.uses + 1 }) hf he

theorem useEntry_frame (s : State) (b : Nat) (f : Entry → Entry) :
    s.useEntry b f = { s with standing := (s.useEntry b f).standing } := by
  cases h : s.entry? b with
  | none => rw [useEntry_of_none h]
  | some x => rw [useEntry_of_some h]; rfl

@[simp] theorem setHand_borrower (e : Entry) (l : LaneId) (v : Bool) : (e.setHand l v).borrower = e.borrower := by
  cases l <;> rfl

@[simp] theorem inHand_setHand (e : Entry) (l : LaneId) (v : Bool) : (e.setHand l v).inHand l = v := by
  cases l <;> rfl

/-! ## Entries in hand (R29) -/

/-- Taking out of hand changes nothing, or clears the mark in a use of the entry. -/
theorem outOfHand_cases (s : State) (l : LaneId) (b : Nat) :
    s.outOfHand l b = s ∨ s.outOfHand l b = s.useEntry b (·.setHand l false) := by
  unfold State.outOfHand
  dsimp only
  split
  · exact .inl rfl
  · split
    · exact .inl rfl
    · exact .inr rfl

theorem outOfHand_frame (s : State) (l : LaneId) (b : Nat) :
    s.outOfHand l b = { s with standing := (s.outOfHand l b).standing } := by
  obtain h | h := outOfHand_cases s l b <;> rw [h]
  exact useEntry_frame s b _

theorem mem_outOfHand (s : State) (l : LaneId) {b : Nat} {e : Entry} (he : e.borrower ≠ b) :
    e ∈ (s.outOfHand l b).standing.entries ↔ e ∈ s.standing.entries := by
  obtain h | h := outOfHand_cases s l b <;> rw [h]
  exact mem_useEntry s (setHand_borrower · l false) he

/-- A lane with neither session nor transaction has nothing in hand afterwards. -/
theorem inHand_outOfHand {s : State} {l : LaneId} (hs : (s.lane l).session = none) (ht : (s.lane l).txn = none)
    {b : Nat} {e : Entry} (he : (s.outOfHand l b).entry? b = some e) : e.inHand l = false := by
  unfold State.outOfHand at he
  simp only [hs, ht, Option.map_none, Option.bind_none] at he
  cases h : s.entry? b with
  | none => simp [h] at he
  | some x =>
    simp only [h] at he
    split at he
    next hx =>
      rw [h] at he
      cases he
      simpa using hx
    · rw [entry?_useEntry _ _ _ (setHand_borrower · l false), h] at he
      cases he
      exact inHand_setHand x l false

/-! ## Slip records and the printer (R150 to R153) -/

theorem slip_setSlip_same {s : State} {i : Nat} (h : i < s.slips.slips.length) (x : Slip) :
    (s.setSlip i x).slip i = x := by
  simp [State.setSlip, State.slip, h]

theorem slip_setSlip_ne (s : State) {i j : Nat} (h : i ≠ j) (x : Slip) : (s.setSlip i x).slip j = s.slip j := by
  simp [State.setSlip, State.slip, h]

/-- Slip `i` is queued with these lines: READY, or PRINTING at the head. It is no HOLD slip. -/
structure SlipQueued (s : State) (i : Nat) (lines : List SlipLine) : Prop where
  bound : i < s.slips.slips.length
  lines : (s.slip i).lines = lines
  hold : (s.slip i).hold = none
  state : (s.slip i).state = .ready ∨ (s.slip i).state = .printing
  queued : i ∈ s.slips.queue

section Printer
variable {s : State} {i : Nat} {lines : List SlipLine}

/-- The print queue, the timers and the printer aside, slip `i` stands as it did. -/
theorem SlipQueued.of_slips {t : State} (h : SlipQueued s i lines) (hs : t.slips.slips = s.slips.slips)
    (hq : i ∈ t.slips.queue) : SlipQueued t i lines := by
  have hslip : t.slip i = s.slip i := by rw [State.slip, hs, State.slip]
  exact ⟨hs ▸ h.bound, hslip ▸ h.lines, hslip ▸ h.hold, hslip ▸ h.state, hq⟩

theorem SlipQueued.setSlip_ne (h : SlipQueued s i lines) {j : Nat} (hj : j ≠ i) (x : Slip) :
    SlipQueued (s.setSlip j x) i lines := by
  have hslip := slip_setSlip_ne s hj x
  exact ⟨by simpa [State.setSlip] using h.bound, hslip ▸ h.lines, hslip ▸ h.hold, hslip ▸ h.state, h.queued⟩

/-- A slip that begins to print is PRINTING; any other stands. -/
theorem SlipQueued.print (h : SlipQueued s i lines) (j : Nat) :
    SlipQueued (s.setSlip j { s.slip j with state := .printing }) i lines := by
  by_cases hj : j = i
  · subst hj
    have hslip := slip_setSlip_same h.bound { s.slip j with state := .printing }
    refine ⟨by simpa [State.setSlip] using h.bound, ?_, ?_, ?_, h.queued⟩ <;> rw [hslip]
    · exact h.lines
    · exact h.hold
    · exact .inr rfl
  · exact h.setSlip_ne hj _

/-- The printer gives up no slip but HOLD slips. -/
theorem SlipQueued.startPrint (fuel : Nat) (h : SlipQueued s i lines) : SlipQueued (s.startPrint fuel) i lines := by
  induction fuel generalizing s with
  | zero => exact h.of_slips rfl h.queued
  | succ fuel ih =>
    unfold State.startPrint
    split
    · exact h.of_slips rfl h.queued
    next j rest hq =>
      dsimp only
      split
      next hold hh =>
        have hji : j ≠ i := by
          rintro rfl
          rw [h.hold] at hh
          cases hh
        split
        · exact (h.print j).of_slips rfl h.queued
        · have hrest : i ∈ rest := by
            have hmem := h.queued
            rw [hq, List.mem_cons] at hmem
            exact hmem.resolve_left (Ne.symm hji)
          exact ih ((h.setSlip_ne hji .free).of_slips rfl hrest)
      · exact (h.print j).of_slips rfl h.queued

theorem settleUnload_slips (s : State) :
    s.settleUnload.slips.slips = s.slips.slips ∧ s.settleUnload.slips.queue = s.slips.queue := by
  unfold State.settleUnload
  repeat' split
  all_goals exact ⟨rfl, rfl⟩

theorem SlipQueued.settlePrinter (h : SlipQueued s i lines) : SlipQueued s.settlePrinter i lines := by
  unfold State.settlePrinter
  split
  next =>
    split
    · exact h
    · exact h.of_slips rfl h.queued
  next =>
    have hprint := h.startPrint (Config.slipRecords + 1)
    obtain ⟨hs, hq⟩ := settleUnload_slips (s.startPrint (Config.slipRecords + 1))
    exact hprint.of_slips hs (hq ▸ hprint.queued)
  all_goals exact h

theorem slipQueued_joinQueue (hi : i < s.slips.slips.length) (hh : (s.slip i).hold = none) :
    SlipQueued (s.joinQueue i) i (s.slip i).lines := by
  refine SlipQueued.settlePrinter ⟨by simpa [State.setSlip, State.setQueue] using hi, ?_, ?_, .inl ?_,
    List.mem_append_right _ (List.mem_singleton_self i)⟩
  all_goals simp [State.setQueue, State.slip, State.setSlip, hi]
  simpa [State.slip, hi] using hh

/-- The printer's frame: nothing but the slip unit changes. -/
def SlipsOnly (s t : State) : Prop := t = { s with slips := t.slips }

theorem SlipsOnly.refl (s : State) : SlipsOnly s s := Eq.refl s

theorem SlipsOnly.trans {s t u : State} (h : SlipsOnly s t) (h' : SlipsOnly t u) : SlipsOnly s u := by
  rw [SlipsOnly] at *
  rw [h', h]

theorem startPrint_slipsOnly (fuel : Nat) (s : State) : SlipsOnly s (s.startPrint fuel) := by
  induction fuel generalizing s with
  | zero => rfl
  | succ fuel ih =>
    unfold State.startPrint
    split
    · rfl
    next j rest hq =>
      dsimp only
      split
      next hold hh =>
        split
        · rfl
        · exact SlipsOnly.trans (t := (s.setSlip j .free).setQueue rest) rfl (ih _)
      · rfl

theorem settleUnload_slipsOnly (s : State) : SlipsOnly s s.settleUnload := by
  unfold State.settleUnload
  repeat' split
  all_goals rfl

theorem settlePrinter_slipsOnly (s : State) : SlipsOnly s s.settlePrinter := by
  unfold State.settlePrinter
  split
  next =>
    split
    all_goals rfl
  next => exact (startPrint_slipsOnly _ s).trans (settleUnload_slipsOnly _)
  all_goals rfl

theorem joinQueue_slipsOnly (s : State) (i : Nat) : SlipsOnly s (s.joinQueue i) :=
  SlipsOnly.trans (t := (s.setSlip i { s.slip i with state := .ready }).setQueue (s.slips.queue ++ [i])) rfl
    (settlePrinter_slipsOnly _)

theorem SlipsOnly.lane {s t : State} (h : SlipsOnly s t) (l : LaneId) : t.lane l = s.lane l := by
  rw [h]
  cases l <;> rfl

end Printer

/-! ## The end of a session (R27, R29, R148) -/

/-- Nothing but the lanes, the standing table and the slip unit changes. -/
def SessionOnly (s t : State) : Prop :=
  t = { s with laneA := t.laneA, laneB := t.laneB, standing := t.standing, slips := t.slips }

theorem SessionOnly.trans {s t u : State} (h : SessionOnly s t) (h' : SessionOnly t u) : SessionOnly s u := by
  rw [SessionOnly] at *
  rw [h', h]

theorem sessionOnly_mapLane (s : State) (l : LaneId) (f : LaneCtl → LaneCtl) : SessionOnly s (s.mapLane l f) := by
  cases l <;> rfl

theorem SlipsOnly.sessionOnly {s t : State} (h : SlipsOnly s t) : SessionOnly s t := by
  rw [h]
  rfl

theorem sessionOnly_outOfHand (s : State) (l : LaneId) (b : Nat) : SessionOnly s (s.outOfHand l b) := by
  rw [outOfHand_frame]
  rfl

@[simp] theorem lane_outOfHand (s : State) (l m : LaneId) (b : Nat) : (s.outOfHand l b).lane m = s.lane m := by
  rw [outOfHand_frame]
  cases m <;> rfl

@[simp] theorem lane_settlePrinter (s : State) (m : LaneId) : s.settlePrinter.lane m = s.lane m :=
  (settlePrinter_slipsOnly s).lane m

@[simp] theorem standing_settlePrinter (s : State) : s.settlePrinter.standing = s.standing := by
  rw [settlePrinter_slipsOnly s]

@[simp] theorem lane_joinQueue (s : State) (i : Nat) (m : LaneId) : (s.joinQueue i).lane m = s.lane m :=
  (joinQueue_slipsOnly s i).lane m

section CompleteSlip
variable {s : State} {l : LaneId} {ss : Session} (h : (s.lane l).session = some ss) (count balance : Int)
  (warning : Bool)
include h

/-- A session with no slip has none to complete; any other slip gets its TOTAL line and joins the queue. -/
theorem completeSlip_cases :
    (ss.slip = none ∧ s.completeSlip l count balance warning = s) ∨
    ∃ i, ss.slip = some i ∧ s.completeSlip l count balance warning =
      ((s.addLine i (.total count balance warning)).joinQueue i).setSessionSlip l none := by
  obtain ⟨b, slip⟩ := ss
  cases slip with
  | none => exact .inl ⟨rfl, by simp only [State.completeSlip, h]⟩
  | some i => exact .inr ⟨i, rfl, by simp only [State.completeSlip, h]⟩

theorem sessionOnly_completeSlip : SessionOnly s (s.completeSlip l count balance warning) := by
  obtain ⟨_, h⟩ | ⟨i, _, h⟩ := completeSlip_cases h count balance warning <;> rw [h]
  · rfl
  · exact (SlipsOnly.trans (t := s.addLine i (.total count balance warning)) rfl (joinQueue_slipsOnly _ i)).sessionOnly.trans
      (sessionOnly_mapLane _ l _)

theorem standing_completeSlip : (s.completeSlip l count balance warning).standing = s.standing := by
  obtain ⟨_, h⟩ | ⟨i, _, h⟩ := completeSlip_cases h count balance warning <;> rw [h]
  rw [State.setSessionSlip, State.mapLane_standing, joinQueue_slipsOnly]
  rfl

/-- Of the lane nothing but the reference to the slip goes. -/
theorem lane_completeSlip :
    (s.completeSlip l count balance warning).lane l = { s.lane l with session := some { ss with slip := none } } ∧
    (s.completeSlip l count balance warning).lane (otherLane l) = s.lane (otherLane l) := by
  have hadd : ∀ i line m, (s.addLine i line).lane m = s.lane m := fun i line m => by cases m <;> rfl
  obtain ⟨hn, hc⟩ | ⟨i, _, hc⟩ := completeSlip_cases h count balance warning <;> rw [hc]
  · obtain ⟨b, slip⟩ := ss
    obtain rfl : slip = none := hn
    exact ⟨by rw [← h], rfl⟩
  · simp [State.setSessionSlip, hadd, h]

theorem slipQueued_completeSlip {i : Nat} (hi : ss.slip = some i) (hlt : i < s.slips.slips.length)
    (hold : (s.slip i).hold = none) : SlipQueued (s.completeSlip l count balance warning) i
      ((s.slip i).lines ++ [.total count balance warning]) := by
  obtain ⟨hn, _⟩ | ⟨j, hj, hc⟩ := completeSlip_cases h count balance warning
  · rw [hi] at hn
    cases hn
  · rw [hi] at hj
    cases hj
    have hslip : (s.addLine i (.total count balance warning)).slip i =
        { s.slip i with lines := (s.slip i).lines ++ [.total count balance warning] } := slip_setSlip_same hlt _
    have hq := slipQueued_joinQueue (s := s.addLine i (.total count balance warning)) (i := i)
      (by simpa [State.addLine, State.setSlip] using hlt) (by rw [hslip]; exact hold)
    rw [hslip] at hq
    rw [hc]
    exact hq.of_slips (by simp [State.setSessionSlip]) (by simpa [State.setSessionSlip] using hq.queued)

end CompleteSlip

/-- What the end of an open session puts into its lane. -/
def sessionEnded (c : LaneCtl) : LaneCtl :=
  { c with
    session := none, endPending := false, idleTimer := none
    state := if c.state = .session then .idle else c.state }

/-- The steps of the end of an open session. -/
theorem endSession_eq {s : State} {l : LaneId} {ss : Session} (h : (s.lane l).session = some ss) :
    s.endSession l =
      ((((s.completeSlip l (s.entryOf ss.borrower).count (s.entryOf ss.borrower).balance
        (s.rules.warningMark (s.entryOf ss.borrower).balance)).mapLane l sessionEnded).outOfHand l
          ss.borrower).settlePrinter) := by
  simp only [State.endSession, h]
  rfl

theorem endSession_of_none {s : State} {l : LaneId} (h : (s.lane l).session = none) :
    s.endSession l = s.mapLane l fun c => { c with endPending := false } := by
  simp only [State.endSession, h]

/-- Settles O19: the steps of the end in turn, each by its frame. -/
theorem sessionEndClearsTheContext : Obligations.SessionEndClearsTheContext := by
  intro l ss s h t
  have ht : t = _ := endSession_eq h
  generalize hcount : (s.entryOf ss.borrower).count = count at ht
  generalize hbal : (s.entryOf ss.borrower).balance = balance at ht
  obtain ⟨hlane, hother⟩ := lane_completeSlip h count balance (s.rules.warningMark balance)
  have hstanding := standing_completeSlip h count balance (s.rules.warningMark balance)
  refine ⟨?_, ?_, ?_, fun e he => ?_, fun htxn e he => ?_, fun i hi hlt hold => ?_⟩
  · simp [ht, hlane, sessionEnded]
  · simp [ht, hother]
  · rw [← SessionOnly, ht]
    exact (((sessionOnly_completeSlip h _ _ _).trans (sessionOnly_mapLane _ l _)).trans
      (sessionOnly_outOfHand _ l _)).trans (settlePrinter_slipsOnly _).sessionOnly
  · rw [ht, standing_settlePrinter, mem_outOfHand _ _ he, State.mapLane_standing, hstanding]
  · have hin : e.inHand l = false := by
      rw [ht, State.entry?, standing_settlePrinter] at he
      exact inHand_outOfHand (by simp [sessionEnded]) (by simp [hlane, sessionEnded, htxn]) he
    cases l <;> exact hin
  · have hq := slipQueued_completeSlip h count balance (s.rules.warningMark balance) hi hlt hold
    have hq' : SlipQueued t i ((s.slip i).lines ++ [.total count balance (s.rules.warningMark balance)]) := by
      rw [ht]
      refine SlipQueued.settlePrinter (hq.of_slips ?_ ?_) <;> rw [outOfHand_frame]
      · simp
      · simpa using hq.queued
    refine ⟨fun e he => ?_, hq'.state, hq'.queued⟩
    have hentry : s.entryOf ss.borrower = e := by simp [State.entryOf, he]
    rw [hq'.lines, ← hcount, ← hbal, hentry]

end Sys2Proof.Proofs

/-! Commands that the port serves, the memory port, and the loading of a chunk (R131, R135, R178). -/

namespace Sys2Proof.Proofs
open Sys2Proof Sys2Proof.Machine

/-! ## A served command (R178, R180) -/

/-- A served command runs its rule on the state with some new port, whose status byte and error latch the answer
keeps. -/
theorem take_of_serves {s : State} (h : s.serves = true) : ∃ p : Port,
    p.pending = s.port.pending ∧ p.enabled = s.port.enabled ∧
    (∀ a e, s.portAfter a e = { p with answer := a, frame := .answering e }) ∧
    ∀ n f, s.take n f = (f { s with port := p }).1.answer (f { s with port := p }).2 :=
  ⟨s.commandStatus.port, State.commandStatus_pending s, State.commandStatus_enabled s, fun _ _ => rfl, fun n f => by
    rw [State.take_serves s n f h, State.commandStatus_eq]⟩

/-- A served command that leaves the state alone answers, and no more. -/
theorem take_answers {s : State} (h : s.serves = true) {n : Nat} {f : State → State × Reply} {r : Reply}
    (hf : f s.commandStatus = (s.commandStatus, r)) :
    s.take n f = { s with port := s.portAfter (r.code :: r.bytes) r.effect } := by
  rw [State.take_serves s n f h, hf, State.answer_eq, State.commandStatus_replied]

/-! ## The memory port (R131) -/

theorem grant_busy {s : State} {r : MemRequest} (h : s.memory.busy = some r) : s.grant = s := by
  simp [State.grant, h]

/-- With nothing waiting, nothing is granted. -/
theorem grant_of_no_waiting {s : State} (h : s.memory.waiting = []) : s.grant = s := by
  simp [State.grant, h, leastBy]

/-- A request of a port that is free with nothing waiting is granted at once; a lookup is so outside loading. -/
theorem ask_of_free {s : State} {op : MemOp} (hb : s.memory.busy = none) (hw : s.memory.waiting = [])
    (hl : op.isLookup = true → s.memory.load.loading = false) :
    s.ask op = { s with memory := { s.memory with
      busy := some ⟨op, false⟩, lastLane := op.lookupLane.or s.memory.lastLane } } := by
  have hopen : (op.isLookup && (s.memory.load.loading || op.isEdition)) = false := by
    cases op <;> simp_all [MemOp.isLookup, MemOp.isEdition]
  simp only [State.ask, State.grant, State.setMemory, hb, hw, State.lookupsHeld, List.nil_append, Option.isSome_none,
    Bool.false_eq_true, if_false, List.zipIdx_singleton, List.any_cons, List.any_nil, Bool.or_false, List.filter_cons,
    hopen, Bool.not_false, if_true, List.filter_nil, leastBy, List.eraseIdx_cons_zero]

/-! ## Bytes written and read (section 7.1) -/

theorem readBytes_writeBytes_within {m : List Host.Cell} {a o n : Nat} {xs : List Byte} (h : Memory.wf m = true)
    (ha : a + xs.length ≤ Config.memorySize) (ho : o + n ≤ xs.length) :
    Memory.readBytes (Memory.writeBytes m a xs) (a + o) n = bytesAt xs o n := by
  refine List.map_congr_left fun k hk => ?_
  have hk := List.mem_range.1 hk
  rw [Memory.read_writeBytes m a _ xs h ha, if_pos (by omega), show a + o + k - a = o + k by omega]

theorem read_writeBytes_outside {m : List Host.Cell} {a b : Nat} {xs : List Byte} (h : Memory.wf m = true)
    (ha : a + xs.length ≤ Config.memorySize) (hb : b < a ∨ a + xs.length ≤ b) :
    Memory.read (Memory.writeBytes m a xs) b = Memory.read m b := by
  rw [Memory.read_writeBytes m a b xs h ha, if_neg (by omega)]

/-! ## Loading a chunk (R135) -/

@[simp] theorem length_stored (l : ListId) (e : List Byte) : (l.stored e).length = 15 := by
  cases l <;> simp [ListId.stored]

@[simp] theorem length_chunkBytes (l : ListId) (es : List (List Byte)) : (chunkBytes l es).length = 16 * es.length := by
  induction es with
  | nil => rfl
  | cons e es ih =>
    rw [chunkBytes] at ih ⊢
    simp [ih]
    omega

/-- Of lists of one length, set one after another, each stands at its place. -/
theorem getElem?_flatten_map {α β : Type} {f : α → List β} {m : Nat} (hf : ∀ x, (f x).length = m) {xs : List α} {i : Nat}
    {x : α} (h : xs[i]? = some x) {j : Nat} (hj : j < m) : (xs.map f).flatten[m * i + j]? = (f x)[j]? := by
  induction xs generalizing i with
  | nil => cases h
  | cons y ys ih =>
    rw [List.map_cons, List.flatten_cons]
    cases i with
    | zero =>
      obtain rfl : y = x := by simpa using h
      rw [Nat.mul_zero, Nat.zero_add, List.getElem?_append_left (by rw [hf]; exact hj)]
    | succ i =>
      have hi : m * (i + 1) + j = m + (m * i + j) := by ring
      rw [hi, List.getElem?_append_right (by rw [hf]; omega), hf, Nat.add_sub_cancel_left]
      exact ih (by simpa using h)

/-- The entries of a chunk stand one after another, 16 bytes each. -/
theorem bytesAt_chunkBytes {l : ListId} {es : List (List Byte)} {i : Nat} {e : List Byte} (h : es[i]? = some e) :
    bytesAt (chunkBytes l es) (16 * i) 16 = withCheck (l.stored e) := by
  rw [← bytesAt_all (bs := withCheck (l.stored e)) (n := 16) (by simp)]
  refine List.map_congr_left fun j hj => ?_
  rw [chunkBytes, getElem?_flatten_map (fun x => by simp) h (List.mem_range.1 hj), Nat.zero_add]

theorem listArea_le (l : ListId) : l.base + 16 * l.capacity ≤ Config.memorySize := by cases l <;> decide

theorem ofCode_code (l : ListId) : ListId.ofCode (byteOf l.code).toNat = some l := by cases l <;> rfl

/-- The tests of a chunk in order (R135): of a listed count, of a list that is named. -/
theorem chunkCommand_eq (l : ListId) (first : Nat) (count : Byte) (given : List (List Byte)) (s : State)
    (hlen : given.length = 4) :
    chunkCommand (byteOf l.code) first count given s =
      if s.memory.load.loading = false then (s, refused 17 4)
      else if s.loadingBusy = true then (s, busyReply 4)
      else if ¬ (1 ≤ count.toNat ∧ count.toNat ≤ 4) then (s, refused 9 4)
      else if first ≠ (s.memory.load.list l).next then (s, refused 18 4)
      else if l.capacity < first + count.toNat then (s, refused 19 4)
      else if (given.take count.toNat).all l.inRange = false then (s, refused 9 4)
      else
        let x := ((given.take count.toNat).map l.key).foldl LoadList.addKey (s.memory.load.list l)
        ((s.setMemory { s.memory with load := s.memory.load.setList l x }).ask
          (.chunkWrite l first (given.take count.toNat)), acceptedWith (bytesOf 4 x.next)) := by
  unfold chunkCommand
  simp only [ofCode_code, Bool.not_eq_true']
  by_cases hc : 1 ≤ count.toNat ∧ count.toNat ≤ 4
  · have htake : (given ++ List.replicate 4 []).take count.toNat = given.take count.toNat :=
      List.take_append_of_le_length (by omega)
    simp only [htake, if_neg (show ¬ (count.toNat < 1 ∨ 4 < count.toNat) by omega), hc, and_self, not_true_eq_false,
      if_false]
  · simp only [if_pos (show count.toNat < 1 ∨ 4 < count.toNat by omega), hc, not_false_eq_true, if_true]

theorem next_addKey (xs : List (Nat × Nat)) (x : LoadList) :
    (xs.foldl LoadList.addKey x).next = x.next + xs.length := by
  induction xs generalizing x with
  | nil => rfl
  | cons k ks ih =>
    rw [List.foldl_cons, ih, List.length_cons]
    simp only [LoadList.addKey]
    omega

section Chunk
variable {l : ListId} {first : BitVec 32} {count : Byte} {entries : List (List Byte)} {s : State}

/-- A chunk that a test turns away. -/
theorem rollChunk_answers (hs : s.serves = true) {code : Byte} {n : Nat}
    (h : chunkCommand (byteOf l.code) first.toNat count entries s.commandStatus =
      (s.commandStatus, turnedAway code n)) :
    exec (.rollChunk (byteOf l.code) first count entries) s =
      .next { s with port := s.portAfter (code :: bytesOf n 0) .none } :=
  congrArg Host.Outcome.next (take_answers hs h)

theorem rollChunk_accepted (hs : s.serves = true) (hlen : entries.length = 4) (hload : s.memory.load.loading = true)
    (hb : s.memory.busy = none) (hw : s.memory.waiting = []) (hc : 1 ≤ count.toNat ∧ count.toNat ≤ 4)
    (hfirst : first.toNat = (s.memory.load.list l).next)
    (harea : (s.memory.load.list l).next + count.toNat ≤ l.capacity)
    (hrange : (entries.take count.toNat).all l.inRange = true) :
    ∃ y : LoadList, y.next = (s.memory.load.list l).next + count.toNat ∧
      y = ((entries.take count.toNat).map l.key).foldl LoadList.addKey (s.memory.load.list l) ∧
      exec (.rollChunk (byteOf l.code) first count entries) s = .next { s with
        memory := { s.memory with
          load := s.memory.load.setList l y, busy := some ⟨.chunkWrite l first.toNat (entries.take count.toNat), false⟩ }
        port := s.portAfter (0#8 :: bytesOf 4 y.next) .none } := by
  refine ⟨_, ?_, rfl, congrArg Host.Outcome.next ?_⟩
  · rw [next_addKey]
    simp only [List.length_map, List.length_take]
    omega
  · have hbusy : s.loadingBusy = false := by simp [State.loadingBusy, State.asked, hb, hw]
    obtain ⟨p, -, -, hport, htake⟩ := take_of_serves hs
    have hbusy' : State.loadingBusy { s with port := p } = false := hbusy
    rw [htake, hport, chunkCommand_eq _ _ _ _ _ hlen]
    simp only [hload, hbusy', hc, hfirst, hrange, Nat.not_lt.2 harea, Bool.true_eq_false, Bool.false_eq_true,
      if_false, and_self, not_true_eq_false, ne_eq]
    rw [ask_of_free (by exact hb) (by exact hw) (by simp [MemOp.isLookup])]
    rfl

theorem chunkWrite_verified {first : Nat} {given : List (List Byte)}
    (hb : s.memory.busy = some ⟨.chunkWrite l first given, false⟩) (hw : s.memory.waiting = []) :
    exec (.chunkWriteComplete .verified) s = .next { s with
      memory := { s.memory with busy := none }
      attached := { s.attached with
        cells := Memory.writeBytes s.attached.cells (l.base + 16 * first) (chunkBytes l given) } } := by
  refine congrArg Host.Outcome.next ?_
  simp only [State.chunkEnd, hb]
  exact grant_of_no_waiting hw

end Chunk

/-- Settles O38: the tests in order, and the bytes of a chunk in the area of its list. -/
theorem rollChunkWritesEntries : Obligations.RollChunkWritesEntries := by
  refine ⟨fun l first count entries s hs hlen => ?_, fun l first given s hb hw hwf harea => ?_⟩
  · have hcs : s.commandStatus.memory = s.memory := State.commandStatus_memory s
    have hcb : s.commandStatus.loadingBusy = s.loadingBusy := by rw [State.loadingBusy, State.asked, hcs]; rfl
    have hturn := fun (code : Byte) (h : _) => rollChunk_answers (l := l) (first := first) (count := count)
      (entries := entries) hs (code := code) (n := 4) h
    refine ⟨fun h1 => hturn 0x91 ?_, fun h1 h2 => hturn 1 ?_, fun h1 h2 h3 => hturn 0x89 ?_,
      fun h1 h2 h3 h4 => hturn 0x92 ?_, fun h1 h2 h3 h4 h5 => hturn 0x93 ?_, fun h1 h2 h3 h4 h5 h6 => hturn 0x89 ?_,
      rollChunk_accepted hs hlen⟩ <;> rw [chunkCommand_eq _ _ _ _ _ hlen, hcs, hcb]
    · rw [if_pos h1]; rfl
    · rw [if_neg (by simp [h1]), if_pos h2]; rfl
    · rw [if_neg (by simp [h1]), if_neg (by simp [h2]), if_pos h3]; rfl
    · rw [if_neg (by simp [h1]), if_neg (by simp [h2]), if_neg (by simpa using h3), if_pos h4]; rfl
    · rw [if_neg (by simp [h1]), if_neg (by simp [h2]), if_neg (by simpa using h3), if_neg (by simpa using h4), if_pos (by omega)]; rfl
    · rw [if_neg (by simp [h1]), if_neg (by simp [h2]), if_neg (by simpa using h3), if_neg (by simpa using h4), if_neg (by omega), if_pos h6]; rfl
  · have hlen := length_chunkBytes l given
    have hsize : l.base + 16 * first + (chunkBytes l given).length ≤ Config.memorySize := by
      have := listArea_le l
      omega
    refine ⟨_, chunkWrite_verified hb hw, fun i e hi => ?_, fun a ha => ?_, rfl, rfl⟩
    · have hi' : i < given.length := (List.getElem?_eq_some_iff.1 hi).1
      rw [State.entryBytes, State.readBytes, show l.base + 16 * (first + i) = l.base + 16 * first + 16 * i by ring]
      exact (readBytes_writeBytes_within hwf hsize (by omega)).trans (bytesAt_chunkBytes hi)
    · exact read_writeBytes_outside hwf hsize (by omega)

end Sys2Proof.Proofs

/-! The frames of the shared operations: what the line controller, the tables and the work of one lane leave as it
was (chapters 4, 5, 6). -/

namespace Sys2Proof.Proofs
open Sys2Proof Sys2Proof.Machine

/-! ## The line controller -/

/-- Nothing but the line controller changes. -/
def LineOnly (s t : State) : Prop := t = { s with line := t.line }

namespace LineOnly

theorem refl (s : State) : LineOnly s s := Eq.refl s

theorem trans {s t u : State} (h : LineOnly s t) (h' : LineOnly t u) : LineOnly s u := by
  rw [LineOnly] at *
  rw [h', h]

theorem line (s : State) (x : LineCtl) : LineOnly s { s with line := x } := by rfl

theorem foldl {α : Type} {f : State → α → State} (h : ∀ s x, LineOnly s (f s x)) (xs : List α) (s : State) :
    LineOnly s (xs.foldl f s) := by
  induction xs generalizing s with
  | nil => exact refl s
  | cons x xs ih => exact (h s x).trans (ih _)

theorem setQueueOf (s : State) (c : TxClass) (q : List Notice) : LineOnly s (s.setQueueOf c q) := by
  cases c <;> exact line s _

theorem hand (s : State) (n : Notice) : LineOnly s (s.hand n).1 := by
  unfold State.hand
  dsimp only
  split
  · exact setQueueOf s _ _
  · exact refl s

theorem hand_of {s t : State} {n : Notice} {b : Bool} (h : s.hand n = (t, b)) : LineOnly s t := by
  obtain rfl : (s.hand n).1 = t := congrArg Prod.fst h
  exact hand s n

theorem handStamped (s : State) (body : Body) : LineOnly s (s.handStamped body).1 := by
  unfold State.handStamped
  dsimp only
  split
  · exact (line s _).trans (setQueueOf _ _ _)
  · exact refl s

theorem handStamped_of {s t : State} {body : Body} {k : Option Nat} (h : s.handStamped body = (t, k)) :
    LineOnly s t := by
  obtain rfl : (s.handStamped body).1 = t := congrArg Prod.fst h
  exact handStamped s body

theorem markWithdrawn (s : State) (p : Notice → Bool) : LineOnly s (s.markWithdrawn p) := by
  unfold State.markWithdrawn
  repeat' split
  · exact line s _
  all_goals exact refl s

theorem setEngine (s : State) (e : Engine) : LineOnly s (s.setEngine e) := line s _

theorem walk (fuel : Nat) (s : State) : LineOnly s (s.walk fuel) := by
  induction fuel generalizing s with
  | zero => exact refl s
  | succ fuel ih =>
    unfold State.walk
    split
    · split
      · exact setEngine s _
      · split
        · exact ((hand s _).trans (setEngine _ _)).trans (ih _)
        · exact setEngine s _
    all_goals exact refl s

theorem runWalk (s : State) : LineOnly s s.runWalk := walk _ s

theorem engineRequest (s : State) (f : Nat) : LineOnly s (s.engineRequest f) := by
  unfold State.engineRequest
  dsimp only
  split
  · exact (setEngine s _).trans (runWalk _)
  · exact (setEngine s _).trans (runWalk _)
  · exact (setEngine s _).trans (runWalk _)
  · exact setEngine s _
  · exact setEngine s _

theorem releaseEngine (s : State) : LineOnly s s.releaseEngine := by
  unfold State.releaseEngine
  split
  · exact (setEngine s _).trans (runWalk _)
  · exact setEngine s _
  all_goals exact refl s

theorem leftB (s : State) : LineOnly s s.leftB := by
  unfold State.leftB
  split
  · exact (setEngine s _).trans (runWalk _)
  all_goals exact refl s

theorem testOwed (s : State) : LineOnly s s.testOwed := by
  unfold State.testOwed
  repeat' split
  · exact refl s
  · exact (line s _).trans (engineRequest _ _)
  · exact refl s

theorem setOwed (s : State) : LineOnly s s.setOwed := (line s _).trans (testOwed _)

theorem handChange (s : State) (n : Notice) : LineOnly s (s.handChange n) := by
  unfold State.handChange
  split
  · next h => exact hand_of h
  · next h => exact (hand_of h).trans (setOwed _)

theorem handPresence (s : State) : LineOnly s s.handPresence := by
  unfold State.handPresence
  split
  · exact refl s
  · exact hand s _

theorem setPeer (s : State) (n : Nat) (p : Peer) : LineOnly s (s.setPeer n p) := line s _

theorem pushRequest (s : State) (n : Nat) : LineOnly s (s.pushRequest n) := by
  unfold State.pushRequest
  split
  · exact refl s
  · dsimp only
    split
    · exact (setQueueOf s _ _).trans (setPeer _ _ _)
    · split
      · next h => exact (hand_of h).trans (setPeer _ _ _)
      · next h => exact hand_of h

theorem requestRestate (s : State) (n f : Nat) : LineOnly s (s.requestRestate n f) :=
  (setPeer s n _).trans (pushRequest _ n)

theorem pushBroadcast (s : State) : LineOnly s s.pushBroadcast := by
  unfold State.pushBroadcast
  split
  · next h => exact (hand_of h).trans (line _ _)
  · next h => exact (hand_of h).trans (line _ _)

theorem leftS (s : State) : LineOnly s s.leftS := by
  unfold State.leftS
  dsimp only
  refine (testOwed s).trans (LineOnly.trans ?_ (foldl pushRequest _ _))
  split
  · exact pushBroadcast _
  · exact refl _

theorem left (s : State) (c : TxClass) : LineOnly s (s.left c) := by
  cases c
  · exact refl s
  · exact leftS s
  · exact leftB s

theorem withdraw (s : State) (c : TxClass) (p : Notice → Bool) : LineOnly s (s.withdraw c p) := by
  unfold State.withdraw
  dsimp only
  have h := (setQueueOf s c (s.purged c p)).trans (markWithdrawn _ p)
  split
  · exact h.trans (left _ c)
  · exact h

end LineOnly

/-! ## What a transaction gives back (R43) -/

/-- A lend's reservation is released. -/
def reservationBack (s : State) (l : LaneId) (t : Txn) : State :=
  if t.operation = .lend then s.releaseReservation l (t.borrower.getD 0) else s

/-- The trap that a return has CONFIRMED is released. -/
def trapBack (s : State) (t : Txn) : State :=
  match t.trap, t.hold with
  | .trapped, some h => s.releaseTrap (itemTitle (t.item.getD 0)) h.rank (t.item.getD 0)
  | _, _ => s

/-- The BLOCK notice of a lane in AWAIT_LINE is withdrawn. -/
def noticeBack (s : State) (t : Txn) : State :=
  if t.stage = .awaitLine then s.withdraw .u (isBlockNotice t.stamp) else s

/-- The awaiting own action of a block or lift is dropped. -/
def actionBack (s : State) (t : Txn) : State :=
  if s.awaitingOwn t then s.dropAwaiting (t.borrower.getD 0) t.blockReason t.stamp else s

theorem giveBack_eq (s : State) (l : LaneId) (t : Txn) :
    s.giveBack l t = actionBack (noticeBack (trapBack
      ((((reservationBack s l t).giveBackRoom l).dropAsked (isLaneLookup l)).abandonTrap l) t) t) t := rfl

/-! ## The tables -/

/-- Nothing but the line controller, the standing table, the overlay, the trap table, the slip unit and the tones
of the wands changes. -/
def TablesOnly (s t : State) : Prop :=
  t = { s with
    line := t.line, standing := t.standing, overlay := t.overlay, traps := t.traps, slips := t.slips
    wand0 := t.wand0, wand1 := t.wand1 }

namespace TablesOnly

theorem refl (s : State) : TablesOnly s s := Eq.refl s

theorem trans {s t u : State} (h : TablesOnly s t) (h' : TablesOnly t u) : TablesOnly s u := by
  rw [TablesOnly] at *
  rw [h', h]

theorem of_line {s t : State} (h : LineOnly s t) : TablesOnly s t := by
  rw [h]
  rfl

theorem of_slips {s t : State} (h : SlipsOnly s t) : TablesOnly s t := by
  rw [h]
  rfl

theorem lane {s t : State} (h : TablesOnly s t) (l : LaneId) : t.lane l = s.lane l := by
  rw [h]
  cases l <;> rfl

theorem memory {s t : State} (h : TablesOnly s t) : t.memory = s.memory := by rw [h]

theorem port {s t : State} (h : TablesOnly s t) : t.port = s.port := by rw [h]

theorem foldl {α : Type} {f : State → α → State} (h : ∀ s x, TablesOnly s (f s x)) (xs : List α) (s : State) :
    TablesOnly s (xs.foldl f s) := by
  induction xs generalizing s with
  | nil => exact refl s
  | cons x xs ih => exact (h s x).trans (ih _)

theorem setStanding (s : State) (x : Standing) : TablesOnly s (s.setStanding x) := Eq.refl (s.setStanding x)

theorem setOverlay (s : State) (x : Overlay) : TablesOnly s (s.setOverlay x) := Eq.refl (s.setOverlay x)

theorem setTraps (s : State) (x : List TrapRecord) : TablesOnly s (s.setTraps x) := Eq.refl (s.setTraps x)

theorem useEntry (s : State) (b : Nat) (f : Entry → Entry) : TablesOnly s (s.useEntry b f) := by
  rw [useEntry_frame]
  rfl

theorem outOfHand (s : State) (l : LaneId) (b : Nat) : TablesOnly s (s.outOfHand l b) := by
  rw [outOfHand_frame]
  rfl

theorem sourceTone (s : State) (src : Source) (t : Tone) : TablesOnly s (s.sourceTone src t) := by
  cases src with
  | wand w => cases w <;> rfl
  | keyed => rfl
  | port => rfl

theorem resultTone (s : State) (src : Source) (c : ResultClass) : TablesOnly s (s.resultTone src c) := by
  unfold State.resultTone
  split
  · exact sourceTone s src _
  · exact refl s

theorem holdLost (s : State) (hold : Nat × Nat) : TablesOnly s (s.holdLost hold) :=
  foldl (fun s i => of_slips (SlipsOnly.trans (t := (s.setSlip i .free).setQueue (s.slips.queue.filter (· != i))) rfl
    (settlePrinter_slipsOnly _))) _ s

theorem releaseTrap (s : State) (title rank item : Nat) : TablesOnly s (s.releaseTrap title rank item) := by
  unfold State.releaseTrap
  split
  · exact refl s
  · split
    · split
      · next h => exact ((of_line (.handStamped_of h)).trans (setTraps _ _)).trans (holdLost _ _)
      · next h => exact ((of_line (.handStamped_of h)).trans (setTraps _ _)).trans (holdLost _ _)
    · exact refl s

theorem abandonTrap (s : State) (l : LaneId) : TablesOnly s (s.abandonTrap l) := by
  unfold State.abandonTrap
  split
  · exact refl s
  · dsimp only
    split
    all_goals exact (of_line (.withdraw s _ _)).trans (setTraps _ _)

theorem releaseReservation (s : State) (l : LaneId) (b : Nat) : TablesOnly s (s.releaseReservation l b) := by
  unfold State.releaseReservation
  split
  · split
    · exact useEntry s b _
    · exact refl s
  · exact refl s

theorem reservationBack (s : State) (l : LaneId) (t : Txn) : TablesOnly s (reservationBack s l t) := by
  unfold Proofs.reservationBack
  split
  · exact releaseReservation s l _
  · exact refl s

theorem trapBack (s : State) (t : Txn) : TablesOnly s (trapBack s t) := by
  unfold Proofs.trapBack
  split
  · exact releaseTrap s _ _ _
  · exact refl s

theorem noticeBack (s : State) (t : Txn) : TablesOnly s (noticeBack s t) := by
  unfold Proofs.noticeBack
  split
  · exact of_line (.withdraw s _ _)
  · exact refl s

theorem actionBack (s : State) (t : Txn) : TablesOnly s (actionBack s t) := by
  unfold Proofs.actionBack
  split
  · exact useEntry s _ _
  · exact refl s

theorem abandonParked (s : State) : TablesOnly s s.abandonParked := by
  unfold State.abandonParked
  dsimp only
  split
  all_goals rfl

end TablesOnly

/-! ## The result record (R44) -/

/-- A result written, before an end of session that was pending takes effect. -/
def reported (s : State) (l : LaneId) (src : Source) (r : Result) : State :=
  let t := s.mapLane l fun c => { c with
    state := .reporting, txn := none, result := r, unread := true, trapWait := none, blockWait := none }
  let t := ((t.dropTxnEntry l (s.lane l).txn).latch (causeResult l)).resultTone src r.cls
  t.mapLane l fun c => { c with idleTimer := if c.session.isSome then some t.idlePeriod else none }

theorem writeResult_eq (s : State) (l : LaneId) (src : Source) (r : Result) :
    s.writeResult l src r = if ((reported s l src r).lane l).endPending then (reported s l src r).endSession l
      else reported s l src r := rfl

/-! ## A faulted memory port and the work of one lane -/

/-- The memory controller is faulted, its port free with nothing waiting (R142). -/
structure Down (s : State) : Prop where
  faulted : s.memory.faulted = true
  busy : s.memory.busy = none
  waiting : s.memory.waiting = []

/-- A port that is down stays so, with its mark of an unwritten edition and the header copies. -/
structure StaysDown (s t : State) : Prop where
  down : Down t
  beginUnwritten : t.memory.beginUnwritten = s.memory.beginUnwritten
  copies : t.memory.copies = s.memory.copies

theorem StaysDown.trans {s t u : State} (h : StaysDown s t) (h' : StaysDown t u) : StaysDown s u :=
  ⟨h'.down, h'.beginUnwritten.trans h.beginUnwritten, h'.copies.trans h.copies⟩

/-- From `s` to `t` only the lane `l` has worked, as far as lanes go: the other lane stands, a memory port that is
down stays so, and causes latched stay pending. -/
structure LaneWork (l : LaneId) (s t : State) : Prop where
  other : t.lane (otherLane l) = s.lane (otherLane l)
  down : Down s → StaysDown s t
  latched : ∀ k, s.port.pending.getLsbD k = true → t.port.pending.getLsbD k = true

/-- As for the work of a lane, with neither lane at work. -/
structure NoLaneWork (s t : State) : Prop where
  lane : ∀ l, t.lane l = s.lane l
  down : Down s → StaysDown s t
  latched : ∀ k, s.port.pending.getLsbD k = true → t.port.pending.getLsbD k = true

theorem Down.of_memory {s t : State} (hm : t.memory = s.memory) (h : Down s) : StaysDown s t := by
  obtain ⟨hf, hb, hw⟩ := h
  exact ⟨⟨by rw [hm, hf], by rw [hm, hb], by rw [hm, hw]⟩, by rw [hm], by rw [hm]⟩

theorem NoLaneWork.refl (s : State) : NoLaneWork s s := ⟨fun _ => rfl, fun h => h.of_memory rfl, fun _ => id⟩

theorem NoLaneWork.trans {s t u : State} (h : NoLaneWork s t) (h' : NoLaneWork t u) : NoLaneWork s u where
  lane m := (h'.lane m).trans (h.lane m)
  down hd := (h.down hd).trans (h'.down (h.down hd).down)
  latched k hk := h'.latched k (h.latched k hk)

theorem NoLaneWork.of_tables {s t : State} (h : TablesOnly s t) : NoLaneWork s t :=
  ⟨h.lane, fun hd => hd.of_memory h.memory, fun k hk => by rw [h.port]; exact hk⟩

theorem NoLaneWork.of_line {s t : State} (h : LineOnly s t) : NoLaneWork s t := .of_tables (.of_line h)

theorem NoLaneWork.dropAsked (s : State) (p : MemOp → Bool) : NoLaneWork s (s.dropAsked p) where
  lane l := by cases l <;> rfl
  down h := ⟨⟨h.faulted, by simp [State.dropAsked, h.busy], by simp [State.dropAsked, h.waiting]⟩, rfl, rfl⟩
  latched _ := id

theorem NoLaneWork.detachAsked (s : State) (p : MemOp → Bool) : NoLaneWork s (s.detachAsked p) where
  lane l := by cases l <;> rfl
  down h := ⟨⟨h.faulted, by simp [State.detachAsked, h.busy], by simp [State.detachAsked, h.waiting]⟩, rfl, rfl⟩
  latched _ := id

/-- What a transaction gives back is of the tables and the memory port. -/
theorem NoLaneWork.giveBack (s : State) (l : LaneId) (t : Txn) : NoLaneWork s (s.giveBack l t) := by
  rw [giveBack_eq]
  have hdrop := (((of_tables (.reservationBack s l t)).trans (of_tables (.setOverlay _ _))).trans
    (.dropAsked (State.giveBackRoom _ l) (isLaneLookup l))).trans (of_tables (.abandonTrap _ l))
  exact hdrop.trans (of_tables (((TablesOnly.trapBack _ t).trans (.noticeBack _ t)).trans (.actionBack _ t)))

theorem latch_cases (s : State) (k : Nat) : (k = causePeer ∧ s.port.enabled &&& causeBit k = 0 ∧ s.latch k = s) ∨
    s.latch k = { s with port := { s.port with pending := s.port.pending ||| causeBit k } } := by
  unfold State.latch
  split
  · next h => exact .inl ⟨h.1, h.2, rfl⟩
  · exact .inr rfl

theorem NoLaneWork.latch (s : State) (k : Nat) : NoLaneWork s (s.latch k) := by
  obtain ⟨_, _, h⟩ | h := latch_cases s k <;> rw [h]
  · exact .refl s
  · exact ⟨fun l => by cases l <;> rfl, fun hd => hd.of_memory rfl, fun j hj => by simp [hj]⟩

theorem NoLaneWork.laneWork {l : LaneId} {s t : State} (h : NoLaneWork s t) : LaneWork l s t :=
  ⟨h.lane _, h.down, h.latched⟩

namespace LaneWork

variable {l : LaneId}

theorem refl (s : State) : LaneWork l s s := ⟨rfl, fun h => h.of_memory rfl, fun _ => id⟩

theorem trans {s t u : State} (h : LaneWork l s t) (h' : LaneWork l t u) : LaneWork l s u where
  other := h'.other.trans h.other
  down hd := (h.down hd).trans (h'.down (h.down hd).down)
  latched k hk := h'.latched k (h.latched k hk)

theorem then_noLane {s t u : State} (h : LaneWork l s t) (h' : NoLaneWork t u) : LaneWork l s u := h.trans h'.laneWork

theorem of_tables {s t : State} (h : TablesOnly s t) : LaneWork l s t := (NoLaneWork.of_tables h).laneWork

theorem mapLane (s : State) (f : LaneCtl → LaneCtl) : LaneWork l s (s.mapLane l f) :=
  ⟨by simp, fun h => h.of_memory (State.mapLane_memory s l f), fun k hk => by simpa using hk⟩

theorem mapTxn (s : State) (f : Txn → Txn) : LaneWork l s (s.mapTxn l f) := mapLane s _

theorem setSessionSlip (s : State) (i : Option Nat) : LaneWork l s (s.setSessionSlip l i) := mapLane s _

theorem endSession (s : State) : LaneWork l s (s.endSession l) := by
  cases h : (s.lane l).session with
  | none => rw [endSession_of_none h]; exact mapLane s _
  | some ss =>
    rw [endSession_eq h]
    refine LaneWork.trans (t := State.mapLane _ l sessionEnded) (LaneWork.trans ?_ (mapLane _ _))
      (of_tables ((TablesOnly.outOfHand _ _ _).trans (.of_slips (settlePrinter_slipsOnly _))))
    obtain ⟨_, hc⟩ | ⟨i, _, hc⟩ := completeSlip_cases h (s.entryOf ss.borrower).count (s.entryOf ss.borrower).balance
      (s.rules.warningMark (s.entryOf ss.borrower).balance) <;> rw [hc]
    · exact refl s
    · exact (of_tables (.of_slips (SlipsOnly.trans (t := s.addLine i _) rfl (joinQueue_slipsOnly _ i)))).trans
        (setSessionSlip _ none)

theorem dropTxnEntry (s : State) (t : Option Txn) : LaneWork l s (s.dropTxnEntry l t) := by
  unfold State.dropTxnEntry
  repeat' split
  · exact refl s
  · exact of_tables (.outOfHand s l _)
  all_goals exact refl s

theorem of_reported (s : State) (src : Source) (r : Result) : LaneWork l s (reported s l src r) := by
  unfold reported
  exact ((((mapLane s _).trans (dropTxnEntry _ _)).then_noLane (.latch _ _)).trans (of_tables (.resultTone _ _ _))).trans
    (mapLane _ _)

theorem writeResult (s : State) (src : Source) (r : Result) : LaneWork l s (s.writeResult l src r) := by
  rw [writeResult_eq]
  split
  · exact (of_reported s src r).trans (endSession _)
  · exact of_reported s src r

theorem endTxn (s : State) (c : ResultClass) (why : Reason) : LaneWork l s (s.endTxn l c why) := by
  unfold State.endTxn
  split
  · exact refl s
  · exact (NoLaneWork.giveBack s l _).laneWork.trans (writeResult _ _ _)

end LaneWork

end Sys2Proof.Proofs

/-! The memory controller's fault and the end of a failing append (R137, R142, R188). -/

namespace Sys2Proof.Proofs
open Sys2Proof Sys2Proof.Machine

/-! ## What a written result leaves in its lane (R44) -/

section Written
variable (s : State) (l : LaneId) (src : Source) (r : Result)

@[simp] theorem lane_dropTxnEntry (t : Option Txn) (m : LaneId) : (s.dropTxnEntry l t).lane m = s.lane m := by
  unfold State.dropTxnEntry
  repeat' split
  · rfl
  · exact lane_outOfHand s l m _
  all_goals rfl

@[simp] theorem lane_latch (k : Nat) (m : LaneId) : (s.latch k).lane m = s.lane m := (NoLaneWork.latch s k).lane m

@[simp] theorem lane_resultTone (c : ResultClass) (m : LaneId) : (s.resultTone src c).lane m = s.lane m :=
  (TablesOnly.resultTone s src c).lane m

/-- The session idle timer of a lane that reports: it runs for an open session. -/
theorem idleTimer_reported : ∃ timer, (reported s l src r).lane l = { s.lane l with
    state := .reporting, txn := none, result := r, unread := true, trapWait := none, blockWait := none
    idleTimer := timer } :=
  ⟨_, by simp only [reported, State.lane_mapLane, lane_resultTone, lane_latch, lane_dropTxnEntry]; rfl⟩

/-- The end of a session leaves the lane's work and result alone, but for SESSION, which becomes IDLE. -/
theorem lane_endSession : ∃ session timer, (s.endSession l).lane l = { s.lane l with
    session := session, endPending := false, idleTimer := timer
    state := if (s.lane l).session.isSome ∧ (s.lane l).state = .session then .idle else (s.lane l).state } := by
  cases h : (s.lane l).session with
  | none =>
    refine ⟨none, (s.lane l).idleTimer, ?_⟩
    rw [endSession_of_none h, State.lane_mapLane]
    simp [← h]
  | some ss =>
    obtain ⟨hlane, -⟩ := lane_completeSlip h (s.entryOf ss.borrower).count (s.entryOf ss.borrower).balance
      (s.rules.warningMark (s.entryOf ss.borrower).balance)
    refine ⟨none, none, ?_⟩
    rw [endSession_eq h, lane_settlePrinter, lane_outOfHand, State.lane_mapLane, hlane]
    simp [sessionEnded]

/-- A lane whose result is written reports it. -/
structure Reports (s : State) (l : LaneId) (r : Result) : Prop where
  state : (s.lane l).state = .reporting
  result : (s.lane l).result = r
  txn : (s.lane l).txn = none
  unread : (s.lane l).unread = true

variable {s l src r}

theorem Reports.endSession (h : Reports s l r) : Reports (s.endSession l) l r := by
  obtain ⟨session, timer, hl⟩ := lane_endSession s l
  obtain ⟨hstate, hresult, htxn, hunread⟩ := h
  exact ⟨by simp [hl, hstate], by simp [hl, hresult], by simp [hl, htxn], by simp [hl, hunread]⟩

theorem Reports.of_lane {t : State} (h : Reports s l r) (hl : t.lane l = s.lane l) : Reports t l r :=
  ⟨hl ▸ h.state, hl ▸ h.result, hl ▸ h.txn, hl ▸ h.unread⟩

theorem reports_writeResult : Reports (s.writeResult l src r) l r := by
  have h : Reports (reported s l src r) l r := by
    obtain ⟨timer, hl⟩ := idleTimer_reported s l src r
    exact ⟨by rw [hl], by rw [hl], by rw [hl], by rw [hl]⟩
  rw [writeResult_eq]
  split
  · exact h.endSession
  · exact h

/-- A transaction that ends otherwise than DONE is reported as it ended. -/
theorem reports_endTxn {t : Txn} (h : (s.lane l).txn = some t) (c : ResultClass) (why : Reason) :
    Reports (s.endTxn l c why) l ((s.giveBack l t).endedResult l t c why) := by
  simp only [State.endTxn, h]
  exact reports_writeResult

theorem endedResult_end (t : Txn) (c : ResultClass) (why : Reason) :
    (s.endedResult l t c why).cls = c ∧ (s.endedResult l t c why).reason = why ∧
      (s.endedResult l t c why).operation = t.operation := by
  unfold State.endedResult
  dsimp only
  split
  all_goals exact ⟨rfl, rfl, rfl⟩

end Written

/-! ## The answers of a faulted controller (R142) -/

namespace LaneWork
variable {l : LaneId}

theorem appendFailed (s : State) : LaneWork l s (s.appendFailed l) := endTxn s _ _

/-- A faulted controller fails the append at once. -/
theorem requestAppend {s : State} (hf : s.memory.faulted = true) (stamped : Bool) :
    LaneWork l s (s.requestAppend l stamped) := by
  unfold State.requestAppend
  split
  · exact refl s
  · split
    · exact mapTxn s _
    · dsimp only
      have hstamp : TablesOnly s (if stamped then s else s.takeStamp) := by
        split
        · exact .refl s
        · exact .of_line (.line s _)
      rw [if_pos (by rw [State.mapTxn, State.mapLane_memory, hstamp.memory]; exact hf)]
      exact ((of_tables hstamp).trans (mapTxn _ _)).trans (appendFailed _)

theorem setAsideRoom {s t : State} {n : Nat} (h : s.setAsideRoom l n = some t) : TablesOnly s t := by
  unfold State.setAsideRoom at h
  split at h
  · cases h; exact .refl s
  · obtain ⟨o, -, rfl⟩ := Option.map_eq_some_iff.1 h
    exact .setOverlay s _

theorem commitItem {s : State} (hf : s.memory.faulted = true) (n : Nat) : LaneWork l s (s.commitItem l n) := by
  unfold State.commitItem
  split
  · exact endTxn s _ _
  · split
    · exact endTxn s _ _
    · next h =>
      have hroom := setAsideRoom h
      exact (of_tables hroom).trans (requestAppend (by rw [hroom.memory, hf]) false)

theorem commitReturn {s : State} (hf : s.memory.faulted = true) : LaneWork l s (s.commitReturn l) := by
  unfold State.commitReturn
  split
  · exact refl s
  · dsimp only
    split
    · exact (mapLane s _).trans (endTxn _ _ _)
    · split
      · exact (mapLane s _).trans (endTxn _ _ _)
      · exact ((mapLane s _).trans (mapTxn _ _)).trans (commitItem (by simpa [State.mapTxn] using hf) _)

theorem returnOn {s : State} (hf : s.memory.faulted = true) (o : TrapOutcome) : LaneWork l s (s.returnOn l o) :=
  (mapTxn s _).trans (commitReturn (by simpa [State.mapTxn] using hf))

theorem laneFaultAnswer {s : State} (hf : s.memory.faulted = true) (op : MemOp) :
    LaneWork l s (s.laneFaultAnswer l op) := by
  unfold State.laneFaultAnswer
  split
  · exact appendFailed s
  · split
    · split
      · exact returnOn hf _
      · exact endTxn s _ _
    · exact refl s
  · exact endTxn s _ _

/-- A choice that the manual leaves open is counted. -/
theorem countRace (s : State) : LaneWork l s { s with races := s.races + 1 } :=
  ⟨by cases l <;> rfl, fun h => h.of_memory rfl, fun _ => id⟩

theorem faultLane {s : State} (hf : s.memory.faulted = true) (requests : List MemRequest) (failing : Bool) :
    LaneWork l s (s.faultLane requests failing l) := by
  unfold State.faultLane
  split
  · exact refl s
  · split
    · exact laneFaultAnswer hf _
    · dsimp only
      split
      · exact (countRace s).trans (laneFaultAnswer (by exact hf) _)
      · exact countRace s

theorem closeLane (s : State) : LaneWork l s (s.closeLane l) := by
  unfold State.closeLane
  dsimp only
  split
  · exact ((endTxn s _ _).trans (endSession _)).trans (mapLane _ _)
  · exact (endSession s).trans (mapLane _ _)

end LaneWork

/-- A lane at the station's change to FAULT is CLOSED; one that reports goes on reporting its result. -/
theorem closeLane_lane (s : State) (l : LaneId) : ((s.closeLane l).lane l).state = .closed ∧
    ∀ r, Reports s l r → ((s.closeLane l).lane l).result = r := by
  refine ⟨by unfold State.closeLane; simp, fun r hr => ?_⟩
  have hbusy : (s.lane l).busy = false := by simp [LaneCtl.busy, hr.state]
  unfold State.closeLane
  simp only [hbusy, Bool.false_eq_true, if_false, State.lane_mapLane]
  exact hr.endSession.result

namespace NoLaneWork

theorem of_upload (s : State) (x : Upload) : NoLaneWork s (s.setUpload x) :=
  ⟨fun l => by cases l <;> rfl, fun h => h.of_memory rfl, fun _ => id⟩

theorem endSender (s : State) (o : UploadOutcome) : NoLaneWork s (s.endSender o) := by
  unfold State.endSender
  exact (((dropAsked s _).trans (detachAsked _ _)).trans (of_upload _ _)).trans (latch _ _)

theorem settle {s : State} (hf : s.memory.faulted = true) : NoLaneWork s s.settle := by
  unfold State.settle State.askUpload
  simp only [hf, if_true]
  split
  · split
    all_goals exact endSender s _
  · exact refl s

end NoLaneWork

/-! ## The station's change to FAULT (R19, R188) -/

theorem beginWork_lineOnly_station (s : State) : LineOnly s s.beginWork := by
  unfold State.beginWork
  split
  · exact (LineOnly.line s _).trans (LineOnly.handPresence _)
  · exact .refl s

/-- The station's change to FAULT closes both lanes and leaves a port that is down so. -/
structure StationFaulted (s t : State) : Prop where
  station : t.station = .fault
  closed : ∀ l, (t.lane l).state = .closed
  reports : ∀ l r, Reports s l r → (t.lane l).result = r
  down : Down s → StaysDown s t
  latched : ∀ k, s.port.pending.getLsbD k = true → t.port.pending.getLsbD k = true

/-- The state at which the lanes close. -/
def faultBegun (s : State) : State :=
  { s.beginWork with station := .fault, minimumTimer := none, quietTimer := none }

theorem noLaneWork_faultBegun (s : State) : NoLaneWork s (faultBegun s) :=
  (NoLaneWork.of_line (beginWork_lineOnly_station s)).trans
    ⟨fun l => by cases l <;> rfl, fun h => h.of_memory rfl, fun _ => id⟩

theorem stationFault_eq (s : State) :
    s.stationFault = (((faultBegun s).closeLane .a).closeLane .b).releaseEngine.testOwed := rfl

theorem stationFaulted (s : State) : StationFaulted s s.stationFault := by
  have hbegun := noLaneWork_faultBegun s
  have ha := LaneWork.closeLane (l := .a) (faultBegun s)
  have hb := LaneWork.closeLane (l := .b) ((faultBegun s).closeLane .a)
  have hlast := NoLaneWork.of_line
    ((LineOnly.releaseEngine (((faultBegun s).closeLane .a).closeLane .b)).trans (LineOnly.testOwed _))
  have hlaneA : s.stationFault.lane .a = ((faultBegun s).closeLane .a).lane .a := by
    rw [stationFault_eq, hlast.lane]
    exact hb.other
  have hlaneB : s.stationFault.lane .b = (((faultBegun s).closeLane .a).closeLane .b).lane .b := by
    rw [stationFault_eq, hlast.lane]
  obtain ⟨hclosedA, hresultA⟩ := closeLane_lane (faultBegun s) .a
  obtain ⟨hclosedB, hresultB⟩ := closeLane_lane ((faultBegun s).closeLane .a) .b
  have hall := ((hbegun.laneWork (l := .a)).trans ha)
  refine ⟨?_, fun l => ?_, fun l r hr => ?_, fun hd => ?_, fun k hk => ?_⟩
  · have hstation := congrArg (fun b => b.2.2.2.1)
      ((State.testOwed_base _).trans ((State.releaseEngine_base _).trans
        ((State.closeLane_base ((faultBegun s).closeLane .a) .b).trans (State.closeLane_base (faultBegun s) .a))))
    exact hstation
  · cases l
    · rw [hlaneA, hclosedA]
    · rw [hlaneB, hclosedB]
  · have hr' := hr.of_lane (hbegun.lane l)
    cases l
    · rw [hlaneA]; exact hresultA r hr'
    · rw [hlaneB]; exact hresultB r (hr'.of_lane ha.other)
  · have hdown := hall.down hd
    have hdown' := hb.down hdown.down
    exact (hdown.trans hdown').trans (hlast.down hdown'.down)
  · exact hlast.latched k (hb.latched k (hall.latched k hk))

/-! ## The controller's faulted state (R142) -/

/-- The requests outstanding as the controller faults, the one in progress first. -/
def outstanding (s : State) : List MemRequest := s.memory.busy.toList ++ s.memory.waiting

/-- The controller down, with nothing asked for and no load or replay. -/
def portDown (s : State) : State :=
  s.setMemory { s.memory with
    faulted := true, busy := none, waiting := [], requested := 0, load := .reset, replay := none
    query := { s.memory.query with state := if s.memory.query.state = .none then .none else .ended } }

/-- The controller down, its sender ended or settled, before the lanes are answered. -/
def faultLatched (s : State) : State :=
  let t := (portDown s).abandonParked
  let t := if (outstanding s).any fun r => r.op.isUpload && !r.discard then t.endSender .fault else t.settle
  t.latch causeStationFault

theorem portDown_down (s : State) : Down (portDown s) := ⟨rfl, rfl, rfl⟩

theorem noLaneWork_faultLatched (s : State) : NoLaneWork (portDown s) (faultLatched s) := by
  have htables := NoLaneWork.of_tables (TablesOnly.abandonParked (portDown s))
  have hd := htables.down (portDown_down s)
  refine (htables.trans ?_).trans (.latch _ causeStationFault)
  split
  · exact .endSender _ _
  · exact .settle hd.down.faulted

theorem faultLatched_latched (s : State) : (faultLatched s).port.pending.getLsbD 0 = true := by
  unfold faultLatched
  obtain ⟨h, -⟩ | h := latch_cases _ causeStationFault
  · cases h
  · rw [h]
    simp [causeBit, causeStationFault]

/-- The controller's fault takes the station to FAULT. -/
structure MemFaulted (s t : State) : Prop where
  station : t.station = .fault
  down : Down t
  beginUnwritten : t.memory.beginUnwritten = s.memory.beginUnwritten
  copies : t.memory.copies = s.memory.copies
  latched : t.port.pending.getLsbD 0 = true
  closed : ∀ l, (t.lane l).state = .closed
  attached : t.attached = s.attached

section MemFault
variable (s : State)

/-- An append was in progress as the controller faulted. -/
def appendFailing : Bool := (s.memory.busy.map fun r => r.op.isAppend).getD false

/-- The state at which lane B is answered: lane A has been. -/
def faultedAtA : State := (faultLatched s).faultLane (outstanding s) (appendFailing s) .a

def faultedAtB : State := (faultedAtA s).faultLane (outstanding s) (appendFailing s) .b

theorem memFault_eq : s.memFault = (faultedAtB s).stationFault := rfl

theorem faultLatched_down : StaysDown (portDown s) (faultLatched s) :=
  (noLaneWork_faultLatched s).down (portDown_down s)

theorem laneWork_faultedAtA : LaneWork .a (faultLatched s) (faultedAtA s) :=
  .faultLane (faultLatched_down s).down.faulted _ _

theorem faultedAtA_down : StaysDown (portDown s) (faultedAtA s) :=
  (faultLatched_down s).trans ((laneWork_faultedAtA s).down (faultLatched_down s).down)

theorem laneWork_faultedAtB : LaneWork .b (faultedAtA s) (faultedAtB s) :=
  .faultLane (faultedAtA_down s).down.faulted _ _

theorem faultedAtB_down : StaysDown (portDown s) (faultedAtB s) :=
  (faultedAtA_down s).trans ((laneWork_faultedAtB s).down (faultedAtA_down s).down)

theorem memFaulted : MemFaulted s s.memFault := by
  have hst := stationFaulted (faultedAtB s)
  rw [← memFault_eq] at hst
  have hd := (faultedAtB_down s).trans (hst.down (faultedAtB_down s).down)
  exact ⟨hst.station, hd.down, hd.beginUnwritten, hd.copies,
    hst.latched 0 ((laneWork_faultedAtB s).latched 0 ((laneWork_faultedAtA s).latched 0 (faultLatched_latched s))),
    hst.closed, congrArg Prod.fst (State.memFault_vault s)⟩

end MemFault

/-! ## A failing append (R137) -/

/-- The lane of a failing append is answered at once: its work ends FAILED(MEMORY_FAULT). -/
theorem reports_faultLane {s t : State} {r : JournalRecord} {x : Txn}
    (hb : s.memory.busy = some ⟨.append r, false⟩) (hx : (t.lane r.lane).txn = some x) :
    ∃ y, Reports (t.faultLane (outstanding s) (appendFailing s) r.lane) r.lane y ∧
      y.cls = .failed ∧ y.reason = .memoryFault ∧ y.operation = x.operation := by
  have hfind : (outstanding s).find? (fun q => q.op.ofLane == some r.lane && !q.discard) = some ⟨.append r, false⟩ := by
    simp [outstanding, hb, MemOp.ofLane]
  have hfailing : appendFailing s = true := by simp [appendFailing, hb, MemOp.isAppend]
  have heq : t.faultLane (outstanding s) (appendFailing s) r.lane = t.endTxn r.lane .failed .memoryFault := by
    simp only [State.faultLane, hfind, hfailing]
    rfl
  rw [heq]
  exact ⟨_, reports_endTxn hx _ _, endedResult_end _ _ _⟩

theorem memFault_failingAppend {s : State} {r : JournalRecord} {x : Txn}
    (hb : s.memory.busy = some ⟨.append r, false⟩) (hx : (s.lane r.lane).txn = some x) :
    (s.memFault.lane r.lane).result.cls = .failed ∧ (s.memFault.lane r.lane).result.reason = .memoryFault ∧
      (s.memFault.lane r.lane).result.operation = x.operation := by
  have hlatched : ∀ l, (faultLatched s).lane l = s.lane l := fun l =>
    ((noLaneWork_faultLatched s).lane l).trans (by cases l <;> rfl)
  have hreports : ∃ y, Reports (faultedAtB s) r.lane y ∧
      y.cls = .failed ∧ y.reason = .memoryFault ∧ y.operation = x.operation := by
    cases hl : r.lane with
    | a =>
      obtain ⟨y, hy, hend⟩ := reports_faultLane (t := faultLatched s) hb (by rw [hlatched, hx])
      rw [hl] at hy
      exact ⟨y, hy.of_lane (laneWork_faultedAtB s).other, hend⟩
    | b =>
      obtain ⟨y, hy, hend⟩ := reports_faultLane (t := faultedAtA s) hb
        (by rw [hl, show (faultedAtA s).lane .b = _ from (laneWork_faultedAtA s).other, otherLane, hlatched, ← hl, hx])
      rw [hl] at hy
      exact ⟨y, hy, hend⟩
  obtain ⟨y, hy, hend⟩ := hreports
  rw [memFault_eq, (stationFaulted _).reports _ _ hy]
  exact hend

theorem slotArea_le (n : Nat) : slotAddress n + 32 ≤ Config.memorySize := by
  have : n % 16384 < 16384 := Nat.mod_lt _ (by decide)
  simp only [slotAddress, Config.journalBase, Config.journalSlots, Config.memorySize]
  omega

/-- Settles O36: either way of failing is the controller's fault, after a write that stays within the slot. -/
theorem failingAppendsFaultTheStation : Obligations.FailingAppendsFaultTheStation := by
  intro r x s hb hx hwf e he
  have hcopies : ∀ good, (s.writeField .head (r.number + 1) good).memory.copies = s.memory.copies := fun _ => rfl
  have hfault : ∀ u : State, u.memory = s.memory → (∀ l, u.lane l = s.lane l) →
      exec (.appendComplete e) s = .next u.memFault →
      (∀ a, a < slotAddress r.number ∨ slotAddress r.number + 32 ≤ a →
        Memory.read u.attached.cells a = Memory.read s.attached.cells a) →
      ∃ t, exec (.appendComplete e) s = .next t ∧ t.station = .fault ∧ t.memory.faulted = true ∧
        t.memory.busy = none ∧ t.memory.waiting = [] ∧ t.port.pending.getLsbD 0 = true ∧
        (t.lane .a).state = .closed ∧ (t.lane .b).state = .closed ∧ (t.lane r.lane).result.cls = .failed ∧
        (t.lane r.lane).result.reason = .memoryFault ∧ (t.lane r.lane).result.operation = x.operation ∧
        t.memory.copies = s.memory.copies ∧
        (∀ a, a < slotAddress r.number ∨ slotAddress r.number + 32 ≤ a →
          Memory.read t.attached.cells a = Memory.read s.attached.cells a) := by
    intro u hm hl hexec hread
    have hf := memFaulted u
    obtain ⟨hcls, hreason, hop⟩ := memFault_failingAppend (s := u) (r := r) (x := x) (by rw [hm, hb]) (by rw [hl, hx])
    refine ⟨u.memFault, hexec, hf.station, hf.down.faulted, hf.down.busy, hf.down.waiting, hf.latched, hf.closed .a,
      hf.closed .b, hcls, hreason, hop, by rw [hf.copies, hm], fun a ha => ?_⟩
    rw [hf.attached]
    exact hread a ha
  obtain rfl | ⟨bs, hne, rfl⟩ := he
  · refine hfault (s.writeField .head (r.number + 1) false) rfl (fun l => by cases l <;> rfl) ?_ fun _ _ => rfl
    refine congrArg Host.Outcome.next ?_
    simp only [State.appendEnd, hb]
  · refine hfault ((s.writeField .head (r.number + 1) true).writeBytes (slotAddress r.number) (bytesAt bs 0 32)) rfl
      (fun l => by cases l <;> rfl) ?_ fun a ha => ?_
    · refine congrArg Host.Outcome.next ?_
      simp only [State.appendEnd, hb, if_neg hne]
    · refine read_writeBytes_outside hwf ?_ ?_
      · rw [length_bytesAt]; exact slotArea_le r.number
      · rw [length_bytesAt]; exact ha

end Sys2Proof.Proofs

/-! The check digit and the decoding of a clean scan (R10 to R13). -/

namespace Sys2Proof.Proofs
open Sys2Proof Sys2Proof.Machine

/-! ## The check digit (R13) -/

/-- The weighted sum of digits, the first of which stands at place `k`. -/
def weighted (ds : List Nat) (k : Nat) : Nat := ((ds.zipIdx k).map fun (d, i) => if i % 2 = 0 then 3 * d else d).sum

def weight (k : Nat) : Nat := if k % 2 = 0 then 3 else 1

theorem weighted_cons (d : Nat) (ds : List Nat) (k : Nat) :
    weighted (d :: ds) k = weight k * d + weighted ds (k + 1) := by
  simp only [weighted, weight, List.zipIdx_cons, List.map_cons, List.sum_cons]
  split <;> simp

/-- A digit put at place `i` replaces its own share of the sum. -/
theorem weighted_set {ds : List Nat} {i old : Nat} (h : ds[i]? = some old) (d k : Nat) :
    weighted (ds.set i d) k + weight (k + i) * old = weighted ds k + weight (k + i) * d := by
  induction ds generalizing i k with
  | nil => cases h
  | cons x xs ih =>
    cases i with
    | zero =>
      obtain rfl : x = old := by simpa using h
      simp only [List.set_cons_zero, weighted_cons, Nat.add_zero]
      omega
    | succ i =>
      have := ih (by simpa using h) (k + 1)
      rw [show k + 1 + i = k + (i + 1) by omega] at this
      rw [List.set_cons_succ, weighted_cons, weighted_cons]
      omega

/-- A label holds when the weighted sum of its digits, the last of weight 1, is a multiple of 10. -/
theorem checkHolds_concat_iff {ds : List Nat} {c : Nat} (hc : c ≤ 9) :
    checkHolds (ds ++ [c]) = true ↔ (weighted ds 0 + c) % 10 = 0 := by
  have hsum : checkDigit ds = (10 - weighted ds 0 % 10) % 10 := rfl
  simp only [checkHolds, List.getLast?_append_cons, List.getLast?_singleton, List.dropLast_concat, hsum, beq_iff_eq,
    Option.some.injEq]
  omega

theorem weight_cases (k : Nat) : weight k = 3 ∨ weight k = 1 := by
  unfold weight
  split
  · exact .inl rfl
  · exact .inr rfl

/-- No single digit can be replaced by another: the weights are prime to 10. -/
theorem checkHolds_set {ds : List Nat} {i d : Nat} (hds : ∀ x ∈ ds, x ≤ 9) (hi : i < ds.length) (hd : d ≤ 9)
    (hne : ds[i]? ≠ some d) (h : checkHolds ds = true) : checkHolds (ds.set i d) = false := by
  obtain rfl | ⟨init, c, rfl⟩ := List.eq_nil_or_concat' ds
  · simp at hi
  have hc : c ≤ 9 := hds c (by simp)
  rw [checkHolds_concat_iff hc] at h
  rw [Bool.eq_false_iff]
  by_cases hlt : i < init.length
  · obtain ⟨old, hold⟩ : ∃ old, init[i]? = some old := ⟨_, List.getElem?_eq_getElem hlt⟩
    have hold9 : old ≤ 9 := hds old (List.mem_append_left _ (List.mem_of_getElem? hold))
    have hne' : old ≠ d := fun e => hne (by rw [List.getElem?_append_left hlt, hold, e])
    have hset := weighted_set hold d 0
    rw [List.set_append_left _ _ hlt, Ne, checkHolds_concat_iff hc]
    obtain hw | hw := weight_cases (0 + i) <;> rw [hw] at hset <;> omega
  · obtain rfl : i = init.length := by simp at hi; omega
    have hne' : c ≠ d := fun e => hne (by simp [e])
    rw [List.set_append_right _ _ (Nat.le_refl _), Nat.sub_self, List.set_cons_zero, Ne, checkHolds_concat_iff hd]
    omega

/-! ## Characters (R11, section 1.5) -/

/-- The wide positions of the digits. -/
def widePairs : List (Nat × Nat) := [(1, 2), (1, 3), (1, 4), (1, 5), (2, 3), (2, 4), (2, 5), (3, 4), (3, 5), (4, 5)]

/-- The counts of a clean character. -/
def character (narrow wide d : Nat) : List Nat := (List.range 5).map fun j =>
  if widePairs[d]?.map Prod.fst = some (j + 1) ∨ widePairs[d]?.map Prod.snd = some (j + 1) then wide else narrow

section Character
variable {ratio narrow wide gap d : Nat}

@[simp] theorem length_character : (character narrow wide d).length = 5 := by simp [character]

/-- A clean character's smaller wide and largest narrow count, read in either direction. -/
theorem wideNarrow_character (h : narrow < wide) (hd : d ≤ 9) :
    wideNarrow (character narrow wide d) = (wide, narrow) ∧
      wideNarrow (character narrow wide d).reverse = (wide, narrow) := by
  have hle := h.le
  have hnot := h.not_ge
  interval_cases d <;>
    simp [character, widePairs, List.range_succ, wideNarrow, sortDesc, insertDesc, hle, hnot]

/-- The positions of its wide counts spell its digit. -/
theorem digitOf_character (h : narrow < wide) (hd : d ≤ 9) :
    digitOf ((List.range 5).filterMap fun j =>
      if narrow < ((character narrow wide d)[j]?).getD 0 then some (j + 1) else none) = d := by
  interval_cases d <;> simp [character, widePairs, List.range_succ, h] <;> rfl

/-- A clean character by its ratio and the gap that follows. -/
theorem decodeCharacter_character (h : narrow < wide) (hd : d ≤ 9) :
    decodeCharacter ratio (character narrow wide d) gap =
      if 8 * wide < ratio * narrow then .error .badRatio
      else if (wide + narrow + 1) / 2 ≤ gap then .error .gap else .ok d := by
  obtain ⟨hwn, -⟩ := wideNarrow_character h hd
  simp only [decodeCharacter, threshold, hwn, if_neg h.ne', digitOf_character h hd]

end Character

/-! ## Clean scans (R10 to R13) -/

/-- A scan of clean characters between a lead and a tail. -/
def scanOf (narrow wide gap : Nat) (ds start stop : List Nat) : List Nat :=
  start ++ [gap] ++ (ds.map fun d => character narrow wide d ++ [gap]).flatten ++ stop

/-- Counts against a threshold, true for wide. -/
def wides (t : Nat) (xs : List Nat) : List Bool := xs.map fun c => decide (t ≤ c)

section Scan
variable {ratio narrow wide gap : Nat} {ds start stop : List Nat}

theorem length_scan (hstart : start.length = 3) (hstop : stop.length = 3) :
    (scanOf narrow wide gap ds start stop).length = 6 * ds.length + 7 := by
  have hflat : (ds.map fun d => character narrow wide d ++ [gap]).flatten.length = 6 * ds.length := by
    induction ds with
    | nil => rfl
    | cons d ds ih =>
      rw [List.map_cons, List.flatten_cons, List.length_append, ih, List.length_append, length_character,
        List.length_singleton, List.length_cons]
      omega
  simp only [scanOf, List.length_append, hstart, hstop, hflat, List.length_singleton]
  omega

/-- A pattern is of three counts in a row. -/
theorem pattern_eq {counts a xs b : List Nat} (h : counts = a ++ xs ++ b) (hxs : xs.length = 3) {i : Nat}
    (hi : i = a.length + 1) (t : Nat) : pattern counts i t = wides t xs := by
  subst h hi
  obtain ⟨x, y, z, rfl⟩ := List.length_eq_three.1 hxs
  simp [pattern, wides, element, List.range_succ, List.getElem?_append]

/-- The first character is of the five counts after a lead of three and its gap. -/
theorem characterCounts_first {counts a xs b : List Nat} (h : counts = a ++ xs ++ b) (ha : a.length = 4)
    (hxs : xs.length = 5) : characterCounts counts 1 = xs := by
  subst h
  refine List.ext_getElem (by simp [characterCounts, hxs]) fun j hj hj' => ?_
  simp only [characterCounts, List.getElem_map, List.getElem_range, element]
  rw [List.append_assoc, List.getElem?_append_right (by omega), List.getElem?_append_left (by omega),
    List.getElem?_eq_getElem (by omega), Option.getD_some]
  congr 1
  omega

theorem digitsOfLength_scan (hlen : ds.length = 6 ∨ ds.length = 14) (hstart : start.length = 3)
    (hstop : stop.length = 3) : digitsOfLength (scanOf narrow wide gap ds start stop).length = some ds.length := by
  rw [length_scan hstart hstop]
  obtain h | h := hlen <;> rw [h] <;> rfl

theorem pattern_lead (hstart : start.length = 3) (t : Nat) :
    pattern (scanOf narrow wide gap ds start stop) 1 t = wides t start :=
  pattern_eq (a := []) (b := [gap] ++ (ds.map fun d => character narrow wide d ++ [gap]).flatten ++ stop)
    (by simp only [scanOf, List.append_assoc, List.nil_append]) hstart rfl t

theorem pattern_tail (hstart : start.length = 3) (hstop : stop.length = 3) (t : Nat) :
    pattern (scanOf narrow wide gap ds start stop) ((scanOf narrow wide gap ds start stop).length - 2) t =
      wides t stop := by
  have hlen := length_scan (narrow := narrow) (wide := wide) (gap := gap) (ds := ds) hstart hstop
  refine pattern_eq (b := []) (List.append_nil _).symm hstop ?_ t
  rw [scanOf, List.length_append] at hlen
  rw [scanOf, List.length_append]
  omega

/-- Element `6 k - 1 + j` of a scan is count `j` of its character `k`, the gap after it count 5. -/
theorem element_scan (hstart : start.length = 3) {k d : Nat} (hd : ds[k]? = some d) {j : Nat} (hj : j < 6) :
    element (scanOf narrow wide gap ds start stop) (6 * (k + 1) - 1 + j) =
      ((character narrow wide d ++ [gap])[j]?).getD 0 := by
  have hflat := getElem?_flatten_map (f := fun d => character narrow wide d ++ [gap]) (m := 6) (by simp) hd hj
  have hin : (character narrow wide d ++ [gap])[j]? ≠ none := by simp; omega
  have hlt : 6 * k + j < (ds.map fun d => character narrow wide d ++ [gap]).flatten.length := by
    rw [← hflat, Ne, List.getElem?_eq_none_iff] at hin
    omega
  have hlead : (start ++ [gap]).length = 4 := by simp [hstart]
  rw [element, scanOf, List.getElem?_append_left (by rw [List.length_append, hlead]; omega),
    List.getElem?_append_right (by omega), hlead, ← hflat, show 6 * (k + 1) - 1 + j - 1 - 4 = 6 * k + j by omega]

theorem characterCounts_scan (hstart : start.length = 3) {k d : Nat} (hd : ds[k]? = some d) :
    characterCounts (scanOf narrow wide gap ds start stop) (k + 1) = character narrow wide d := by
  refine List.ext_getElem (by simp [characterCounts]) fun j hj _ => ?_
  have hj : j < 5 := by simpa [characterCounts] using hj
  simp only [characterCounts, List.getElem_map, List.getElem_range]
  rw [element_scan hstart hd (by omega), List.getElem?_append_left (by simpa using hj),
    List.getElem?_eq_getElem (by simpa using hj), Option.getD_some]

/-- Clean characters decode to their digits. -/
theorem decodeCharacters_scan (h : narrow < wide) (hr : ratio * narrow ≤ 8 * wide)
    (hg : gap < (wide + narrow + 1) / 2) (hds : ∀ d ∈ ds, d ≤ 9) (hstart : start.length = 3) {k n : Nat}
    (hn : k + n = ds.length) :
    decodeCharacters ratio (scanOf narrow wide gap ds start stop) n (k + 1) = .ok (ds.drop k) := by
  induction n generalizing k with
  | zero => rw [decodeCharacters, List.drop_eq_nil_of_le (by omega)]
  | succ n ih =>
    have hk : k < ds.length := by omega
    have hd : ds[k]? = some ds[k] := List.getElem?_eq_getElem hk
    have hgap : element (scanOf narrow wide gap ds start stop) (6 * (k + 1) + 4) = gap := by
      have := element_scan (narrow := narrow) (wide := wide) (gap := gap) (stop := stop) hstart hd (j := 5) (by omega)
      rw [show 6 * (k + 1) - 1 + 5 = 6 * (k + 1) + 4 by omega] at this
      rw [this, List.getElem?_append_right (by simp)]
      simp
    rw [decodeCharacters, characterCounts_scan hstart hd, hgap,
      decodeCharacter_character h (hds _ (List.getElem_mem hk)), if_neg (by omega), if_neg (by omega)]
    simp only [ih (k := k + 1) (by omega)]
    rw [← List.drop_eq_getElem_cons hk]

theorem threshold_scan (h : narrow < wide) (hds : ∀ d ∈ ds, d ≤ 9) (hstart : start.length = 3) {k : Nat}
    (hk : k < ds.length) :
    threshold (characterCounts (scanOf narrow wide gap ds start stop) (k + 1)) = (wide + narrow + 1) / 2 := by
  rw [characterCounts_scan hstart (List.getElem?_eq_getElem hk), threshold,
    (wideNarrow_character h (hds _ (List.getElem_mem hk))).1]

/-- The last character with its gap and the tail end a scan. -/
theorem scan_concat (init : List Nat) (d : Nat) : scanOf narrow wide gap (init ++ [d]) start stop =
    (start ++ [gap] ++ (init.map fun d => character narrow wide d ++ [gap]).flatten) ++ character narrow wide d ++
      [gap] ++ stop := by
  simp [scanOf]

/-- A clean scan in forward order: the tests of its ends, then the check digit. -/
theorem decodeForward_scan (h : narrow < wide) (hr : ratio * narrow ≤ 8 * wide) (hg : gap < (wide + narrow + 1) / 2)
    (hlen : ds.length = 6 ∨ ds.length = 14) (hds : ∀ d ∈ ds, d ≤ 9) (hstart : start.length = 3) (hstop : stop.length = 3) :
    decodeForward ratio ds.length (scanOf narrow wide gap ds start stop) =
    if wides ((wide + narrow + 1) / 2) start ≠ [true, false, false] ∨
      wides ((wide + narrow + 1) / 2) stop ≠ [true, true, false] then .error .frame
    else if checkHolds ds then .ok ds else .error .check := by
  have hpos : 0 < ds.length := by omega
  have h1 := threshold_scan (gap := gap) (stop := stop) h hds hstart hpos
  have hn := threshold_scan (gap := gap) (stop := stop) h hds hstart (k := ds.length - 1) (by omega)
  rw [Nat.sub_add_cancel hpos] at hn
  have hchars := decodeCharacters_scan (stop := stop) h hr hg hds hstart (k := 0) (Nat.zero_add ds.length)
  simp only [decodeForward, hchars, h1, hn, pattern_lead hstart, pattern_tail hstart hstop, List.drop_zero]

/-- Read backward, a scan leads with its tail, judged by the threshold of the last character. -/
theorem lead_reverse (h : narrow < wide) (hlen : ds.length = 6 ∨ ds.length = 14) (hds : ∀ d ∈ ds, d ≤ 9) (hstop : stop.length = 3) :
    pattern (scanOf narrow wide gap ds start stop).reverse 1
    (threshold (characterCounts (scanOf narrow wide gap ds start stop).reverse 1)) =
      (wides ((wide + narrow + 1) / 2) stop).reverse := by
  obtain rfl | ⟨init, d, rfl⟩ := List.eq_nil_or_concat' ds
  · simp at hlen
  have hrev : (scanOf narrow wide gap (init ++ [d]) start stop).reverse = (stop.reverse ++ [gap]) ++
      (character narrow wide d).reverse ++
      (start ++ [gap] ++ (init.map fun d => character narrow wide d ++ [gap]).flatten).reverse := by
    rw [scan_concat]
    simp only [List.reverse_append, List.append_assoc, List.reverse_singleton]
  have hcounts := characterCounts_first hrev (by simp [hstop]) (by simp)
  rw [hcounts, threshold, (wideNarrow_character h (hds d (by simp))).2, wides, ← List.map_reverse]
  rw [List.append_assoc, List.append_assoc] at hrev
  exact pattern_eq (a := []) hrev (by simpa using hstop) rfl _

/-- The direction that the lead tells (R12). -/
theorem decodeBuffer_scan (h : narrow < wide) (hlen : ds.length = 6 ∨ ds.length = 14) (hds : ∀ d ∈ ds, d ≤ 9)
    (hstart : start.length = 3) (hstop : stop.length = 3) : decodeBuffer ratio (scanOf narrow wide gap ds start stop) =
    if wides ((wide + narrow + 1) / 2) start = [true, false, false] then
      decodeForward ratio ds.length (scanOf narrow wide gap ds start stop)
    else if wides ((wide + narrow + 1) / 2) start = [false, true, true] then
      decodeForward ratio ds.length (scanOf narrow wide gap ds start stop).reverse
    else .error .frame := by
  have hl := digitsOfLength_scan (narrow := narrow) (wide := wide) (gap := gap) hlen hstart hstop
  have ht := threshold_scan (gap := gap) (stop := stop) h hds hstart (k := 0) (by omega)
  simp only [decodeBuffer, hl, ht, pattern_lead hstart]

theorem decodeBuffer_scan_reverse (h : narrow < wide) (hlen : ds.length = 6 ∨ ds.length = 14) (hds : ∀ d ∈ ds, d ≤ 9)
    (hstart : start.length = 3) (hstop : stop.length = 3) : decodeBuffer ratio (scanOf narrow wide gap ds start stop).reverse =
    if wides ((wide + narrow + 1) / 2) stop = [false, false, true] then
      decodeForward ratio ds.length (scanOf narrow wide gap ds start stop).reverse
    else if wides ((wide + narrow + 1) / 2) stop = [true, true, false] then
      decodeForward ratio ds.length (scanOf narrow wide gap ds start stop)
    else .error .frame := by
  have hl := digitsOfLength_scan (narrow := narrow) (wide := wide) (gap := gap) hlen hstart hstop
  have hlead := lead_reverse (gap := gap) (start := start) h hlen hds hstop
  simp only [decodeBuffer, List.length_reverse, hl, hlead, List.reverse_reverse, List.reverse_eq_iff]
  rfl

end Scan

/-- A clean scan by its ends, in both directions. -/
theorem decodeBuffer_cleanScan {ratio narrow wide gap : Nat} {ds start stop : List Nat} (h : narrow < wide)
    (hr : ratio * narrow ≤ 8 * wide) (hg : gap < (wide + narrow + 1) / 2) (hlen : ds.length = 6 ∨ ds.length = 14)
    (hds : ∀ d ∈ ds, d ≤ 9) (hstart : start.length = 3) (hstop : stop.length = 3) :
    let scan := scanOf narrow wide gap ds start stop
    let wides := wides ((wide + narrow + 1) / 2)
    (wides start = [true, false, false] → wides stop = [true, true, false] →
      let answer := if checkHolds ds = true then Except.ok ds else .error DecodeFault.check
      decodeBuffer ratio scan = answer ∧ decodeBuffer ratio scan.reverse = answer) ∧
    (wides start = [true, false, false] → wides stop ≠ [true, true, false] →
      decodeBuffer ratio scan = .error .frame) ∧
    (wides start ≠ [true, false, false] → wides start ≠ [false, true, true] →
      decodeBuffer ratio scan = .error .frame) ∧
    (wides stop = [true, true, false] → wides start ≠ [true, false, false] →
      decodeBuffer ratio scan.reverse = .error .frame) := by
  have hforward := decodeBuffer_scan (ratio := ratio) (gap := gap) h hlen hds hstart hstop
  have hbackward := decodeBuffer_scan_reverse (ratio := ratio) (gap := gap) h hlen hds hstart hstop
  have hdecode := decodeForward_scan h hr hg hlen hds hstart hstop
  refine ⟨fun h1 h2 => ⟨?_, ?_⟩, fun h1 h2 => ?_, fun h1 h2 => ?_, fun h1 h2 => ?_⟩
  · rw [hforward, if_pos h1, hdecode, if_neg (by simp [h1, h2])]
  · rw [hbackward, if_neg (by simp [h2]), if_pos h2, hdecode, if_neg (by simp [h1, h2])]
  · rw [hforward, if_pos h1, hdecode, if_pos (.inr h2)]
  · rw [hforward, if_neg h1, if_neg h2]
  · rw [hbackward, if_neg (by simp [h1]), if_pos h1, hdecode, if_pos (.inl h2)]

theorem decodeBuffer_length {ratio : Nat} {counts : List Nat} (h6 : counts.length ≠ 43) (h14 : counts.length ≠ 91) :
    decodeBuffer ratio counts = .error .length := by
  have hl : digitsOfLength counts.length = none := by
    unfold digitsOfLength
    split
    · contradiction
    · contradiction
    · rfl
  simp only [decodeBuffer, hl]

/-- A digit's character by its two wide positions. -/
theorem character_of_pair {narrow wide d a b : Nat} (h : widePairs[d]? = some (a, b)) :
    ((List.range 5).map fun j => if j + 1 = a ∨ j + 1 = b then wide else narrow) = character narrow wide d := by
  simp [character, h, eq_comm]

/-- Settles O28: the weights of the check digit, the clean character and the clean scan. -/
theorem labelsDecodeAndCheck : Obligations.LabelsDecodeAndCheck := by
  refine ⟨fun ds i d hds hi hd hne h => checkHolds_set hds hi hd hne h, fun ratio narrow wide gap a b h d hp => ?_,
    fun ratio counts => decodeBuffer_length, fun ratio narrow wide gap ds start stop h hr hg hlen hds hstart hstop =>
    decodeBuffer_cleanScan h hr hg hlen hds hstart hstop⟩
  have hd : d ≤ 9 := by
    have hlt : d < widePairs.length := (List.getElem?_eq_some_iff.1 hp).1
    exact Nat.lt_succ_iff.1 hlt
  rw [character_of_pair hp, decodeCharacter_character h hd]
  refine ⟨fun h1 => if_pos h1, fun h1 h2 => ?_, fun h1 h2 => ?_⟩
  · rw [if_neg (by omega), if_pos h2]
  · rw [if_neg (by omega), if_neg (by omega)]

end Sys2Proof.Proofs

/-! The frames of the desk port, its status byte and the attention commands (R178, R179, R182, R183). -/

namespace Sys2Proof.Proofs
open Sys2Proof Sys2Proof.Machine

/-! ## Frames (R178, R179) -/

section Frames
variable {s : State}

theorem openFrame_of_closed (h : s.port.frame = .closed) : s.openFrame = { s with
    port := { s.port with status := s.statusByte, errorLatch := false, frame := .opened } } := if_pos h

theorem badCommand_of_takes (h : s.takesCommand = true) : s.badCommand = { s with
    port := { s.commandStatus.port with frame := .error, errorLatch := true, answer := [] } } := by
  rw [State.badCommand, if_pos h, State.mapPort, State.commandStatus_eq]

/-- A release ends the frame; that of a frame in `frame` with a further command begun or not is short by `short`. -/
theorem release_of_frame (begun short : Bool) (x : ResetInputs) (hr : s.port.frame ≠ .restarting)
    (hs : (match s.port.frame with
      | .opened => true
      | .further => begun
      | .answering .none => begun
      | _ => false) = short) :
    s.release begun x = { s with port := { s.port with frame := .closed, errorLatch := s.port.errorLatch || short } } := by
  unfold State.release
  dsimp only
  split
  · contradiction
  · rw [← hs]
    rfl

end Frames

/-- Settles O6: each event of a frame by the frame's state. -/
theorem framesOpenEndAndLatchErrors : Obligations.FramesOpenEndAndLatchErrors := by
  refine ⟨fun s h => congrArg Host.Outcome.next (openFrame_of_closed h), fun b s hb h => ?_, fun x s h begun => ?_,
    fun x s h begun => ?_, fun x s h begun => ?_⟩
  · have hout : b = 0 ∨ 0x1D < b.toNat := by simpa [outsideCommandTable] using hb
    show Host.Outcome.next (if b = 0 ∨ 0x1D < b.toNat then s.badCommand else s) = _
    rw [if_pos hout, badCommand_of_takes h]
  · refine congrArg Host.Outcome.next ((release_of_frame begun true x (by simp [h]) (by rw [h])).trans ?_)
    rw [Bool.or_true]
  · refine congrArg Host.Outcome.next (release_of_frame begun begun x ?_ ?_) <;> obtain h | h := h <;> simp [h]
  · refine congrArg Host.Outcome.next ((release_of_frame begun false x ?_ ?_).trans ?_)
    · obtain h | ⟨e, _, h⟩ := h <;> simp [h]
    · obtain h | ⟨e, he, h⟩ := h
      · simp [h]
      · cases e <;> simp_all
    · rw [Bool.or_false]

/-! ## The status byte (R178) -/

/-- The port status byte of given flags in a given station state. -/
theorem statusByte_bits (ready attention error : Bool) (st : StationState) :
    let b := byteOf (flagByte [ready, attention, error] + 8 * st.code)
    b.getLsbD 0 = ready ∧ b.getLsbD 1 = attention ∧ b.getLsbD 2 = error ∧ b >>> 3 = byteOf st.code := by
  cases st <;> revert ready attention error <;> decide

/-! ## Taken while Ready is clear (R178) -/

theorem take_busy {s : State} (h : s.takesCommand = true) (hr : s.port.ready = false) (n : Nat)
    (f : State → State × Reply) :
    s.take n f = { s with port := s.portAfter (1#8 :: List.replicate n 0#8) .none } := by
  rw [State.take_notReady s n f h hr, State.answer_eq, State.commandStatus_replied, ← bytesOf_zero]
  rfl

theorem takeWarmRestart_busy {s : State} (h : s.takesCommand = true) (hr : s.port.ready = false) :
    s.takeWarmRestart = { s with port := s.portAfter [1#8] .none } := by
  simp only [State.takeWarmRestart, h, if_true, State.commandStatus_ready, hr, Bool.not_false]
  rw [State.answer_eq, State.commandStatus_replied]
  rfl

/-! ## Attention (R182, R183) -/

theorem topCause_of_pending {s : State} {k : Nat} (h1 : 1 ≤ k) (h11 : k ≤ 11)
    (hk : (s.port.pending &&& s.port.enabled).getLsbD (k - 1) = true)
    (hlow : ∀ j, 1 ≤ j → j < k → (s.port.pending &&& s.port.enabled).getLsbD (j - 1) = false) : s.topCause = k := by
  have hfind : (List.range 11).find? (fun i => (s.port.pending &&& s.port.enabled).getLsbD i) = some (k - 1) := by
    rw [List.find?_range_eq_some]
    refine ⟨hk, List.mem_range.2 (by omega), fun j hj => ?_⟩
    rw [← Nat.add_sub_cancel j 1, hlow (j + 1) (by omega) (by omega)]
    rfl
  rw [State.topCause, hfind, Option.elim_some]
  omega

theorem topCause_of_none {s : State} (h : s.port.pending &&& s.port.enabled = 0#11) : s.topCause = 0 := by
  simp only [State.topCause, h, BitVec.getLsbD_zero]
  rfl

theorem takeAttention_answers {s : State} (h : s.serves = true) :
    exec .takeAttention s = .next { s with
      port := (s.portAfter [0#8, byteOf s.topCause] (if s.topCause = 0 then .none else .attention s.topCause)) } := by
  have htop : s.commandStatus.topCause = s.topCause := by
    rw [State.topCause, State.commandStatus_pending, State.commandStatus_enabled, State.topCause]
  refine congrArg Host.Outcome.next (take_answers h (r := ⟨accepted, [byteOf s.topCause],
    if s.topCause = 0 then .none else .attention s.topCause⟩) ?_)
  rw [takeAttentionCommand, htop]

/-- Settles O7: the bits of the status byte, BUSY for one command of each answer length, and the attention commands. -/
theorem portStatusAndAttention : Obligations.PortStatusAndAttention := by
  refine ⟨fun s h => if_pos h, fun s h => if_neg h, fun s => ?_, fun s h hr => ?_, fun k s h h1 h11 hk hlow => ?_,
    fun s h h0 => ?_, fun x s h => ?_⟩
  · obtain ⟨hready, hatt, herr, hst⟩ := statusByte_bits s.port.ready s.attention s.port.errorLatch s.station
    refine ⟨hready, hatt, herr, hst.trans ?_⟩
    cases s.station <;> rfl
  · have hbusy := fun n f => congrArg (Host.Outcome.next (φ := Fault) (ρ := Refusal)) (take_busy h hr n f)
    exact ⟨fun _ _ => hbusy 0 _, hbusy 1 _, fun _ => hbusy 1 _, fun _ => hbusy 4 _, fun _ _ _ _ => hbusy 5 _,
      hbusy 6 _, fun _ => hbusy 11 _, fun _ => hbusy 27 _, hbusy 33 _, fun _ => hbusy 36 _, hbusy 37 _,
      congrArg Host.Outcome.next (takeWarmRestart_busy h hr)⟩
  · rw [takeAttention_answers h, topCause_of_pending h1 h11 hk hlow, if_neg (by omega)]
  · rw [takeAttention_answers h, topCause_of_none h0]
    rfl
  · obtain ⟨p, -, -, hport, htake⟩ := take_of_serves h
    refine congrArg Host.Outcome.next ?_
    rw [htake, hport]
    rfl

end Sys2Proof.Proofs

/-! Flags, packed digits and signed numbers in bytes; the result record and its reading (R44, R178, R180). -/

namespace Sys2Proof.Proofs
open Sys2Proof Sys2Proof.Machine

/-! ## Flags -/

/-- The flags from place `k` on, as a number. -/
theorem flags_sum_succ (fs : List Bool) (k : Nat) :
    ((fs.zipIdx (k + 1)).map fun (f, i) => if f then 2 ^ i else 0).sum =
      2 * ((fs.zipIdx k).map fun (f, i) => if f then 2 ^ i else 0).sum := by
  induction fs generalizing k with
  | nil => rfl
  | cons f fs ih =>
    simp only [List.zipIdx_cons, List.map_cons, List.sum_cons, ih]
    split <;> ring

theorem flagByte_cons (f : Bool) (fs : List Bool) : flagByte (f :: fs) = f.toNat + 2 * flagByte fs := by
  have h := flags_sum_succ fs 0
  simp only [flagByte, List.zipIdx_cons, List.map_cons, List.sum_cons, h]
  cases f <;> rfl

theorem flagByte_testBit (fs : List Bool) (k : Nat) : (flagByte fs).testBit k = (fs[k]?).getD false := by
  induction fs generalizing k with
  | nil => simp [flagByte]
  | cons f fs ih =>
    rw [flagByte_cons]
    cases k with
    | zero => cases f <;> simp [Nat.testBit_zero]
    | succ k =>
      have hdiv : (f.toNat + 2 * flagByte fs) / 2 = flagByte fs := by cases f <;> simp; omega
      rw [Nat.testBit_succ, hdiv, ih, List.getElem?_cons_succ]

/-- Flags fill a byte from bit 0 on. -/
theorem byteOf_flagByte_testBit {fs : List Bool} {n k : Nat} {f : Bool} (hn : fs.length + n = 8)
    (h : (fs ++ List.replicate n false)[k]? = some f) : (flagByte fs % 256).testBit k = f := by
  have hk : k < 8 := by
    have := (List.getElem?_eq_some_iff.1 h).1
    simp at this
    omega
  rw [show 256 = 2 ^ 8 by rfl, Nat.testBit_mod_two_pow, flagByte_testBit, decide_eq_true hk, Bool.true_and]
  obtain hlt | hge := Nat.lt_or_ge k fs.length
  · rw [List.getElem?_append_left hlt] at h
    rw [h, Option.getD_some]
  · rw [List.getElem?_append_right hge] at h
    rw [List.getElem?_eq_none hge, Option.getD_none]
    exact (List.eq_of_mem_replicate (List.mem_of_getElem? h)).symm

/-! ## Packed digits and signed numbers -/

/-- Half-byte `k` of a packed number is its decimal digit `k`, the first the most significant. -/
theorem packNumber_digit (n : Nat) {k : Nat} (hk : k < 12) :
    natAt (packNumber n) (k / 2) 1 / 16 ^ (1 - k % 2) % 16 = n / 10 ^ (11 - k) % 10 := by
  have hbyte : natAt (packNumber n) (k / 2) 1 =
      (n / 10 ^ (11 - 2 * (k / 2)) % 10 * 16 + n / 10 ^ (10 - 2 * (k / 2)) % 10) % 256 := by
    have hk2 : k / 2 < 6 := by omega
    simp [natAt, bytesAt, natOf, packNumber, hk2]
  rw [hbyte]
  obtain hev | hodd := Nat.mod_two_eq_zero_or_one k
  · rw [hev, show 11 - 2 * (k / 2) = 11 - k by omega]
    omega
  · rw [hodd, show 10 - 2 * (k / 2) = 11 - k by omega]
    omega

/-- A signed number in range is read back. -/
theorem intOf_bytesOfInt {n : Nat} {x : Int} (hlo : -(256 ^ (n + 1) : Nat) ≤ 2 * x) (hhi : 2 * x < (256 ^ (n + 1) : Nat)) :
    intOf (bytesOfInt (n + 1) x) = x := by
  have hpos : (0 : Int) < (256 ^ (n + 1) : Nat) := by positivity
  have hval : ((x % (256 ^ (n + 1) : Nat)).toNat : Int) = x % (256 ^ (n + 1) : Nat) :=
    Int.toNat_of_nonneg (Int.emod_nonneg _ hpos.ne')
  have hlt : (x % (256 ^ (n + 1) : Nat)).toNat < 256 ^ (n + 1) := by
    have := Int.emod_lt_of_pos x hpos
    omega
  simp only [intOf, bytesOfInt, natOf_bytesOf, length_bytesOf, Nat.mod_eq_of_lt hlt]
  generalize (256 ^ (n + 1) : Nat) = m at *
  obtain hneg | hnn := lt_or_ge x 0
  · have hmod : x % (m : Int) = x + m := by
      rw [← Int.add_emod_right, Int.emod_eq_of_lt (by omega) (by omega)]
    split <;> omega
  · have hmod : x % (m : Int) = x := Int.emod_eq_of_lt hnn (by omega)
    split <;> omega

/-! ## The result record (R44) -/

@[simp] theorem length_resultBytes (r : Result) : r.bytes.length = 36 := by simp [Result.bytes]

/-- The fields of a result record at their places. -/
theorem result_fields (r : Result) :
    natAt r.bytes 0 1 = laneCode r.lane % 256 ∧ natAt r.bytes 1 1 = r.operation.code % 256 ∧
    natAt r.bytes 2 1 = r.cls.code % 256 ∧ natAt r.bytes 3 1 = r.reason.code % 256 ∧
    natAt r.bytes 4 1 = r.flags.byte % 256 ∧ natAt r.bytes 5 1 = r.presence % 256 ∧
    natAt r.bytes 6 1 = r.mode.code % 256 ∧ natAt r.bytes 7 1 = r.blocks.byte % 256 ∧
    natAt r.bytes 20 2 = (r.due.getD (0, 0)).1 % 65536 ∧ natAt r.bytes 22 2 = (r.due.getD (0, 0)).2 % 65536 ∧
    natAt r.bytes 24 4 = r.amount.getD 0 % 2 ^ 32 ∧ bytesAt r.bytes 28 4 = bytesOfInt 4 (r.balance.getD 0) ∧
    bytesAt r.bytes 32 2 = bytesOfInt 2 (r.count.getD (0, 0)).1 ∧
    natAt r.bytes 34 1 = (r.count.getD (0, 0)).2 % 256 ∧ natAt r.bytes 35 1 = r.renewCount.getD 0 % 256 := by
  simp only [Result.bytes, List.append_assoc, List.cons_append, List.nil_append]
  simp [natAt_append_right, natAt_append_left, bytesAt_append_right, bytesAt_append_left, bytesAt_cons_succ,
    natAt_cons_succ, natAt_cons_one, natAt_bytesOf, bytesAt_all]

/-- The borrower's and the item's digits at their places. -/
theorem result_digits (r : Result) {k : Nat} (hk : k < 12) :
    natAt r.bytes (8 + k / 2) 1 = natAt (packNumber (r.borrower.getD 0)) (k / 2) 1 ∧
      natAt r.bytes (14 + k / 2) 1 = natAt (packNumber (r.item.getD 0)) (k / 2) 1 := by
  have hk2 : k / 2 + 1 ≤ 6 := by omega
  constructor
  · rw [Result.bytes]
    simp only [List.append_assoc]
    rw [natAt_append_right (by simp), natAt_append_left (by simp; omega)]
    congr 1
    simp
  · rw [Result.bytes]
    simp only [List.append_assoc]
    rw [natAt_append_right (by simp; omega), natAt_append_right (by simp; omega), natAt_append_left (by simp; omega)]
    congr 1
    simp
    omega

/-! ## READ RESULT and the clearing effects (R44, R178, R183) -/

section Clearing
variable {s : State}

theorem readResult_answers {b : Byte} {l : LaneId} (hs : s.serves = true) (hl : laneOfByte b = some l) {r : Reply}
    (hr : readResultCommand l s.commandStatus = (s.commandStatus, r)) :
    exec (.readResult b) s = .next { s with port := s.portAfter (r.code :: r.bytes) r.effect } := by
  refine congrArg Host.Outcome.next (take_answers hs (r := r) ?_)
  simp only [withLane, hl, hr]

theorem answered_of_answering {e : ClearEffect} (h : s.port.frame = .answering e) :
    s.answered = State.clearing { s with port := { s.port with frame := .further } } e := by
  simp only [State.answered, h, State.mapPort]

theorem takeSlot_of_none {l : LaneId} (h : (s.lane l).slot = none) : s.takeSlot l = s := by
  simp only [State.takeSlot, h]

theorem resultRead_of_unread {l : LaneId} (hu : (s.lane l).unread = true) (hslot : (s.lane l).slot = none)
    (hst : (s.lane l).state = .reporting) : s.resultRead l = (s.clearCause (causeResult l)).mapLane l fun c => { c with
      unread := false, state := if c.session.isSome then .session else .idle } := by
  have hlane : (s.clearCause (causeResult l)).lane l = s.lane l := by cases l <;> rfl
  rw [State.resultRead, if_pos hu]
  have hread : ((s.clearCause (causeResult l)).mapLane l fun c => { c with
      unread := false
      state := if c.state = .reporting then (if c.session.isSome then .session else .idle) else c.state }) =
      (s.clearCause (causeResult l)).mapLane l fun c => { c with
        unread := false, state := if c.session.isSome then .session else .idle } := by
    rw [State.mapLane, hlane, if_pos hst, State.mapLane, hlane]
  dsimp only
  rw [hread, takeSlot_of_none]
  rw [State.lane_mapLane, hlane]
  exact hslot

end Clearing

/-- Settles O8: the bytes at their places, and the clearing effects one by one. -/
theorem readResultAndClearingEffects : Obligations.ReadResultAndClearingEffects := by
  refine ⟨fun b l s hs hl => ⟨fun hu => ⟨readResult_answers hs hl (r := ⟨accepted, (s.lane l).result.bytes, .result l⟩) ?_,
      length_resultBytes _⟩, fun hu => ?_⟩, fun r => ?_,
    fun s h => ?_, fun k s h => ?_, fun s h hq => ?_, fun l s h hu hslot hst => ?_⟩
  · rw [readResultCommand, State.commandStatus_lane, if_pos hu]
  · rw [← bytesOf_zero]
    refine readResult_answers hs hl (r := refused 12 36) ?_
    rw [readResultCommand, State.commandStatus_lane, if_neg (by simp [hu])]
  · obtain ⟨hlane, hop, hcls, hreason, hflags, hpresence, hmode, hblocks, hday, hminute, hamount, hbalance, hcount, hlimit,
      hrenew⟩ := result_fields r
    intro b bits digits
    refine ⟨length_resultBytes r, ?_, ?_, ?_, ?_, ?_, ?_, ?_, ?_, ?_, ?_, hday, hminute, hamount, ?_, ?_, hlimit, hrenew⟩
    · rw [hlane]; cases r.lane <;> rfl
    · rw [hop]; cases r.operation <;> rfl
    · rw [hcls]; cases r.cls <;> rfl
    · rw [hreason]; cases r.reason <;> rfl
    · intro k f hf
      rw [hflags]
      exact byteOf_flagByte_testBit (n := 2) rfl hf
    · intro k f hf
      rw [hpresence]
      exact byteOf_flagByte_testBit (n := 1) rfl hf
    · rw [hmode]; cases r.mode <;> rfl
    · intro k f hf
      rw [hblocks]
      exact byteOf_flagByte_testBit (n := 4) rfl hf
    · intro k hk
      rw [(result_digits r hk).1, packNumber_digit _ hk]
    · intro k hk
      rw [(result_digits r hk).2, packNumber_digit _ hk]
    · intro hlo hhi
      rw [hbalance, intOf_bytesOfInt (n := 3) (by norm_num; omega) (by norm_num; omega)]
    · intro hlo hhi
      rw [hcount, intOf_bytesOfInt (n := 1) (by norm_num; omega) (by norm_num; omega)]
  · exact congrArg Host.Outcome.next (answered_of_answering h)
  · exact congrArg Host.Outcome.next (answered_of_answering h)
  · refine congrArg Host.Outcome.next ((answered_of_answering h).trans ?_)
    simp [State.clearing, State.nextQuery, State.setQuery, State.setMemory, hq]
  · refine ⟨_, congrArg Host.Outcome.next ((answered_of_answering h).trans (resultRead_of_unread ?_ ?_ ?_)), ?_, ?_, ?_⟩
    all_goals cases l <;> first | assumption | rfl

end Sys2Proof.Proofs

/-! What IDENTIFY, READ STATUS, READ PEER and the inquiries answer (R84, R104, R121, R181). -/

namespace Sys2Proof.Proofs
open Sys2Proof Sys2Proof.Machine

/-! ## READ STATUS (R181) -/

@[simp] theorem length_statusBytes (s : State) : s.statusBytes.length = 37 := by simp [State.statusBytes]

/-- The fields of a lane's status byte. -/
theorem statusCode_fields (c : LaneCtl) :
    [LaneState.closed, .idle, .checking, .session, .working, .reporting][c.statusCode % 256 % 8]? = some c.state ∧
      [LaneMode.lend, .ret, .renew, .inquire][c.statusCode % 256 / 16 % 4]? = some c.mode ∧
      (c.statusCode % 256).testBit 6 = c.slot.isSome ∧ (c.statusCode % 256).testBit 7 = c.session.isSome := by
  unfold LaneCtl.statusCode
  generalize c.slot.isSome = slot
  generalize c.session.isSome = session
  cases c.state <;> cases c.mode <;> revert slot session <;> decide

/-- The byte of the staged state and the one-shot. -/
theorem stagedByte_fields (r : Reckoner) (armed : Bool) :
    (r.stagedCode + 4 * armed.toNat) % 256 % 4 = r.stagedCode ∧
      ((r.stagedCode + 4 * armed.toNat) % 256).testBit 2 = armed := by
  have hcode : r.stagedCode = 0 ∨ r.stagedCode = 1 ∨ r.stagedCode = 2 := by
    unfold Reckoner.stagedCode
    split
    · exact .inl rfl
    · split
      · exact .inr (.inr rfl)
      · exact .inr (.inl rfl)
  obtain h | h | h := hcode <;> rw [h] <;> revert armed <;> decide

/-- The byte of the sender's state and outcome. -/
theorem senderByte_fields (st : SenderState) (o : UploadOutcome) :
    [SenderState.idle, .calling, .settling, .beginning, .reading, .sending][(st.code + 16 * o.code) % 256 % 16]? =
      some st ∧ (st.code + 16 * o.code) % 256 / 16 = o.code := by
  have hst : st.code < 16 ∧
      [SenderState.idle, .calling, .settling, .beginning, .reading, .sending][st.code]? = some st := by
    cases st <;> exact ⟨by decide, rfl⟩
  have ho : o.code < 16 := by cases o <;> simp [UploadOutcome.code]
  obtain ⟨hlt, hcode⟩ := hst
  rw [show (st.code + 16 * o.code) % 256 % 16 = st.code by omega,
    show (st.code + 16 * o.code) % 256 / 16 = o.code by omega]
  exact ⟨hcode, rfl⟩

/-- The bytes of READ STATUS at their places. -/
theorem status_fields (s : State) :
    natAt s.statusBytes 0 1 = s.station.code % 256 ∧ natAt s.statusBytes 1 1 = s.number % 256 ∧
    natAt s.statusBytes 2 1 = s.edition % 256 ∧ natAt s.statusBytes 3 1 = s.conditions % 256 ∧
    natAt s.statusBytes 4 2 = s.clock.day % 65536 ∧ natAt s.statusBytes 6 2 = s.clock.minute % 65536 ∧
    natAt s.statusBytes 8 1 = s.laneA.statusCode % 256 ∧ natAt s.statusBytes 9 1 = s.laneB.statusCode % 256 ∧
    natAt s.statusBytes 10 2 = s.content % 65536 ∧ natAt s.statusBytes 12 2 = s.line.stamps % 65536 ∧
    natAt s.statusBytes 14 1 = (s.slips.queue.length + 16 * s.freeSlips) % 256 ∧
    natAt s.statusBytes 15 1 = s.slips.printer.code % 256 ∧
    natAt s.statusBytes 16 1 = (s.reckoner.stagedCode + 4 * s.clock.armed.toNat) % 256 ∧
    natAt s.statusBytes 17 1 = (s.upload.sender.state.code + 16 * s.upload.sender.outcome.code) % 256 ∧
    natAt s.statusBytes 18 1 = s.upload.sender.outcome.reason % 256 ∧
    natAt s.statusBytes 19 1 = s.upload.sender.gateway.getD 255 % 256 ∧
    natAt s.statusBytes 20 2 = s.upload.sender.receipted % 65536 ∧
    natAt s.statusBytes 22 1 = s.upload.gateway.isSome.toNat % 256 ∧
    natAt s.statusBytes 23 1 = s.gatewayEntries GatewayState.isDone % 256 ∧
    natAt s.statusBytes 24 1 = s.gatewayEntries GatewayState.isGone % 256 ∧
    natAt s.statusBytes 25 1 = s.upload.lastReject % 256 ∧ natAt s.statusBytes 26 2 = s.port.pending.toNat % 65536 ∧
    natAt s.statusBytes 28 2 = s.port.enabled.toNat % 65536 ∧ natAt s.statusBytes 30 2 = s.line.badFrames % 65536 ∧
    natAt s.statusBytes 32 1 = s.line.collisions % 256 ∧ natAt s.statusBytes 33 2 = s.line.ownFrames % 65536 ∧
    natAt s.statusBytes 35 2 = s.clock.rollRefusals % 65536 := by
  simp only [State.statusBytes, List.append_assoc, List.cons_append, List.nil_append]
  simp [natAt_append_right, natAt_append_left, natAt_cons_succ, natAt_cons_one, natAt_bytesOf]

/-! ## READ PEER (R121) -/

@[simp] theorem length_peerView (p : Peer) : p.view.length = 11 := by simp [Peer.view]

theorem peer_fields (p : Peer) :
    natAt p.view 0 1 = p.present.toNat % 256 ∧ natAt p.view 1 1 = p.edition % 256 ∧
    natAt p.view 2 2 = p.lastStamp % 65536 ∧ natAt p.view 4 2 = p.day % 65536 ∧ natAt p.view 6 2 = p.minute % 65536 ∧
    natAt p.view 8 1 = flagByte [p.clockSet, p.uplinkFitted, p.request.isSome] % 256 ∧
    natAt p.view 9 2 = p.mismatches % 65536 := by
  simp only [Peer.view, List.append_assoc, List.cons_append, List.nil_append]
  simp [natAt_append_right, natAt_append_left, natAt_cons_succ, natAt_cons_one, natAt_bytesOf]

/-! ## INQUIRE BORROWER (R84) -/

theorem borrowerView_of_none {s : State} {b : Nat} (h : s.entry? b = none) :
    s.borrowerView b = List.replicate 37 0#8 := by
  simp only [State.borrowerView, h, bytesOf_zero]

@[simp] theorem length_borrowerView (s : State) (b : Nat) : (s.borrowerView b).length = 37 := by
  cases h : s.entry? b with
  | none => simp [borrowerView_of_none h]
  | some e => simp [State.borrowerView, h]

/-- The fields of an entry's view at their places. -/
theorem borrower_fields {s : State} {n : Nat} {e : Entry} (h : s.entry? n = some e) :
    natAt (s.borrowerView n) 0 1 = 1 ∧ natAt (s.borrowerView n) 1 1 = e.roll.category % 256 ∧
    natAt (s.borrowerView n) 2 2 = e.roll.expiry % 65536 ∧ natAt (s.borrowerView n) 4 1 = e.roll.loans % 256 ∧
    bytesAt (s.borrowerView n) 5 4 = bytesOfInt 4 e.roll.balance ∧
    bytesAt (s.borrowerView n) 9 2 = bytesOfInt 2 e.own.loans ∧
    bytesAt (s.borrowerView n) 11 4 = bytesOfInt 4 e.own.balance ∧
    natAt (s.borrowerView n) 15 2 = e.own.stamp % 65536 ∧ natAt (s.borrowerView n) 17 1 = e.peers.length % 256 ∧
    bytesAt (s.borrowerView n) 18 2 = bytesOfInt 2 (e.peers.map fun p => p.tally.loans).sum ∧
    bytesAt (s.borrowerView n) 20 4 = bytesOfInt 4 (e.peers.map fun p => p.tally.balance).sum ∧
    bytesAt (s.borrowerView n) 24 2 = bytesOfInt 2 e.count ∧
    natAt (s.borrowerView n) 26 1 = s.limitInForce e.roll.category % 256 ∧
    bytesAt (s.borrowerView n) 27 4 = bytesOfInt 4 e.balance ∧
    natAt (s.borrowerView n) 31 1 = flagByte [e.fines, s.reckoner.active.warningMark e.balance, s.standing.incomplete,
      e.reservedA, e.reservedB, e.handA, e.handB] % 256 ∧
    natAt (s.borrowerView n) 32 1 = e.lost.code % 256 ∧ natAt (s.borrowerView n) 33 1 = e.lost.station % 256 ∧
    natAt (s.borrowerView n) 34 1 = e.staff.code % 256 ∧ natAt (s.borrowerView n) 35 1 = e.staff.station % 256 ∧
    natAt (s.borrowerView n) 36 1 = flagByte [e.roll.lost, e.roll.staff] % 256 := by
  simp only [State.borrowerView, h, List.append_assoc, List.cons_append, List.nil_append]
  simp [natAt_append_right, natAt_append_left, bytesAt_append_right, bytesAt_append_left, bytesAt_cons_succ,
    natAt_cons_succ, natAt_cons_one, natAt_bytesOf, bytesAt_all]

theorem record_code (r : BlockRecord) : r.code % 256 = (match r.state with
      | .roll => 0
      | .raised _ _ => 1
      | .lifted _ _ => 2) + (if r.awaiting = [] then 0 else 128) := by
  obtain ⟨state, awaiting⟩ := r
  cases state <;> cases awaiting <;> rfl

theorem record_station (r : BlockRecord) : r.station % 256 = (match r.state with
    | .roll => 0
    | .raised st _ => st % 256
    | .lifted st _ => st % 256) := by
  obtain ⟨state, awaiting⟩ := r
  cases state <;> rfl

/-- A signed field in range is read back from its bytes. -/
theorem signed_field {bs : List Byte} {i n : Nat} {x : Int} (h : bytesAt bs i (n + 1) = bytesOfInt (n + 1) x)
    (hlo : -2 ^ (8 * (n + 1) - 1) ≤ x) (hhi : x < 2 ^ (8 * (n + 1) - 1)) : intOf (bytesAt bs i (n + 1)) = x := by
  have hpow : ((256 ^ (n + 1) : Nat) : Int) = 2 * 2 ^ (8 * (n + 1) - 1) := by
    rw [← pow_succ', show 8 * (n + 1) - 1 + 1 = 8 * (n + 1) by omega, pow_mul]
    norm_num
  rw [h, intOf_bytesOfInt] <;> rw [hpow] <;> linarith

/-! ## INQUIRE ITEM (R104) -/

@[simp] theorem length_entryView (e : ItemEntry) : e.view.length = 18 := by simp [ItemEntry.view]

@[simp] theorem length_trapView (t : TrapRecord) : t.view.length = 9 := by simp [TrapRecord.view]

/-- The two parts of an item's view. -/
theorem itemView_eq (s : State) (n : Nat) : s.itemView n =
    ((s.item? n).map ItemEntry.view).getD (bytesOf 18 0) ++ ((s.trapOfItem n).map TrapRecord.view).getD (bytesOf 9 0) := by
  unfold State.itemView
  cases s.item? n <;> cases s.trapOfItem n <;> rfl

@[simp] theorem length_itemView (s : State) (n : Nat) : (s.itemView n).length = 27 := by
  rw [itemView_eq]
  cases s.item? n <;> cases s.trapOfItem n <;> simp

theorem trapOfItem_of_none {s : State} {n : Nat} (h : ∀ t ∈ s.traps, t.item ≠ n) : s.trapOfItem n = none := by
  have hmine : s.traps.filter (fun t => t.item == n) = [] := by simpa using h
  simp [State.trapOfItem, hmine]

/-- The one record that names an item is the one shown. -/
theorem trapOfItem_of_one {s : State} {n : Nat} {t : TrapRecord} (h : (s.traps.filter fun y => y.item == n) = [t]) :
    s.trapOfItem n = some t := by
  simp only [State.trapOfItem, h, List.getLast?_singleton, List.find?_cons, List.find?_nil]
  split <;> rfl

theorem item?_item {s : State} {n : Nat} {e : ItemEntry} (h : s.item? n = some e) : e.item = n := by
  simpa using List.find?_some h

/-- A packed number's digits at its place. -/
theorem packed_digits {a c bs : List Byte} {n i : Nat} (h : bs = a ++ (packNumber n ++ c)) (hi : a.length = i) {k : Nat}
    (hk : k < 12) : natAt bs (i + k / 2) 1 / 16 ^ (1 - k % 2) % 16 = n / 10 ^ (11 - k) % 10 := by
  rw [h, natAt_append_right (by omega), natAt_append_left (by rw [length_packNumber]; omega), hi, Nat.add_sub_cancel_left,
    packNumber_digit n hk]

theorem entry_fields (e : ItemEntry) (rest : List Byte) :
    let b := e.view ++ rest
    let loan := e.loan.getD ⟨0, 0, 0, 0⟩
    natAt b 0 1 = 1 ∧ natAt b 1 1 = e.loan.isSome.toNat % 256 ∧ natAt b 2 1 = basisCode e.basis % 256 ∧
    natAt b 9 2 = loan.dueDay % 65536 ∧ natAt b 11 2 = loan.dueMinute % 65536 ∧ natAt b 13 1 = itemClass e.item % 256 ∧
    natAt b 14 1 = loan.renewCount % 256 ∧ natAt b 15 1 = e.station % 256 ∧ natAt b 16 2 = e.stamp % 65536 := by
  simp only [ItemEntry.view, List.append_assoc, List.cons_append, List.nil_append]
  simp [natAt_append_right, natAt_append_left, natAt_cons_succ, natAt_cons_one, natAt_bytesOf]

theorem entry_digits (e : ItemEntry) (rest : List Byte) {k : Nat} (hk : k < 12) :
    natAt (e.view ++ rest) (3 + k / 2) 1 / 16 ^ (1 - k % 2) % 16 =
      (e.loan.getD ⟨0, 0, 0, 0⟩).borrower / 10 ^ (11 - k) % 10 := by
  let loan := e.loan.getD ⟨0, 0, 0, 0⟩
  refine packed_digits (a := [1, byteOf e.loan.isSome.toNat, byteOf (basisCode e.basis)])
    (c := bytesOf 2 loan.dueDay ++ bytesOf 2 loan.dueMinute ++
      [byteOf (itemClass e.item), byteOf loan.renewCount, byteOf e.station] ++ bytesOf 2 e.stamp ++ rest) ?_ rfl hk
  simp only [ItemEntry.view, List.append_assoc, loan]

theorem loan_getD (loan : Option LoanPart) (f : LoanPart → Nat) (hf : f ⟨0, 0, 0, 0⟩ = 0) :
    f (loan.getD ⟨0, 0, 0, 0⟩) = (loan.map f).getD 0 := by
  cases loan
  · exact hf
  · rfl

theorem trap_fields (t : TrapRecord) {a : List Byte} (ha : a.length = 18) :
    natAt (a ++ t.view) 18 1 = t.stateCode % 256 ∧ natAt (a ++ t.view) 19 1 = t.station % 256 ∧
      natAt (a ++ t.view) 20 1 = t.rank % 256 := by
  simp only [TrapRecord.view, List.cons_append, List.nil_append]
  simp [natAt_append_right, ha, natAt_cons_succ, natAt_cons_one]

theorem trap_digits (t : TrapRecord) {a : List Byte} (ha : a.length = 18) {k : Nat} (hk : k < 12) :
    natAt (a ++ t.view) (21 + k / 2) 1 / 16 ^ (1 - k % 2) % 16 = t.holdBorrower / 10 ^ (11 - k) % 10 := by
  refine packed_digits (a := a ++ [byteOf t.stateCode, byteOf t.station, byteOf t.rank]) (c := []) ?_ (by simp [ha]) hk
  simp only [TrapRecord.view, List.append_assoc, List.append_nil]

/-- READ STATUS sees of the port its causes only. -/
theorem statusBytes_setPort (s : State) {p : Port} (hp : p.pending = s.port.pending) (he : p.enabled = s.port.enabled) :
    { s with port := p }.statusBytes = s.statusBytes := by
  simp only [State.statusBytes]
  rw [hp, he]
  rfl

/-- The answers see past the port. -/
theorem commandStatus_views (s : State) : s.commandStatus.number = s.number ∧ s.commandStatus.oneLane = s.oneLane ∧
    s.commandStatus.statusBytes = s.statusBytes ∧ (∀ n, s.commandStatus.peer n = s.peer n) ∧
    (∀ n, s.commandStatus.borrowerView n = s.borrowerView n) ∧ ∀ n, s.commandStatus.itemView n = s.itemView n := by
  have hbytes := statusBytes_setPort s (State.commandStatus_pending s) (State.commandStatus_enabled s)
  rw [← State.commandStatus_eq] at hbytes
  have heq := State.commandStatus_eq s
  generalize s.commandStatus.port = p at heq
  exact ⟨by rw [heq]; rfl, by rw [heq]; rfl, hbytes, fun _ => by rw [heq]; rfl, fun _ => by rw [heq]; rfl,
    fun _ => by rw [heq]; rfl⟩

theorem take_view {s : State} {n : Nat} {f : State → State × Reply} {bytes : List Byte} (hs : s.serves = true)
    (hf : f s.commandStatus = (s.commandStatus, acceptedWith bytes)) :
    s.take n f = { s with port := s.portAfter (0#8 :: bytes) .none } :=
  take_answers hs hf

theorem withNumber_of_none {x : BitVec 48} (hx : packedNumber x = none) (n : Nat) (f : Nat → State → State × Reply)
    (s : State) : withNumber x n f s = (s, refused 9 n) := by simp only [withNumber, hx]

theorem withNumber_of_some {x : BitVec 48} {k : Nat} (hx : packedNumber x = some k) (n : Nat)
    (f : Nat → State → State × Reply) (s : State) : withNumber x n f s = f k s := by simp only [withNumber, hx]

theorem toNat_mod_256 (f : Bool) : f.toNat % 256 = if f then 1 else 0 := by cases f <;> rfl

theorem station_at_code (st : StationState) :
    [StationState.starting, .replaying, .gathering, .ready, .fault][st.code % 256]? = some st := by cases st <;> rfl

theorem printer_at_code (p : PrinterState) :
    [PrinterState.off, .warming, .idleWarm, .printing, .aligning, .halted, .fault][p.code % 256]? = some p := by
  cases p <;> rfl

/-- A flag byte shows its flags. -/
theorem flags_field {x : Nat} {fs : List Bool} (h : x = flagByte fs % 256) (hn : fs.length ≤ 8) (k : Nat) (f : Bool)
    (hk : fs[k]? = some f) : x.testBit k = f := by
  rw [h]
  exact byteOf_flagByte_testBit (n := 8 - fs.length) (by omega)
    (by rw [List.getElem?_append_left (List.getElem?_eq_some_iff.1 hk).1, hk])

theorem isGone_iff (x : GatewayState) : x.isGone = (x == .gone .late || x == .gone .rejected) := by
  cases x with
  | gone r => cases r <;> rfl
  | _ => rfl

theorem gatewayEntries_eq (s : State) (p q : GatewayState → Bool) (h : ∀ x, p x = q x) : s.gatewayEntries p =
    (match s.upload.gateway with
      | none => 0
      | some g => (g.entries.filter fun e => q e.state).length) := by
  unfold State.gatewayEntries
  cases s.upload.gateway with
  | none => rfl
  | some g => simp [List.countP_eq_length_filter, h]

/-- Settles O9: each answer field by field. -/
theorem statusAndInquiriesOnlyAnswer : Obligations.StatusAndInquiriesOnlyAnswer := by
  have views := commandStatus_views
  refine ⟨fun s hs => ?_, fun s hs => ⟨?_, length_statusBytes s⟩, fun b s hs hlt hne => ⟨?_, length_peerView _⟩,
    fun b s hs h => ?_, fun s => ?_, fun p => ?_, fun x b s hs hx => ⟨?_, length_borrowerView s b, borrowerView_of_none⟩,
    fun x n s hs hx => ⟨?_, length_itemView s n, fun h ht => ?_⟩, fun x s hs hx => ⟨?_, ?_⟩, fun n e s h => ?_,
    fun n s => ⟨fun i h => ?_, fun t h => ?_⟩⟩
  · obtain ⟨hnumber, hone, -⟩ := views s
    refine congrArg Host.Outcome.next (take_view hs ?_)
    rw [identifyCommand, hnumber, hone, State.commandStatus_settings]
    rfl
  · obtain ⟨-, -, hbytes, -⟩ := views s
    exact congrArg Host.Outcome.next (take_view hs (by rw [readStatusCommand, hbytes]))
  · obtain ⟨hnumber, -, -, hpeer, -⟩ := views s
    refine congrArg Host.Outcome.next (take_view hs ?_)
    rw [readPeerCommand, hnumber, hpeer, if_neg (by omega)]
  · obtain ⟨hnumber, -⟩ := views s
    refine congrArg Host.Outcome.next ((take_answers hs (r := refused 9 11) ?_).trans rfl)
    rw [readPeerCommand, hnumber, if_pos (by omega)]
  · obtain ⟨h0, h1, h2, h3, h4, h6, h8, h9, h10, h12, h14, h15, h16, h17, h18, h19, h20, h22, h23, h24, h25, h26, h28,
      h30, h32, h33, h35⟩ := status_fields s
    have hlane : ∀ c : LaneCtl, ∀ x, x = c.statusCode % 256 →
        [LaneState.closed, .idle, .checking, .session, .working, .reporting][x % 8]? = some c.state ∧
          [LaneMode.lend, .ret, .renew, .inquire][x / 16 % 4]? = some c.mode ∧
          x.testBit 6 = c.slot.isSome ∧ x.testBit 7 = c.session.isSome := by
      rintro c x rfl
      exact statusCode_fields c
    have hnumber : s.number < 16 := s.settings.inForce.stationNumber.isLt
    obtain ⟨hstaged, harmed⟩ := stagedByte_fields s.reckoner s.clock.armed
    obtain ⟨hsender, houtcome⟩ := senderByte_fields s.upload.sender.state s.upload.sender.outcome
    refine ⟨by rw [h0]; exact station_at_code _, h1.trans (by omega), h2, flags_field h3 (by simp), h4, h6,
      hlane _ _ h8, hlane _ _ h9, h10, h12, ?_, by rw [h15]; exact printer_at_code _, ?_, by rw [h16, harmed],
      by rw [h17, hsender], ?_, ?_, h19, h20, h22.trans (toNat_mod_256 _), ?_, ?_, h25, ?_, ?_, h30, h32, h33, h35⟩
    · rw [h14, State.freeSlips, List.countP_eq_length_filter]
    · rw [h16, hstaged]
      rfl
    · rw [h17, houtcome]
      rfl
    · rw [h18]
      cases s.upload.sender.outcome <;> rfl
    · rw [h23, gatewayEntries_eq s GatewayState.isDone (· == .done) fun _ => rfl] <;> rfl
    · rw [h24, gatewayEntries_eq s _ _ isGone_iff] <;> rfl
    · rw [h26, Nat.mod_eq_of_lt (lt_trans s.port.pending.isLt (by decide))]
    · rw [h28, Nat.mod_eq_of_lt (lt_trans s.port.enabled.isLt (by decide))]
  · obtain ⟨h0, h1, h2, h4, h6, h8, h9⟩ := peer_fields p
    refine ⟨length_peerView p, h0.trans (toNat_mod_256 _), h1, h2, h4, h6, fun k f hk => ?_, h9⟩
    rw [h8]
    exact byteOf_flagByte_testBit (n := 5) rfl (by rw [List.getElem?_append_left (List.getElem?_eq_some_iff.1 hk).1, hk])
  · obtain ⟨-, -, -, -, hview, -⟩ := views s
    exact congrArg Host.Outcome.next (take_view hs (by rw [withNumber_of_some hx, inquireBorrowerCommand, hview]))
  · obtain ⟨-, -, -, -, -, hview⟩ := views s
    exact congrArg Host.Outcome.next (take_view hs (by rw [withNumber_of_some hx, inquireItemCommand, hview]))
  · rw [itemView_eq, h, trapOfItem_of_none ht]
    rfl
  · exact congrArg Host.Outcome.next ((take_answers hs (withNumber_of_none hx _ _ _)).trans rfl)
  · exact congrArg Host.Outcome.next ((take_answers hs (withNumber_of_none hx _ _ _)).trans rfl)
  · obtain ⟨h0, h1, h2, h4, h5, h9, h11, h15, h17, h18, h20, h24, h26, h27, h31, h32, h33, h34, h35, h36⟩ :=
      borrower_fields h
    refine ⟨h0, h1, h2, h4, signed_field h5, signed_field h9, signed_field h11, h15, h17, signed_field h18,
      signed_field h20, signed_field h24, h26, signed_field h27, fun k f hk => ?_,
      ⟨h32.trans (record_code _), h33.trans (record_station _)⟩, ⟨h34.trans (record_code _),
      h35.trans (record_station _)⟩, flags_field h36 (by simp)⟩
    rw [h31]
    exact byteOf_flagByte_testBit (n := 1) rfl hk
  · rw [itemView_eq, h]
    obtain ⟨h0, h1, h2, h9, h11, h13, h14, h15, h16⟩ := entry_fields i ((s.trapOfItem n).map TrapRecord.view |>.getD (bytesOf 9 0))
    refine ⟨h0, h1.trans (toNat_mod_256 _), h2.trans ?_, fun k hk => (entry_digits i _ hk).trans ?_, h9.trans ?_,
      h11.trans ?_, h13.trans ?_, h14.trans ?_, h15, h16⟩
    · cases i.basis <;> rfl
    · rw [loan_getD i.loan LoanPart.borrower rfl]
    · rw [loan_getD i.loan LoanPart.dueDay rfl]
    · rw [loan_getD i.loan LoanPart.dueMinute rfl]
    · rw [itemClass, item?_item h]
      omega
    · rw [loan_getD i.loan LoanPart.renewCount rfl]
  · have hlen : (((s.item? n).map ItemEntry.view).getD (bytesOf 18 0)).length = 18 := by cases s.item? n <;> simp
    rw [itemView_eq, trapOfItem_of_one h]
    obtain ⟨h18, h19, h20⟩ := trap_fields t hlen
    refine ⟨h18.trans ?_, h19, h20, fun k hk => trap_digits t hlen hk⟩
    rw [TrapRecord.stateCode]
    cases t.state <;> rfl

end Sys2Proof.Proofs

/-! Staging a rule set part by part (R47 to R49). -/

namespace Sys2Proof.Proofs
open Sys2Proof Sys2Proof.Machine

/-- A settings command while no settings write cycle runs is taken by its own rule. -/
theorem take_settingsCommand {s : State} (hs : s.serves = true) (h : s.settings.cycle = none) {n : Nat}
    {b : State → List Byte} {f : State → State × Reply} : s.take n (settingsCommand b f) = s.take n f := by
  have hidle : settingsCommand b f s.commandStatus = f s.commandStatus := by simp [settingsCommand, h]
  rw [State.take_serves s n _ hs, State.take_serves s n _ hs, hidle]

/-- A settings command is BUSY while a settings write cycle runs, whatever it is. -/
theorem settingsCommand_of_cycle {s : State} (h : s.settings.cycle.isSome = true) (b : State → List Byte)
    (f : State → State × Reply) : settingsCommand b f s = (s, ⟨busyCode, b s, .none⟩) := if_pos h

theorem stagedByte_commandStatus (s : State) : s.commandStatus.stagedByte = [byteOf s.reckoner.stagedCode] := by
  rw [State.stagedByte, State.commandStatus_reckoner]

/-- A part that passes its checks is staged. -/
theorem take_stagePart {s : State} (hs : s.serves = true) (hc : s.settings.cycle = none)
    {f : RuleSet → Option RuleSet} {rs : RuleSet} (hf : f (s.reckoner.staged.getD s.reckoner.active) = some rs) :
    s.take 1 (stageCommand (stagePart f)) = { s with
      reckoner := { s.reckoner with staged := some rs, recorded := false }, port := s.portAfter [0#8, 1#8] .none } := by
  obtain ⟨p, -, -, hport, htake⟩ := take_of_serves hs
  rw [stageCommand, take_settingsCommand hs hc, htake, stagePart, show f (Reckoner.base s.reckoner) = some rs from hf, hport]
  rfl

/-- A part that fails its checks is BAD_RULE and stages nothing. -/
theorem take_stagePart_bad {s : State} (hs : s.serves = true) (hc : s.settings.cycle = none)
    {f : RuleSet → Option RuleSet} (hf : f s.reckoner.base = none) :
    s.take 1 (stageCommand (stagePart f)) = { s with
      port := s.portAfter [0x8D#8, byteOf s.reckoner.stagedCode] .none } := by
  rw [stageCommand, take_settingsCommand hs hc]
  refine (take_answers hs (r := ⟨refusedFor 13, [byteOf s.reckoner.stagedCode], .none⟩) ?_).trans rfl
  rw [stagePart, State.commandStatus_reckoner, hf, ← stagedByte_commandStatus]

/-- Every part is BUSY while a settings write cycle runs. -/
theorem take_stageCommand_busy {s : State} (hs : s.serves = true) (hc : s.settings.cycle.isSome = true)
    (f : State → State × Reply) : s.take 1 (stageCommand f) = { s with
      port := s.portAfter [1#8, byteOf s.reckoner.stagedCode] .none } := by
  refine (take_answers hs (r := ⟨busyCode, [byteOf s.reckoner.stagedCode], .none⟩) ?_).trans rfl
  rw [stageCommand, settingsCommand_of_cycle (by rw [State.commandStatus_settings, hc]), stagedByte_commandStatus]

/-- A holiday to be added is staged like any part where the list holds it or has room. -/
theorem holidayAdd_of_room {s : State} {d : Nat} (h : d ∈ s.reckoner.base.holidays ∨ s.reckoner.base.holidays.length < 48) :
    holidayAdd d s = stagePart (fun rs => some { rs with holidays := insertDay d rs.holidays }) s := by
  have : (s.reckoner.base.holidays.contains d || decide (s.reckoner.base.holidays.length < Config.holidayCapacity)) = true := by
    obtain h | h := h
    · rw [List.contains_iff_mem.2 h, Bool.true_or]
    · rw [decide_eq_true (by exact h), Bool.or_true]
  rw [holidayAdd, if_pos this]

theorem holidayAdd_of_full {s : State} {d : Nat} (h : d ∉ s.reckoner.base.holidays)
    (hfull : 48 ≤ s.reckoner.base.holidays.length) : holidayAdd d s = (s, ⟨refusedFor 14, s.stagedByte, .none⟩) := by
  have : ¬(s.reckoner.base.holidays.contains d || decide (s.reckoner.base.holidays.length < Config.holidayCapacity)) = true := by
    rw [decide_eq_false (by exact Nat.not_lt.2 hfull), Bool.or_false, List.contains_iff_mem]
    exact h
  rw [holidayAdd, if_neg this]

/-- The checks of a CLASS part (R47). -/
theorem stagedClassRule_bad {u p rate cap g k : Nat} (h : 2 < u ∨ 5000 < rate ∨ 60000 < cap ∨ 9 < k ∨
    (u = 1 ∧ (p = 0 ∨ 120 < p ∨ 7 < g)) ∨ (u = 2 ∧ (p = 0 ∨ 12 < p))) : stagedClassRule u p rate cap g k = none := by
  unfold stagedClassRule
  split
  · rfl
  · obtain rfl | rfl | rfl | hu : u = 0 ∨ u = 1 ∨ u = 2 ∨ 2 < u := by omega
    · omega
    · simp; omega
    · simp; omega
    · rw [if_neg (by omega), if_neg (by omega), if_neg (by omega)]

theorem stagedClassRule_none {p rate cap g k : Nat} (hr : rate ≤ 5000) (hc : cap ≤ 60000) (hk : k ≤ 9) :
    stagedClassRule 0 p rate cap g k = some ⟨.none, 0, rate, cap, 0, k⟩ := by
  rw [stagedClassRule, if_neg (by omega), if_pos rfl]

theorem stagedClassRule_days {p rate cap g k : Nat} (hr : rate ≤ 5000) (hc : cap ≤ 60000) (hk : k ≤ 9) (h1 : 1 ≤ p)
    (h2 : p ≤ 120) (hg : g ≤ 7) : stagedClassRule 1 p rate cap g k = some ⟨.days, p, rate, cap, g, k⟩ := by
  rw [stagedClassRule, if_neg (by omega), if_neg (by decide), if_pos rfl, if_pos ⟨h1, h2, hg⟩]

theorem stagedClassRule_hours {p rate cap g k : Nat} (hr : rate ≤ 5000) (hc : cap ≤ 60000) (hk : k ≤ 9) (h1 : 1 ≤ p)
    (h2 : p ≤ 12) : stagedClassRule 2 p rate cap g k = some ⟨.hours, p, rate, cap, 0, k⟩ := by
  rw [stagedClassRule, if_neg (by omega), if_neg (by decide), if_neg (by decide), if_pos rfl, if_pos ⟨h1, h2⟩]

/-- Settles O10: each part by its own checks. -/
theorem stageRuleStagesOrRefuses : Obligations.StageRuleStagesOrRefuses := by
  refine ⟨fun s hs hc => ?_, fun s hs => ⟨fun hc => ?_, fun hc => ?_⟩⟩
  · have staged := @take_stagePart s hs hc
    refine ⟨?_, fun c p g k rate cap hcls hr hcap hk => ⟨fun h1 h2 hg => ?_, fun h1 h2 => ?_, ?_⟩, fun c k mask h1 h2 => ?_,
      fun w o c hw hc' ho => ?_, fun m => ?_, fun d hd => ?_, fun d => ?_, fun w b => ?_, fun m hm => ?_⟩
    · obtain ⟨p, -, -, hport, htake⟩ := take_of_serves hs
      refine congrArg Host.Outcome.next ?_
      rw [stageCommand, take_settingsCommand hs hc, htake, hport]
      rfl
    · exact congrArg _ (staged (by rw [if_pos hcls]; exact congrArg _ (stagedClassRule_days hr hcap hk h1 h2 hg)))
    · exact congrArg _ (staged (by rw [if_pos hcls]; exact congrArg _ (stagedClassRule_hours hr hcap hk h1 h2)))
    · exact congrArg _ (staged (by rw [if_pos hcls]; exact congrArg _ (stagedClassRule_none hr hcap hk)))
    · exact congrArg _ (staged (if_pos ⟨h1, h2⟩))
    · exact congrArg _ (staged (if_pos ⟨hw, hc', ho⟩))
    · refine congrArg Host.Outcome.next (staged ?_)
      rfl
    · refine congrArg Host.Outcome.next ?_
      have hadd : holidayAdd d.toNat s.commandStatus =
          stagePart (fun rs => some { rs with holidays := insertDay d.toNat rs.holidays }) s.commandStatus :=
        holidayAdd_of_room (by rw [State.commandStatus_reckoner]; exact hd)
      rw [← staged (f := fun rs => some { rs with holidays := insertDay d.toNat rs.holidays }) rfl, stageCommand,
        take_settingsCommand hs hc, stageCommand, take_settingsCommand hs hc, State.take_serves s 1 _ hs, hadd,
        State.take_serves s 1 _ hs]
    · refine congrArg Host.Outcome.next (staged ?_)
      rfl
    · refine congrArg _ (staged ?_)
      have hmin : min w.toNat b.toNat = if b.toNat < w.toNat then b.toNat else w.toNat := by split <;> omega
      rw [RuleSet.withWindow, hmin]
    · exact congrArg _ (staged (if_pos hm))
  · have bad := @take_stagePart_bad s hs hc
    refine ⟨fun c u p g k rate cap h => ?_, fun c k mask h => ?_, fun w o c h => ?_, fun m h => ?_, fun b h => ?_,
      fun d hd hfull => ?_⟩
    · refine congrArg Host.Outcome.next (bad ?_)
      split
      · rw [stagedClassRule_bad]
        · rfl
        · obtain hc | hu | hr | hc | hk | ⟨hu, hp⟩ | ⟨hu, hp⟩ := h
          · omega
          · exact .inl hu
          · exact .inr (.inl hr)
          · exact .inr (.inr (.inl hc))
          · exact .inr (.inr (.inr (.inl hk)))
          · exact .inr (.inr (.inr (.inr (.inl ⟨by rw [hu]; rfl, hp⟩))))
          · exact .inr (.inr (.inr (.inr (.inr ⟨by rw [hu]; rfl, hp⟩))))
      · rfl
    · exact congrArg _ (bad (if_neg (by omega)))
    · exact congrArg _ (bad (if_neg (by omega)))
    · exact congrArg _ (bad (if_neg (by omega)))
    · refine congrArg Host.Outcome.next ?_
      rw [if_pos h]
      exact bad rfl
    · refine congrArg Host.Outcome.next ?_
      rw [stageCommand, take_settingsCommand hs hc]
      refine (take_answers hs (r := ⟨refusedFor 14, [byteOf s.reckoner.stagedCode], .none⟩) ?_).trans rfl
      rw [holidayAdd_of_full (by rwa [State.commandStatus_reckoner]) (by rwa [State.commandStatus_reckoner]),
        stagedByte_commandStatus]
  · have busy := take_stageCommand_busy hs hc
    refine ⟨congrArg _ (busy _), fun _ _ _ _ _ _ _ => congrArg _ (busy _), fun _ _ _ => congrArg _ (busy _),
      fun _ _ _ => congrArg _ (busy _), fun _ => congrArg _ (busy _), fun _ => congrArg _ (busy _),
      fun _ => congrArg _ (busy _), fun _ _ => congrArg _ (busy _), fun _ => congrArg _ (busy _), fun b hb => ?_⟩
    refine congrArg Host.Outcome.next ?_
    rw [if_pos hb]
    exact busy _

end Sys2Proof.Proofs

/-! The activation of a rule set and the settings store's write cycle (R50 to R52, R185, R186). -/

namespace Sys2Proof.Proofs
open Sys2Proof Sys2Proof.Machine

/-! ## APPLY NOW -/

/-- The one-shot does not fire of an UNSET clock, disarmed, or before its minute. -/
theorem testOneShot_of_early {s : State}
    (h : s.clock.set = false ∨ s.clock.armed = false ∨ s.clock.minute < s.rules.uploadMinute) : s.testOneShot = s := by
  have hoff : (s.clock.set && s.clock.armed && decide (s.rules.uploadMinute ≤ s.clock.minute)) = false := by
    obtain h | h | h := h
    · rw [h]; rfl
    · rw [h, Bool.and_false]; rfl
    · rw [decide_eq_false (Nat.not_le.2 h), Bool.and_false]
  rw [State.testOneShot, hoff]
  rfl

/-- An activation makes the staged set the active one, and asks an idle settings store for its recording. -/
theorem activate_of_staged {s : State} {rs : RuleSet} (h : s.reckoner.staged = some rs) (hc : s.settings.cycle = none) :
    s.activate = { s with
      reckoner := ⟨rs, none, false⟩, settings := { s.settings with cycle := some ⟨none, some rs, none⟩ } } := by
  simp only [State.activate, h, State.askRecord, hc, State.recordCycle]

/-- A lane that is IDLE or CLOSED. -/
theorem still_iff (c : LaneCtl) : (c.state == .idle || c.state == .closed) = true ↔ c.state = .idle ∨ c.state = .closed := by
  simp

theorem applyNow_of_still {s : State} (h : ∀ l, (s.lane l).state = .idle ∨ (s.lane l).state = .closed) :
    applyNowCommand s = if s.reckoner.staged.isNone then (s, refused 15 0) else (s.activate.testOneShot, ok) := by
  have ha : (s.laneA.state == .idle || s.laneA.state == .closed) = true := (still_iff _).2 (h .a)
  have hb : (s.laneB.state == .idle || s.laneB.state == .closed) = true := (still_iff _).2 (h .b)
  simp only [applyNowCommand, ha, hb, Bool.not_true, Bool.or_self, Bool.false_eq_true, if_false]

theorem applyNow_of_busy {s : State} (h : ∃ l, (s.lane l).state ≠ .idle ∧ (s.lane l).state ≠ .closed) :
    applyNowCommand s = (s, busyReply 0) := by
  obtain ⟨l, hidle, hclosed⟩ := h
  have hbusy : (!((s.lane l).state == .idle || (s.lane l).state == .closed)) = true := by simp [hidle, hclosed]
  rw [applyNowCommand, if_pos]
  cases l
  · rw [show s.laneA = s.lane .a from rfl, hbusy, Bool.true_or]
  · rw [show s.laneB = s.lane .b from rfl, hbusy, Bool.or_true]

/-- A served command whose rule sees past the port leaves what the rule leaves, and its answer in the port. -/
theorem take_changes {s t : State} (hs : s.serves = true) {n : Nat} {f : State → State × Reply} {r : Reply}
    (hf : ∀ p : Port, f { s with port := p } = ({ t with port := p }, r)) :
    s.take n f = { t with port := s.portAfter (r.code :: r.bytes) r.effect } := by
  obtain ⟨p, -, -, hport, htake⟩ := take_of_serves hs
  rw [htake, hf, hport]
  rfl

/-- Settles O12: the command's three answers. -/
theorem applyNowActivatesTheStagedSet : Obligations.ApplyNowActivatesTheStagedSet := by
  intro s hs hc
  refine ⟨fun rs hl hr hclock => ?_, fun hbusy => ?_, fun hl hr => ?_⟩ <;> refine congrArg Host.Outcome.next ?_ <;>
    rw [take_settingsCommand hs hc]
  · refine take_changes hs (t := { s with
      reckoner := ⟨rs, none, false⟩, settings := { s.settings with cycle := some ⟨none, some rs, none⟩ } }) (r := ok)
      fun p => ?_
    rw [applyNow_of_still (by exact fun l => by cases l; exacts [hl .a, hl .b]), activate_of_staged (by exact hr) (by exact hc),
      testOneShot_of_early (by exact hclock), if_neg (by simp [hr])]
  · refine (take_answers hs (applyNow_of_busy ?_)).trans rfl
    obtain ⟨l, h⟩ := hbusy
    exact ⟨l, by rwa [State.commandStatus_lane]⟩
  · refine (take_answers hs (r := refused 15 0) ?_).trans rfl
    rw [applyNow_of_still fun l => by rw [State.commandStatus_lane]; exact hl l, if_pos]
    rw [State.commandStatus_reckoner, hr]
    rfl

/-! ## Settings (R185, R186) -/

/-- A setting's number is one of ten, or none. -/
theorem withValue_of_large (x : Settings) {n : Nat} (h : 10 ≤ n) (v : Nat) : x.withValue n v = none := by
  obtain ⟨m, rfl⟩ := Nat.exists_eq_add_of_le' h
  rfl

/-- The range of each setting (R185). -/
theorem withValue_isSome (x : Settings) (n v : Nat) : (x.withValue n v).isSome =
    ((n == 0 && decide (v ≤ 15)) || (n == 1 && decide (v ≤ 2)) || (n == 2 && decide (v ≤ 3)) ||
      (n == 3 && decide (500 ≤ v) && decide (v ≤ 65535)) || (n == 4 && decide (12 ≤ v) && decide (v ≤ 24)) ||
      ((n == 5 || n == 6) && decide (1 ≤ v) && decide (v ≤ 2)) ||
      (n == 7 && decide (30 ≤ v) && decide (v ≤ 600)) || (n == 8 && decide (v ≤ 99)) ||
      (n == 9 && decide (1 ≤ v) && decide (v ≤ 60))) := by
  obtain hn | hn := Nat.lt_or_ge n 10
  · interval_cases n <;> simp only [Settings.withValue] <;> split <;> simp <;> omega
  · have hne : ∀ k < 10, (n == k) = false := fun k hk => by simp; omega
    rw [withValue_of_large x hn]
    simp [hne]

/-- A setting written reads back, and no other changes. -/
theorem withValue_value {x d : Settings} {n v : Nat} (h : x.withValue n v = some d) :
    d.value n = v ∧ ∀ k, k < 10 → k ≠ n → d.value k = x.value k := by
  have hn : n < 10 := by
    by_contra hn
    rw [withValue_of_large x (by omega)] at h
    cases h
  interval_cases n <;> simp only [Settings.withValue] at h <;> split at h <;> cases h <;>
    refine ⟨rfl, fun k hk hne => ?_⟩ <;> interval_cases k <;> simp_all [Settings.value]

/-- A settings write cycle that ends with no cycle waiting: the images are written, and the flag of a bad slot set. -/
theorem cycleDone_of_cycle {s : State} {w : WriteCycle} (hc : s.settings.cycle = some w)
    (hw : s.settings.recordWaiting = false) (e : SettingsEnd) :
    let store : Store :=
      { station := (w.station.map fun a => s.store.station.write a (!e.badStation)).getD s.store.station
        active := (w.active.map fun a => s.store.active.write a (!e.badActive)).getD s.store.active
        staged := s.store.staged.write w.staged (!e.badStaged) }
    let bad := (w.station.isSome && e.badStation) || (w.active.isSome && e.badActive) || e.badStaged
    let t := { s with store := store, settings := { s.settings with cycle := none, lastFailed := bad } }
    s.cycleDone e = if bad then t.latch causeStationFault
      else if s.reckoner.staged = w.staged then t.setReckoner { s.reckoner with recorded := true } else t := by
  obtain ⟨station, active, staged⟩ := w
  simp only [State.cycleDone, hc, hw]
  cases station <;> cases active <;> rfl

/-- Settles O13: the three commands, and the two ends of a write cycle. -/
theorem settingsAreDraftedAndCommitted : Obligations.SettingsAreDraftedAndCommitted := by
  refine ⟨fun s hs hc => ⟨fun n hn => ?_, ?_, fun n hn => ?_, fun n v d hd => ⟨?_, withValue_value hd⟩, fun n v hd => ?_,
    withValue_isSome _, ?_⟩, fun e w s hc hw => ⟨fun hbad hst => ?_, fun hbad => ?_⟩⟩
  all_goals refine congrArg Host.Outcome.next ?_
  · rw [take_settingsCommand hs hc]
    refine take_answers hs (r := acceptedWith (bytesOf 2 (s.settings.draft.value n.toNat) ++
      bytesOf 2 (s.settings.inForce.value n.toNat))) ?_
    rw [readSettingCommand, if_pos hn, State.commandStatus_settings]
  · rw [take_settingsCommand hs hc]
    refine (take_answers hs (f := readSettingCommand 10) (r := acceptedWith (bytesOf 2 s.settings.strap.toNat ++
      bytesOf 2 s.settings.strap.toNat)) (by rw [← State.commandStatus_settings s]; rfl)).trans ?_
    cases s.settings.strap <;> rfl
  · rw [take_settingsCommand hs hc]
    refine (take_answers hs (r := refused 9 4) ?_).trans rfl
    rw [readSettingCommand, if_neg (by omega), if_neg (by omega)]
  · rw [take_settingsCommand hs hc]
    refine take_changes hs (t := { s with settings := { s.settings with draft := d } }) (r := ok) fun p => ?_
    simp only [writeSettingCommand, hd]
    rfl
  · rw [take_settingsCommand hs hc]
    refine (take_answers hs (r := refused 25 0) ?_).trans rfl
    simp only [writeSettingCommand, State.commandStatus_settings, hd]
  · rw [take_settingsCommand hs hc]
    exact take_changes hs (t := { s with settings := { s.settings with
      cycle := some ⟨some s.settings.draft, none, s.reckoner.staged⟩ } }) (r := ok) fun p => rfl
  · exact (cycleDone_of_cycle hc hw e).trans ((if_neg (by rw [hbad]; decide)).trans (if_pos hst))
  · exact (cycleDone_of_cycle hc hw e).trans (if_pos hbad)

end Sys2Proof.Proofs

/-! Restarts, the cold start and the end of GATHERING (R19, R134, R187 to R189). -/

namespace Sys2Proof.Proofs
open Sys2Proof Sys2Proof.Machine

/-! ## The end of GATHERING (R187) -/

/-- The station stays in GATHERING while a timer runs. -/
theorem testReady_of_running {s : State} (h : s.minimumTimer.isSome = true ∨ s.quietTimer.isSome = true) :
    s.testReady = s := by
  refine if_neg fun ⟨_, hmin, hquiet⟩ => ?_
  rw [hmin, hquiet] at h
  simp at h

/-- With both timers expired the station is READY, and the lanes of its plan open. -/
theorem testReady_of_expired {s : State} (hg : s.station = .gathering) (hmin : s.minimumTimer = none)
    (hquiet : s.quietTimer = none) : s.testReady = { s with
      station := .ready, laneA := s.laneA.opened
      laneB := if s.settings.inForce.lanePlan = 1 then s.laneB else s.laneB.opened } := by
  rw [State.testReady, if_pos ⟨hg, hmin, hquiet⟩]
  by_cases hplan : s.settings.inForce.lanePlan = 1 <;> simp [State.oneLane, hplan]

/-- Settles O17: the expiry of either timer, with the other running or expired. -/
theorem gatheringEndsWithBothTimers : Obligations.GatheringEndsWithBothTimers := by
  refine ⟨fun k s hmin _ hquiet => ?_, fun k s hquiet _ hmin => ?_, fun k s hg => ⟨fun hmin hquiet => ?_, fun hquiet hmin => ?_⟩⟩
    <;> refine congrArg Host.Outcome.next ?_
  · rw [if_pos (by rw [hmin]; rfl), testReady_of_running (by exact .inr hquiet)]
  · rw [if_pos (by rw [hquiet]; rfl), testReady_of_running (by exact .inl hmin)]
  · rw [if_pos (by rw [hmin]; rfl), testReady_of_expired (by exact hg) rfl (by exact hquiet)]
    simp only [hquiet]
    rfl
  · rw [if_pos (by rw [hquiet]; rfl), testReady_of_expired (by exact hg) (by exact hmin) rfl]
    simp only [hmin]
    rfl

/-! ## WARM RESTART (R188) -/

theorem takesCommand_of_serves {s : State} (h : s.serves = true) : s.takesCommand = true := (Bool.and_eq_true_iff.1 h).1

/-- A served WARM RESTART. -/
theorem takeWarmRestart_of_serves {s : State} (h : s.serves = true) : s.takeWarmRestart =
    if s.station = .fault then s.commandStatus.answer (refused 2 0)
    else if s.settings.cycle.isSome then s.commandStatus.answer (busyReply 0)
    else (s.commandStatus.answer ok).mapPort fun p => { p with frame := .restarting } := by
  have hready : s.commandStatus.port.ready = true := by
    rw [State.commandStatus_ready]
    exact (Bool.and_eq_true_iff.1 h).2
  simp only [State.takeWarmRestart, takesCommand_of_serves h, if_true, hready, Bool.not_true, Bool.false_eq_true, if_false,
    State.commandStatus_station, State.commandStatus_settings]

/-! ## Writes cut off (R130, R134) -/

/-- An operation that writes nothing leaves the memory as it stands. -/
theorem cutMemory_of_writesNothing {s : State} (h : s.writesNothing = true) (c : Cut) : s.cutMemory c = s := by
  unfold State.cutMemory
  split
  · rfl
  · next r hr =>
    have hop : r.op.reads = true := by simpa [State.writesNothing, hr] using h
    obtain ⟨op, d⟩ := r
    cases op <;> simp [MemOp.reads] at hop <;> rfl

theorem cutSettings_of_idle {s : State} (h : s.settings.cycle = none) (c : Cut) : s.cutSettings c = s := by
  simp only [State.cutSettings, h]

theorem keepRollBegin_of_written {s : State} (h : s.memory.beginUnwritten = false) : s.keepRollBegin = s := by
  simp [State.keepRollBegin, h]

/-- With no write in flight a reset cuts nothing off. -/
theorem cut_of_quiet {s : State} (hm : s.writesNothing = true) (hb : s.memory.beginUnwritten = false)
    (hc : s.settings.cycle = none) (c : Cut) : ((s.cutMemory c).keepRollBegin).cutSettings c = s := by
  rw [cutMemory_of_writesNothing hm, keepRollBegin_of_written hb, cutSettings_of_idle hc]

/-- A value written is the field's value. -/
theorem value_write {p : CellPair} (v : Nat) (h0 : p.cell0.count ≠ BitVec.allOnes 32)
    (h1 : p.cell1.count ≠ BitVec.allOnes 32) : (p.write v true).value? = some v := by
  rw [← current_cellsImage, cellsImage_write]
  exact current_write_good h0 h1

/-- A value written whole after a write of it, whole or torn, is the field's value: where the second count wraps, both
cells hold the value. -/
theorem value_write_write {p : CellPair} (v : Nat) (good : Bool) (h0 : p.cell0.count ≠ BitVec.allOnes 32)
    (h1 : p.cell1.count ≠ BitVec.allOnes 32) : ((p.write v good).write v true).value? = some v := by
  have hup := count_lt_succ h0
  have hup' := count_lt_succ h1
  obtain ⟨⟨v0, c0, g0⟩, ⟨v1, c1, g1⟩⟩ := p
  by_cases hw : CellPair.writesCell0 ⟨⟨v0, c0, g0⟩, ⟨v1, c1, g1⟩⟩ = true
  · rw [CellPair.write.eq_1 (⟨⟨v0, c0, g0⟩, ⟨v1, c1, g1⟩⟩ : CellPair), if_pos hw]
    cases good <;> cases g1 <;> simp [CellPair.write, CellPair.writesCell0, CellPair.value?, hup', BitVec.lt_asymm hup']
  · rw [CellPair.write.eq_1 (⟨⟨v0, c0, g0⟩, ⟨v1, c1, g1⟩⟩ : CellPair), if_neg hw]
    cases good <;> cases g0 <;> simp [CellPair.write, CellPair.writesCell0, CellPair.value?, hup, BitVec.lt_asymm hup]

theorem cutSettings_attached (s : State) (c : Cut) : (s.cutSettings c).attached = s.attached := by
  unfold State.cutSettings
  split <;> rfl

/-- A cold start keeps the attached memory as the cut left it, with edition 0 where ROLL BEGIN is not written. -/
theorem start_cold_attached (s : State) (x : ResetInputs) :
    (s.start true x).attached = ((s.cutMemory x.cut).keepRollBegin).attached :=
  cutSettings_attached ((s.cutMemory x.cut).keepRollBegin) x.cut

/-- A header field's write leaves the bytes, and the other fields. -/
theorem keepRollBegin_of_unwritten {s : State} (h : s.memory.beginUnwritten = true) :
    s.keepRollBegin = s.writeField .edition 0 true := if_pos h

/-- The write of one header field, cut off: not begun, torn, or whole. -/
theorem writeFields_one (s : State) (f : HeaderField) (v n : Nat) (torn : Bool) :
    (s.writeFields [(f, v)] n torn).memory.beginUnwritten = s.memory.beginUnwritten ∧
    ((s.writeFields [(f, v)] n torn).attached = s.attached ∨
      ∃ good, (s.writeFields [(f, v)] n torn).attached = (s.writeField f v good).attached) := by
  cases n with
  | zero =>
    cases torn
    · exact ⟨rfl, .inl rfl⟩
    · exact ⟨rfl, .inr ⟨false, rfl⟩⟩
  | succ n => exact ⟨rfl, .inr ⟨true, rfl⟩⟩

/-- What a reset leaves of an unwritten ROLL BEGIN (R134). -/
theorem keepRollBegin_edition {s t : State} (hb : t.memory.beginUnwritten = true)
    (h : (t.attached.header.edition = s.attached.header.edition ∨
      ∃ good, t.attached.header.edition = s.attached.header.edition.write 0 good))
    (h0 : s.attached.header.edition.cell0.count ≠ BitVec.allOnes 32)
    (h1 : s.attached.header.edition.cell1.count ≠ BitVec.allOnes 32) :
    t.keepRollBegin.attached.header.edition.value? = some 0 := by
  rw [keepRollBegin_of_unwritten hb]
  show (t.attached.header.edition.write 0 true).value? = some 0
  obtain h | ⟨good, h⟩ := h <;> rw [h]
  · exact value_write 0 h0 h1
  · exact value_write_write 0 good h0 h1

/-- ROLL BEGIN's header write keeps the bytes and the other fields. -/
theorem keepRollBegin_rest (t : State) : t.keepRollBegin.attached.cells = t.attached.cells ∧
    t.keepRollBegin.attached.header.head = t.attached.header.head := by
  unfold State.keepRollBegin
  split <;> exact ⟨rfl, rfl⟩

/-- Settles O15: the command, both starts, and edition 0 after an unwritten ROLL BEGIN. -/
theorem restartsResetTheBlocks : Obligations.RestartsResetTheBlocks := by
  refine ⟨fun s hs hst hc => ?_, fun s hs hst => ?_, fun s hs hst hc => ?_, fun b x s hf hm hb hc hfaulted => ?_,
    fun x s hm hb hc => ?_, fun x d s hb hbusy h0 h1 => ⟨_, rfl, ?_⟩⟩
  · refine congrArg Host.Outcome.next ?_
    rw [takeWarmRestart_of_serves hs, if_neg hst, if_neg (by simp [hc]), State.answer_eq, State.commandStatus_replied]
    rfl
  · refine congrArg Host.Outcome.next ?_
    rw [takeWarmRestart_of_serves hs, if_pos hst, State.answer_eq, State.commandStatus_replied]
    rfl
  · refine congrArg Host.Outcome.next ?_
    rw [takeWarmRestart_of_serves hs, if_neg hst, if_pos hc, State.answer_eq, State.commandStatus_replied]
    rfl
  · refine congrArg Host.Outcome.next ?_
    simp only [State.release, hf, State.start, State.resetBlocks, cut_of_quiet hm hb hc, Bool.false_eq_true, if_false, hfaulted,
      State.settingsRead]
    rfl
  · refine congrArg Host.Outcome.next ?_
    simp only [State.start, State.resetBlocks, cut_of_quiet hm hb hc, State.settingsRead]
    rfl
  · rw [start_cold_attached]
    obtain ⟨hcells, hhead⟩ := keepRollBegin_rest (s.cutMemory x.cut)
    rw [hcells, hhead]
    obtain h | h | h := hbusy
    · obtain ⟨hkept, hatt⟩ := writeFields_one s .edition 0 x.cut.memWrites (decide (0 < x.cut.memBytes))
      have hcut : s.cutMemory x.cut = s.writeFields [(.edition, 0)] x.cut.memWrites (decide (0 < x.cut.memBytes)) := by
        rw [State.cutMemory, h]
        rfl
      rw [hcut]
      refine ⟨keepRollBegin_edition (hkept.trans hb) ?_ h0 h1, ?_⟩ <;> obtain hatt | ⟨good, hatt⟩ := hatt <;> rw [hatt]
      · exact .inl rfl
      · exact .inr ⟨good, rfl⟩
      · exact ⟨rfl, rfl⟩
      · exact ⟨rfl, rfl⟩
    · obtain ⟨hkept, hatt⟩ := writeFields_one s .snapshot s.memory.copies.head x.cut.memWrites (decide (0 < x.cut.memBytes))
      have hcut : s.cutMemory x.cut =
          s.writeFields [(.snapshot, s.memory.copies.head)] x.cut.memWrites (decide (0 < x.cut.memBytes)) := by
        rw [State.cutMemory, h]
        rfl
      rw [hcut]
      refine ⟨keepRollBegin_edition (hkept.trans hb) ?_ h0 h1, ?_⟩ <;> obtain hatt | ⟨good, hatt⟩ := hatt <;> rw [hatt]
      · exact .inl rfl
      · exact .inl rfl
      · exact ⟨rfl, rfl⟩
      · exact ⟨rfl, rfl⟩
    · rw [cutMemory_of_writesNothing h]
      exact ⟨keepRollBegin_edition hb (.inl rfl) h0 h1, rfl, rfl⟩

end Sys2Proof.Proofs

/-! The header check (R129, R130, R141, R142, R187). -/

namespace Sys2Proof.Proofs
open Sys2Proof Sys2Proof.Machine

/-! ## Replay begins -/

/-- The line controller as the station leaves STARTING: a PRESENCE queued, the presence timer running. -/
def lineBegun (x : LineCtl) : LineCtl := { x with
  presenceTimer := some 10000, s := [⟨0, 255, .presence ⟨0, 0, 0, false, false, []⟩⟩] }

theorem beginWork_of_starting {s : State} (h : s.station = .starting) (hs : s.line.s = []) :
    s.beginWork = { s with line := lineBegun s.line } := by
  simp [State.beginWork, h, State.handPresence, State.queued, State.queueOf, hs, State.hand, State.room, depthOf,
    kindClass, kindCode, Config.depthS, State.setQueueOf, lineBegun, toAll, Config.presenceMs]

/-- A journal with records is replayed from its last one. -/
theorem startReplay_of_records {s : State} (h : s.station = .starting) (hs : s.line.s = []) (hb : s.memory.busy = none)
    (hw : s.memory.waiting = []) (hlt : s.memory.copies.tail < s.memory.copies.head) :
    s.startReplay = { s with
      station := .replaying, line := lineBegun s.line
      memory := { s.memory with busy := some ⟨.replayLast, false⟩, replay := some ⟨s.memory.copies.head - 1, .last⟩ } } := by
  unfold State.startReplay
  rw [beginWork_of_starting h hs]
  dsimp only
  rw [if_neg (by omega), ask_of_free (by exact hb) (by exact hw) (by rintro ⟨⟩)]
  rfl

/-- An empty journal leaves nothing to replay: GATHERING begins at once. -/
theorem startReplay_of_empty {s : State} (h : s.station = .starting) (hl : s.line = .reset)
    (hc : s.memory.copies = .zero) : s.startReplay = { s with
      station := .gathering, minimumTimer := some 5000, quietTimer := some 3000
      line := { lineBegun .reset with
        s := [⟨0, 255, .presence ⟨0, 0, 0, false, false, []⟩⟩, ⟨0, 255, .restateRequest 1⟩], engine := .idle }
      memory := { s.memory with replay := none } } := by
  unfold State.startReplay
  rw [beginWork_of_starting h (by rw [hl]; rfl), hl]
  dsimp only
  rw [hc]
  simp only [State.replayFrom, hc]
  rw [if_pos (show Copies.zero.head = Copies.zero.tail from rfl), if_neg (by decide), if_neg (by decide)]
  unfold State.replayDone
  dsimp only
  rw [if_neg (by simp [State.content, State.setMemory, hc, Copies.zero, Config.journalHigh])]
  simp only [State.setMemory, hc]
  rfl

/-! ## The clock at the controller's fault (R142) -/

theorem clock_of_base {s t : State} (h : t.base = s.base) : t.clock = s.clock := by
  simp only [State.base, Prod.mk.injEq] at h
  obtain ⟨-, -, -, -, -, -, -, -, hclock, -⟩ := h
  exact hclock

theorem clock_laneFaultAnswer (s : State) (l : LaneId) (op : MemOp) : (s.laneFaultAnswer l op).clock = s.clock := by
  unfold State.laneFaultAnswer
  split
  · exact clock_of_base (State.appendFailed_base s l)
  · split
    · split
      · exact clock_of_base (State.returnOn_base s l _)
      · exact clock_of_base (State.endTxn_base s l _ _)
    · rfl
  · exact clock_of_base (State.endTxn_base s l _ _)

theorem clock_faultLane (s : State) (rs : List MemRequest) (failing : Bool) (l : LaneId) :
    (s.faultLane rs failing l).clock = s.clock := by
  unfold State.faultLane
  split
  · rfl
  · split
    · exact clock_laneFaultAnswer s l _
    · dsimp only
      split
      · exact clock_laneFaultAnswer _ l _
      · rfl

theorem clock_beginWork (s : State) : s.beginWork.clock = s.clock := by
  unfold State.beginWork
  split
  · exact clock_of_base (State.handPresence_base _)
  · rfl

theorem clock_stationFault (s : State) : s.stationFault.clock = s.clock :=
  (clock_of_base ((State.testOwed_base _).trans ((State.releaseEngine_base _).trans
    ((State.closeLane_base _ .b).trans (State.closeLane_base _ .a))))).trans (clock_beginWork s)

theorem clock_faultLatched (s : State) : (faultLatched s).clock = s.clock := by
  refine (clock_of_base (State.latch_base _ _)).trans ?_
  split
  · exact (clock_of_base ((State.endSender_base _ _).trans (State.abandonParked_base (portDown s)))).trans rfl
  · exact (clock_of_base ((State.settle_base _).trans (State.abandonParked_base (portDown s)))).trans rfl

/-- The controller's fault leaves the day clock alone. -/
theorem clock_memFault (s : State) : s.memFault.clock = s.clock := by
  rw [memFault_eq, clock_stationFault, faultedAtB, clock_faultLane, faultedAtA, clock_faultLane, clock_faultLatched]

/-! ## The header check -/

/-- The header after whole writes of fields, in order. -/
def headerWritten (h : Header) (fields : List (HeaderField × Nat)) : Header :=
  fields.foldl (fun h x => h.setPair x.1 ((h.pair x.1).write x.2 true)) h

/-- The on-chip copies after them. -/
def copiesWritten (c : Copies) (fields : List (HeaderField × Nat)) : Copies :=
  fields.foldl (fun c x => c.set x.1 x.2) c

/-- Header fields written whole, in order. -/
theorem writeFields_whole (fields : List (HeaderField × Nat)) {n : Nat} (hn : fields.length ≤ n) (torn : Bool)
    (s : State) : s.writeFields fields n torn = { s with
      attached := { s.attached with header := headerWritten s.attached.header fields }
      memory := { s.memory with copies := copiesWritten s.memory.copies fields } } := by
  induction fields generalizing s n with
  | nil => rfl
  | cons x rest ih =>
    cases n with
    | zero => simp at hn
    | succ n => exact (ih (by simpa using hn) _).trans rfl

/-- The header as its nine fields are written afresh, each 0. -/
def zeroedHeader (h : Header) : Header :=
  { h with
    edition := h.edition.write 0 true, rollCount := h.rollCount.write 0 true, loansCount := h.loansCount.write 0 true
    holdCount := h.holdCount.write 0 true, tail := h.tail.write 0 true, send := h.send.write 0 true
    snapshot := h.snapshot.write 0 true, head := h.head.write 0 true, editionStart := h.editionStart.write 0 true }

/-- The nine fields of a fresh header, each 0. -/
def freshFields : List (HeaderField × Nat) :=
  [(.edition, 0), (.rollCount, 0), (.loansCount, 0), (.holdCount, 0), (.tail, 0), (.send, 0), (.snapshot, 0), (.head, 0),
    (.editionStart, 0)]

theorem headerWritten_fresh (h : Header) : headerWritten h freshFields = zeroedHeader h := rfl

theorem copiesWritten_fresh (c : Copies) : copiesWritten c freshFields = .zero := rfl

theorem writeFields_fresh (s : State) : s.writeFields freshFields 10 true = { s with
    attached := { s.attached with header := zeroedHeader s.attached.header }
    memory := { s.memory with copies := .zero } } := by
  rw [writeFields_whole freshFields (by decide), headerWritten_fresh, copiesWritten_fresh]

/-- A header written afresh reads as zero in every field. -/
theorem copies?_zeroedHeader {h : Header}
    (hc : ∀ f, (h.pair f).cell0.count ≠ BitVec.allOnes 32 ∧ (h.pair f).cell1.count ≠ BitVec.allOnes 32) (formatted : Bool) :
    Header.copies? { zeroedHeader h with formatted := formatted } = some .zero := by
  have hv : ∀ f, ((h.pair f).write 0 true).value? = some 0 := fun f => value_write 0 (hc f).1 (hc f).2
  have h1 := hv .edition
  have h2 := hv .rollCount
  have h3 := hv .loansCount
  have h4 := hv .holdCount
  have h5 := hv .tail
  have h6 := hv .send
  have h7 := hv .snapshot
  have h8 := hv .head
  have h9 := hv .editionStart
  simp only [Header.pair] at h1 h2 h3 h4 h5 h6 h7 h8 h9
  simp [Header.copies?, zeroedHeader, h1, h2, h3, h4, h5, h6, h7, h8, h9, Copies.zero]

/-- Header writes leave the format mark. -/
theorem formatted_writeFields (fields : List (HeaderField × Nat)) (n : Nat) (torn : Bool) (s : State) :
    (s.writeFields fields n torn).attached.header.formatted = s.attached.header.formatted := by
  have hset : ∀ (h : Header) f p, (h.setPair f p).formatted = h.formatted := fun h f p => by cases f <;> rfl
  induction fields generalizing s n with
  | nil => rfl
  | cons x rest ih =>
    obtain ⟨f, v⟩ := x
    cases n with
    | zero =>
      cases torn
      · rfl
      · exact hset _ _ _
    | succ n => exact (ih n _).trans (hset _ _ _)

/-- A header read at a station that has made its settings read. -/
theorem headerRead_of_ready {s : State} (h : s.port.ready = true) : s.headerRead = s.headerDone := by
  rw [State.headerRead, if_pos h]

theorem headerDone_of_read {s : State} {d : Bool} (h : s.memory.busy = some ⟨.headerRead, d⟩) : s.headerDone =
    if !s.attached.header.formatted then s.setMemory { s.memory with busy := some ⟨.freshHeader, false⟩ }
    else match s.attached.header.copies? with
      | some c => ((s.setMemory { s.memory with copies := c, busy := none }).startReplay).grant
      | none => s.memFault := by
  rw [State.headerDone, h] <;> rfl

/-- A fresh header's writes end: all ten whole, or the controller faults. -/
theorem freshHeaderEnd_of_busy {s : State} {d : Bool} {e : HeaderEnd} {n : Nat} (h : s.memory.busy = some ⟨.freshHeader, d⟩)
    (hn : HeaderEnd.good e 10 = n) : s.freshHeaderEnd e =
    if n = 10 then
      let t := s.writeFields freshFields n true
      let t := { t with attached := { t.attached with header := { t.attached.header with formatted := true } } }
      ((t.freePort).startReplay).grant
    else (s.writeFields freshFields n true).memFault := by
  rw [State.freshHeaderEnd, h, ← hn]
  rfl

theorem freshHeaderEnd_failed {s : State} {d : Bool} {k : Nat} (h : s.memory.busy = some ⟨.freshHeader, d⟩) (hk : k < 10) :
    s.freshHeaderEnd (.failsAt k) = (s.writeFields freshFields k true).memFault := by
  rw [freshHeaderEnd_of_busy h (show HeaderEnd.good (.failsAt k) 10 = k from Nat.min_eq_left hk.le), if_neg hk.ne]

theorem freshHeaderEnd_verified {s : State} {d : Bool} (h : s.memory.busy = some ⟨.freshHeader, d⟩) :
    s.freshHeaderEnd .verified = (State.startReplay { s with
      attached := { s.attached with header := { zeroedHeader s.attached.header with formatted := true } }
      memory := { s.memory with copies := .zero, busy := none } }).grant := by
  rw [freshHeaderEnd_of_busy h (show HeaderEnd.good .verified 10 = 10 from rfl), if_pos rfl, writeFields_fresh]
  rfl

/-- Settles O16: the three ends of the header read, and the two of a fresh header. -/
theorem headerCheckDecidesTheStart : Obligations.HeaderCheckDecidesTheStart := by
  refine ⟨fun s hr hb hf => ?_, fun c s hr hb hf hc hlt hst hw hs => ?_, fun s hr hb hf hc => ?_,
    fun s hb hw hz hst hl hcounts => ?_, fun k s hb hk => ?_⟩
  · refine congrArg Host.Outcome.next ?_
    rw [headerRead_of_ready hr, headerDone_of_read hb, hf]
    rfl
  · refine congrArg Host.Outcome.next ?_
    rw [headerRead_of_ready hr, headerDone_of_read hb, hf, hc]
    refine (congrArg State.grant (startReplay_of_records (by exact hst) (by exact hs) rfl (by exact hw) (by exact hlt))).trans ?_
    rw [grant_of_no_waiting (by exact hw)]
    rfl
  · refine ⟨_, rfl, ?_⟩
    rw [headerRead_of_ready hr, headerDone_of_read hb, hf, hc]
    obtain ⟨hstation, hdown, -, -, hlatched, hclosed, hatt⟩ := memFaulted s
    exact ⟨hstation, hdown.faulted, hlatched, hclosed .a, hclosed .b, hatt, clock_memFault s⟩
  · refine ⟨_, rfl, ?_⟩
    rw [freshHeaderEnd_verified hb, startReplay_of_empty (by exact hst) (by exact hl) rfl, grant_of_no_waiting (by exact hw)]
    exact ⟨rfl, rfl, copies?_zeroedHeader (fun f => (hcounts f).2) true, rfl, rfl, rfl, rfl, rfl, rfl⟩
  · refine ⟨_, rfl, ?_⟩
    rw [freshHeaderEnd_failed hb hk]
    obtain ⟨hstation, hdown, -, -, -, -, hatt⟩ := memFaulted (s.writeFields freshFields k true)
    exact ⟨hstation, hdown.faulted, by rw [hatt, formatted_writeFields]⟩

end Sys2Proof.Proofs

/-! Replay of the journal (R85, R94, R141). -/

namespace Sys2Proof.Proofs
open Sys2Proof Sys2Proof.Machine

/-- With records left, replay reads the next one. -/
theorem replayFrom_of_left {s : State} {n : Nat} (hb : s.memory.busy = none) (hw : s.memory.waiting = [])
    (hlt : n < s.memory.copies.head) : s.replayFrom n = { s with
      memory := { s.memory with busy := some ⟨.replayRead n, false⟩, replay := some ⟨n, .read⟩ } } := by
  unfold State.replayFrom
  dsimp only
  rw [if_pos hlt, ask_of_free (by exact hb) (by exact hw) (by rintro ⟨⟩)]
  rfl

/-- A step of replay that asks for its next operation keeps the port. -/
theorem grant_of_asked {s : State} {r : MemRequest} {x : Option Replay} : State.grant { s with
    memory := { s.memory with busy := some r, replay := x } } =
    { s with memory := { s.memory with busy := some r, replay := x } } := grant_busy rfl

/-- A new item entry takes a free place. -/
theorem newItem_of_room {s : State} {e : ItemEntry} (h : s.item? e.item = none) (hroom : s.overlay.used < 8192) :
    s.newItem e false = { s with overlay := { s.overlay with entries := s.overlay.entries ++ [e] } } := by
  have hfree : s.overlay.freeRoom = some s.overlay := if_pos hroom
  have hkept : s.overlay.entries.filter (fun x => x.item != e.item) = s.overlay.entries := by
    rw [List.filter_eq_self]
    intro x hx
    have := List.find?_eq_none.1 h x hx
    simpa using this
  simp only [State.newItem, Bool.false_and, Bool.false_eq_true, if_false, hfree]
  simp only [State.putItem, State.setOverlay, hkept]

/-- A replayed item record of an item without an entry makes one. -/
theorem replayItemOver_of_none {s : State} {r : JournalRecord} {a : ItemAnswer} (h : s.item? r.item = none)
    (hroom : s.overlay.used < 8192) : s.replayItemOver r a = { s with overlay := { s.overlay with
      entries := s.overlay.entries ++ [⟨r.item, a.basis, r.loanAfter a.loan, s.number, r.stamp⟩] } } := by
  simp only [State.replayItemOver, h]
  exact newItem_of_room h hroom

/-- A record that traps nothing goes by to the next one. -/
theorem replayTraps_of_none {s : State} {r : JournalRecord} (h : ¬(r.kind = .ret ∧ r.outcome = 1)) :
    s.replayTraps r = s.replayFrom (r.number + 1) := by
  rw [State.replayTraps, if_neg h]
  rfl

/-- The loans list has answered for replay. -/
theorem loansLookupDone_of_replay {s : State} {d : Bool} {k n : Nat} {r : JournalRecord}
    (hb : s.memory.busy = some ⟨.loansLookup .replay k, d⟩) (hr : s.memory.replay = some ⟨n, .overlay r⟩) :
    s.loansLookupDone = ((s.freePort.replayItem r (s.lookupLoan k)).replayTraps r).grant := by
  have hr' : s.freePort.memory.replay = some ⟨n, .overlay r⟩ := hr
  simp only [State.loansLookupDone, hb, State.replayWith, hr']

/-- The item's change made, the next record is asked for. -/
theorem replayTraps_next {s : State} {r : JournalRecord} (h : ¬(r.kind = .ret ∧ r.outcome = 1)) (hb : s.memory.busy = none)
    (hw : s.memory.waiting = []) (hlt : r.number + 1 < s.memory.copies.head) : (s.replayTraps r).grant = { s with
      memory := { s.memory with
        busy := some ⟨.replayRead (r.number + 1), false⟩, replay := some ⟨r.number + 1, .read⟩ } } := by
  rw [replayTraps_of_none h, replayFrom_of_left hb hw hlt]
  exact grant_of_asked

theorem loanAfter_eq (r : JournalRecord) (before : Option LoanPart) : r.loanAfter before = match r.kind with
    | .loan => some ⟨r.borrower, r.dueDay, r.dueMinute, 0⟩
    | .renew => some ⟨r.borrower, r.dueDay, r.dueMinute, (before.map (·.renewCount)).getD 0 + 1⟩
    | _ => none := rfl

/-- Settles O18: each completion of replay's operations. -/
theorem replayReadsTheJournal : Obligations.ReplayReadsTheJournal := by
  intro s hw
  refine ⟨fun hb hlt => ⟨fun hbad => ?_, fun hgood => ?_⟩, fun hb hlt => ?_, fun n r hb hgood hr he hl => ?_,
    fun n hb hbad => ⟨_, rfl, ?_⟩, fun n r hb hr hlt hkind => ?_⟩
  · refine congrArg Host.Outcome.next ?_
    have hbad' : slotHolds (s.freePort.slotBytes (s.memory.copies.head - 1)) (s.memory.copies.head - 1) = false := hbad
    simp only [State.replayLastDone, hb, hbad']
    rw [if_neg (by decide), ask_of_free rfl (by exact hw) (by rintro ⟨⟩), grant_busy rfl]
    rfl
  · refine congrArg Host.Outcome.next ?_
    simp only [State.replayLastDone, hb]
    rw [if_pos (by exact hgood), replayFrom_of_left rfl (by exact hw) (by exact hlt), grant_busy rfl]
    rfl
  · refine congrArg Host.Outcome.next ?_
    simp only [State.replayHeadEnd, hb]
    have hleft : s.memory.copies.tail < s.memory.copies.head - 1 := by omega
    refine (congrArg State.grant (replayFrom_of_left rfl (by exact hw) (by exact hleft))).trans ?_
    rw [grant_busy rfl]
    rfl
  · refine congrArg Host.Outcome.next ?_
    have hnone : s.freePort.entry? r.borrower = none := he
    simp only [State.replayReadDone, hb, hgood, if_true, State.replayRecord, hr]
    rw [if_neg (by rw [hnone]; decide), ask_of_free (by rfl) (by exact hw) (by exact fun _ => hl), grant_busy rfl]
    rfl
  · simp only [State.replayReadDone, hb, hbad]
    obtain ⟨hstation, hdown, -, -, -, -, hatt⟩ := memFaulted s
    exact ⟨hstation, hdown.faulted, hatt⟩
  · have htrap : ¬(r.kind = .ret ∧ r.outcome = 1) := by
      rintro ⟨hk, ho⟩
      obtain h | h | ⟨-, h⟩ := hkind
      · rw [hk] at h; cases h
      · rw [hk] at h; cases h
      · exact h ho
    have hdone : ∀ answer, s.lookupLoan r.item = answer →
        exec .loansListLookupComplete s = .next ((s.freePort.replayItem r answer).replayTraps r).grant := fun answer ha => by
      rw [← ha, ← loansLookupDone_of_replay hb hr]
      rfl
    refine ⟨fun hfault => ?_, fun a hfound hnone hroom => ?_, fun hmiss hnone hroom => ?_⟩
    · rw [hdone _ hfault]
      exact congrArg Host.Outcome.next (replayTraps_next (s := s.freePort.setIncomplete) htrap rfl hw hlt)
    · rw [hdone _ hfound]
      refine congrArg Host.Outcome.next ?_
      rw [State.replayItem, replayItemOver_of_none (by exact hnone) (by exact hroom), loanAfter_eq,
        replayTraps_next htrap (by rfl) (by exact hw) (by exact hlt)]
      rfl
    · rw [hdone _ hmiss]
      refine congrArg Host.Outcome.next ?_
      rw [State.replayItem, replayItemOver_of_none (by exact hnone) (by exact hroom), loanAfter_eq,
        replayTraps_next htrap (by rfl) (by exact hw) (by exact hlt)]
      rfl

end Sys2Proof.Proofs

/-! The wand front ends and the decoder (R3 to R17). -/

namespace Sys2Proof.Proofs
open Sys2Proof Sys2Proof.Machine

@[simp] theorem setWand_setWand (s : State) (w : Wand) (x y : FrontEnd) : (s.setWand w x).setWand w y = s.setWand w y := by
  cases w <;> rfl

@[simp] theorem setWand_wand (s : State) (w : Wand) : s.setWand w (s.wand w) = s := by cases w <;> rfl

/-! ## Level changes (R1, R3 to R7) -/

section Front
variable {s : State} {w : Wand} {n : Nat}

/-- A level change once the quiet zone has had its effect: an element ends in CAPTURING, and a bar may begin. -/
def levelAccepted (s : State) (w : Wand) (n : Nat) (level : Level) : State :=
  let s := s.mapWand w fun fe => { fe with level := Level.other level, reached := false }
  let s := if (s.wand w).state = .capturing then s.elementEnds w (min n 65535) else s
  if level = .bar then s else if (s.wand w).state = .capturing then s else s.mapWand w FrontEnd.barBegins

/-- A space that has reached the quiet-zone count without its event has the event's effect first. -/
theorem levelChanges_of_owing (hl : (s.wand w).level = .space) (hq : s.settings.inForce.quietZone ≤ min n 65535)
    (hr : (s.wand w).reached = false) : s.levelChanges w n = levelAccepted (s.quietZone w) w n .space := by
  have howed : (s.wand w).level = .space ∧ s.settings.inForce.quietZone ≤ min n Config.saturation ∧
      (s.wand w).reached = false := ⟨hl, hq, hr⟩
  unfold State.levelChanges
  dsimp only
  rw [if_pos howed, hl]
  rfl

theorem levelChanges_of_counted (h : (s.wand w).level = .space →
    (s.wand w).reached = true ∨ min n 65535 < s.settings.inForce.quietZone) :
    s.levelChanges w n = levelAccepted s w n (s.wand w).level := by
  have hnot : ¬((s.wand w).level = .space ∧ s.settings.inForce.quietZone ≤ min n Config.saturation ∧
      (s.wand w).reached = false) := by
    rintro ⟨hl, hq, hr⟩
    obtain h | h := h hl
    · rw [hr] at h; cases h
    · exact absurd hq (Nat.not_le.2 h)
  unfold State.levelChanges
  dsimp only
  rw [if_neg hnot]
  cases (s.wand w).level <;> rfl

/-- The wand's front end with the other level accepted. -/
def flipped (fe : FrontEnd) : FrontEnd := { fe with level := Level.other fe.level, reached := false }

/-- A bar that begins at a front end back in QUIET with the condition UNMET changes nothing. -/
theorem barBegins_of_unmet {fe : FrontEnd} (hq : fe.state = .quiet) (hm : fe.met = false) : fe.barBegins = fe := by
  simp [FrontEnd.barBegins, hq, hm]

/-- An element that ends in CAPTURING leaves it, with the condition UNMET, or stays in it. -/
theorem elementEnds_cases (c : Nat) (h : (s.wand w).state = .capturing) : ∃ fe, s.elementEnds w c = s.setWand w fe ∧
    (fe.state = .capturing ∨ fe.state = .quiet ∧ fe.met = false) := by
  unfold State.elementEnds State.tone
  split
  · dsimp only
    split
    · exact ⟨_, setWand_setWand s w _ _, .inr (by simp [FrontEnd.quietWith])⟩
    · exact ⟨_, rfl, .inr ⟨rfl, rfl⟩⟩
  · dsimp only
    split
    · exact ⟨_, setWand_setWand s w _ _, .inr (by simp [FrontEnd.quietWith])⟩
    · exact ⟨_, rfl, .inl h⟩

/-- A level change in CAPTURING ends an element. -/
theorem levelAccepted_of_capturing (hc : (s.wand w).state = .capturing) : levelAccepted s w n (s.wand w).level =
    (s.setWand w (flipped (s.wand w))).elementEnds w (min n 65535) := by
  have hc' : ((s.setWand w (flipped (s.wand w))).wand w).state = .capturing := by simp [flipped, hc]
  obtain ⟨fe, hfe, hstate⟩ := elementEnds_cases (min n 65535) hc'
  unfold levelAccepted
  rw [show (s.mapWand w fun fe => { fe with level := Level.other (s.wand w).level, reached := false }) =
    s.setWand w (flipped (s.wand w)) from rfl]
  dsimp only
  rw [if_pos hc', hfe]
  split
  · rfl
  · obtain hstate | ⟨hq, hm⟩ := hstate
    · rw [if_pos (by simpa using hstate)]
    · rw [if_neg (by simp [hq]), State.mapWand, State.wand_setWand, barBegins_of_unmet hq hm, setWand_setWand]

/-- A level change in QUIET or DECODING may begin a bar. -/
theorem levelAccepted_of_idle (hc : (s.wand w).state ≠ .capturing) : levelAccepted s w n (s.wand w).level =
    s.setWand w (if (s.wand w).level = .bar then flipped (s.wand w) else (flipped (s.wand w)).barBegins) := by
  have hc' : ¬((s.setWand w (flipped (s.wand w))).wand w).state = .capturing := by simpa [flipped] using hc
  unfold levelAccepted
  rw [show (s.mapWand w fun fe => { fe with level := Level.other (s.wand w).level, reached := false }) =
    s.setWand w (flipped (s.wand w)) from rfl]
  dsimp only
  rw [if_neg hc', if_neg hc']
  split
  · rfl
  · simp [State.mapWand]

/-- The quiet zone's effect in QUIET is the condition, in DECODING nothing. -/
theorem quietZone_of_idle (hc : (s.wand w).state ≠ .capturing) : s.quietZone w = s.setWand w { s.wand w with
    reached := true, met := (s.wand w).met || (s.wand w).state == .quiet } := by
  unfold State.quietZone
  dsimp only
  split
  · next h => simp [h]
  · next h =>
    have hquiet : ((s.wand w).state == .quiet) = false := by
      rw [show (s.wand w).state = .decoding from h]
      rfl
    rw [hquiet, Bool.or_false]
  · next h => exact absurd h hc

/-- A level change of a space outside CAPTURING begins a bar, its condition MET where the space reached the count. -/
theorem levelChanges_of_space (hl : (s.wand w).level = .space) (hc : (s.wand w).state ≠ .capturing) :
    s.levelChanges w n = s.setWand w (FrontEnd.barBegins { flipped (s.wand w) with
      met := (s.wand w).met || ((s.wand w).state == .quiet &&
        !((s.wand w).reached || decide (min n 65535 < s.settings.inForce.quietZone))) }) := by
  by_cases hshort : (s.wand w).reached = true ∨ min n 65535 < s.settings.inForce.quietZone
  · rw [levelChanges_of_counted fun _ => hshort, levelAccepted_of_idle hc, hl, if_neg (by decide)]
    have : ((s.wand w).reached || decide (min n 65535 < s.settings.inForce.quietZone)) = true := by simpa using hshort
    rw [this, Bool.not_true, Bool.and_false, Bool.or_false]
    rfl
  · obtain ⟨hr, hq⟩ := not_or.1 hshort
    have hr : (s.wand w).reached = false := by simpa using hr
    have hzone := quietZone_of_idle hc
    have hidle := levelAccepted_of_idle (s := s.quietZone w) (w := w) (n := n) (by simpa [hzone] using hc)
    have hlevel : ((s.quietZone w).wand w).level = .space := by rw [hzone, State.wand_setWand, ← hl]
    rw [levelChanges_of_owing hl (by omega) hr, ← hlevel, hidle, if_neg (by rw [hlevel]; decide), hzone, hr,
      decide_eq_false hq]
    simp [flipped]

end Front

/-- A bar begun by the level change of a space. -/
theorem barBegins_flipped {fe : FrontEnd} (hl : fe.level = .space) (hc : fe.state ≠ .capturing) (met : Bool) :
    FrontEnd.barBegins { flipped fe with met := met } =
      if fe.state = .quiet ∧ met = true then
        { fe with level := .bar, state := .capturing, met := false, reached := false, buffer := [] }
      else if fe.state = .quiet then { fe with level := .bar, met := met, reached := false }
      else { fe with level := .bar, met := false, reached := false } := by
  obtain ⟨state, oldMet, level, reached, buffer, tone, agreement, timer⟩ := fe
  cases state with
  | quiet => cases met <;> subst hl <;> rfl
  | capturing => exact absurd rfl hc
  | decoding => subst hl; rfl

/-- An element that ends in CAPTURING, by its length. -/
theorem elementEnds_eq (s : State) (w : Wand) (c : Nat) : s.elementEnds w c = s.setWand w (
    if c < 3 then { (s.wand w).quietWith false with
      tone := if 7 ≤ (s.wand w).buffer.length then some .error else (s.wand w).tone }
    else if 96 ≤ (s.wand w).buffer.length then { (s.wand w).quietWith false with tone := some .error }
    else { s.wand w with buffer := (s.wand w).buffer ++ [c] }) := by
  unfold State.elementEnds State.tone
  dsimp only
  by_cases hc : c < 3
  · rw [if_pos hc, if_pos hc]
    split <;> simp [FrontEnd.quietWith]
  · rw [if_neg hc, if_neg hc]
    by_cases hlen : 96 ≤ (s.wand w).buffer.length
    · rw [if_pos hlen, if_pos (by exact hlen)]
      simp
    · rw [if_neg hlen, if_neg (by exact hlen)]

theorem levelChanges_of_capture {s : State} {w : Wand} {n : Nat} (hc : (s.wand w).state = .capturing)
    (hshort : (s.wand w).level = .space → (s.wand w).reached = true ∨ min n 65535 < s.settings.inForce.quietZone) :
    s.levelChanges w n = (s.setWand w (flipped (s.wand w))).elementEnds w (min n 65535) := by
  rw [levelChanges_of_counted hshort, levelAccepted_of_capturing hc]

/-- Settles O26: level changes by the scan state, and the quiet zone's own event. -/
theorem frontEndCapturesElements : Obligations.FrontEndCapturesElements := by
  intro w s hready
  have hexec : ∀ n t, s.levelChanges w n = t → exec (.levelChange w n) s = .next t := fun n t ht =>
    congrArg Host.Outcome.next ((if_pos hready).trans ht)
  have hzone : (s.wand w).level = .space → ∀ t, s.quietZone w = t → exec (.quietZoneReached w) s = .next t :=
    fun hl t ht => congrArg Host.Outcome.next ((if_pos (by simp [hready, hl])).trans ht)
  refine ⟨fun n hl hq hm => hexec n _ ?_, fun n hl hq hm hshort => hexec n _ ?_, fun n hl hd => hexec n _ ?_,
    fun n hl hc => hexec n _ ?_, fun n hc hshort hn => ⟨fun hlen => hexec n _ ?_, fun hlen => hexec n _ ?_⟩,
    fun n hc hshort hn => hexec n _ ?_, fun hl hq => hzone hl _ ?_, fun hl hd => hzone hl _ ?_,
    fun hl hc hlen => hzone hl _ ?_, fun hl hc hlen => hzone hl _ ?_⟩
  · have hmet : ((s.wand w).met || ((s.wand w).state == .quiet &&
        !((s.wand w).reached || decide (min n 65535 < s.settings.inForce.quietZone)))) = true := by
      obtain hm | hm := hm
      · rw [hm, Bool.true_or]
      · obtain ⟨hr, hn⟩ := not_or.1 hm
        rw [hq, Bool.eq_false_iff.2 hr, decide_eq_false hn]
        simp
    rw [levelChanges_of_space hl (by simp [hq]), hmet, barBegins_flipped hl (by simp [hq]), if_pos ⟨hq, rfl⟩]
  · have hmet : ((s.wand w).met || ((s.wand w).state == .quiet &&
        !((s.wand w).reached || decide (min n 65535 < s.settings.inForce.quietZone)))) = false := by
      have : ((s.wand w).reached || decide (min n 65535 < s.settings.inForce.quietZone)) = true := by simpa using hshort
      rw [hm, this]
      simp
    rw [levelChanges_of_space hl (by simp [hq]), hmet, barBegins_flipped hl (by simp [hq]), if_neg (by simp), if_pos hq, ← hm]
  · rw [levelChanges_of_space hl (by simp [hd]), barBegins_flipped hl (by simp [hd]), if_neg (by simp [hd]),
      if_neg (by simp [hd])]
  · rw [levelChanges_of_counted (by simp [hl]), levelAccepted_of_idle hc, if_pos hl, flipped, hl]
    rfl
  · rw [levelChanges_of_capture hc hshort, elementEnds_eq, State.wand_setWand, setWand_setWand, if_neg (by omega),
      if_neg (by exact Nat.not_le.2 hlen)]
    rfl
  · rw [levelChanges_of_capture hc hshort, elementEnds_eq, State.wand_setWand, setWand_setWand, if_neg (by omega),
      if_pos (by exact hlen)]
    rfl
  · rw [levelChanges_of_capture hc hshort, elementEnds_eq, State.wand_setWand, setWand_setWand, if_pos (by omega)]
    rfl
  · have hquiet : ((s.wand w).state == .quiet) = true := by simp [hq]
    rw [quietZone_of_idle (by simp [hq]), hquiet, Bool.or_true]
  · have hquiet : ((s.wand w).state == .quiet) = false := by
      rw [hd]
      rfl
    rw [quietZone_of_idle (by simp [hd]), hquiet, Bool.or_false]
  · unfold State.quietZone
    simp [hc, hlen, FrontEnd.quietWith]
  · unfold State.quietZone
    simp only [hc]
    rw [if_neg (by omega)]
    cases hd : s.decoding <;> cases w <;> simp [State.setWand, hd]

/-! ## The end of a decode (R8, R10, R15 to R17) -/

section Decoder
variable (s : State) (w : Wand)

/-- The decoder done with a wand's buffer: the front end as given, and a waiting buffer of the other wand taken. -/
def decoded (x : FrontEnd) : State := { s.setWand w x with
  decoding := if (s.wand (otherWand w)).state = .decoding then some (otherWand w) else none }

/-- The wand's front end with its buffer gone back. -/
def returned : FrontEnd := { s.wand w with state := .quiet, buffer := [] }

@[simp] theorem wand_decoded (x : FrontEnd) : (decoded s w x).wand w = x := by cases w <;> rfl

@[simp] theorem setWand_decoded (x y : FrontEnd) : (decoded s w x).setWand w y = decoded s w y := by cases w <;> rfl

@[simp] theorem lane_decoded (x : FrontEnd) (l : LaneId) : (decoded s w x).lane l = s.lane l := by
  cases w <;> cases l <;> rfl

@[simp] theorem agreementOf_decoded (x : FrontEnd) (v : Wand) : (decoded s w x).agreementOf v = s.agreementOf v := by
  cases w <;> cases v <;> rfl

@[simp] theorem laneFor_decoded (x : FrontEnd) (v : Wand) : (decoded s w x).laneFor v = s.laneFor v := by
  cases w <;> cases v <;> rfl

theorem returnBuffer_eq : s.returnBuffer w = decoded s w (returned s w) := by cases w <;> rfl

@[simp] theorem tone_decoded (x : FrontEnd) (t : Tone) : (decoded s w x).tone w t = decoded s w { x with tone := some t } := by
  simp [State.tone]

theorem acceptLabel_decoded (x : FrontEnd) (ds : List Nat) : (decoded s w x).acceptLabel w ds =
    (decoded s w { x with tone := some .goodRead }).offer (s.laneFor w) ⟨.wand w, labelKind ds, ds⟩ := by
  simp only [State.acceptLabel, tone_decoded, laneFor_decoded]
  rfl

variable {s w}

theorem decodeDone_of_error {f : DecodeFault} (hd : s.decoding = some w)
    (h : decodeBuffer s.settings.inForce.ratio (s.wand w).buffer = .error f) :
    s.decodeDone = decoded s w { returned s w with tone := some .error } := by
  simp only [State.decodeDone, hd, h, returnBuffer_eq, tone_decoded]

theorem decodeDone_of_ok {ds : List Nat} (hd : s.decoding = some w)
    (h : decodeBuffer s.settings.inForce.ratio (s.wand w).buffer = .ok ds) :
    s.decodeDone = (decoded s w (returned s w)).readLabel w ds := by
  simp only [State.decodeDone, hd, h, returnBuffer_eq]

/-- An offer at a CLOSED lane sounds REFUSAL at its wand. -/
theorem offer_of_closed {t : State} {l : LaneId} (h : (t.lane l).state = .closed) (k : LabelKind) (ds : List Nat) :
    t.offer l ⟨.wand w, k, ds⟩ = t.tone w .refusal := by
  simp only [State.offer, h, State.sourceTone]

end Decoder

/-- Settles O27: the decoder's answers, the agreement timer and the end of a tone. -/
theorem decoderJudgesLabels : Obligations.DecoderJudgesLabels := by
  refine ⟨fun w s hd => ?_, fun w k s hk => ?_, fun w s => rfl⟩
  · have hexec : exec .decodeComplete s = .next s.decodeDone := rfl
    refine ⟨fun f hf => ?_, fun ds hds h2 hne => ?_, fun ds hds h2 heq => ?_, fun ds hds h2 => ⟨?_, fun hc => ?_⟩⟩
    · rw [hexec, decodeDone_of_error hd hf]
      rfl
    · rw [hexec, decodeDone_of_ok hd hds, State.readLabel, if_pos (by simpa using h2),
        if_neg (by simpa [returned] using hne), State.mapWand, setWand_decoded, tone_decoded, wand_decoded]
      rfl
    · rw [hexec, decodeDone_of_ok hd hds, State.readLabel, if_pos (by simpa using h2),
        if_pos (by simpa [returned] using heq), State.mapWand, setWand_decoded, acceptLabel_decoded, wand_decoded]
      rfl
    · rw [hexec, decodeDone_of_ok hd hds, State.readLabel, if_neg (by simpa using h2), acceptLabel_decoded]
      rfl
    · rw [hexec, decodeDone_of_ok hd hds, State.readLabel, if_neg (by simpa using h2), acceptLabel_decoded,
        offer_of_closed (by rw [lane_decoded, hc]), tone_decoded]
      rfl
  · exact congrArg Host.Outcome.next (if_pos (by rw [hk]; rfl))

end Sys2Proof.Proofs

/-! Loading a new edition (R83, R105, R126, R129, R134, R136, R142). -/

namespace Sys2Proof.Proofs
open Sys2Proof Sys2Proof.Machine

/-! ## ROLL END (R136) -/

section RollEnd
variable {s : State} {edition roll loans holds : Nat}

/-- ROLL END is turned away with the answer `r`, whatever the port. -/
def RollEndAnswers (s : State) (edition roll loans holds : Nat) (r : Reply) : Prop :=
  ∀ p : Port, rollEndCommand edition roll loans holds { s with port := p } = ({ s with port := p }, r)

theorem rollEnd_of_notLoading (hl : s.memory.load.loading = false) :
    RollEndAnswers s edition roll loans holds (refused 17 5) := fun p => by simp [rollEndCommand, hl]

theorem rollEnd_of_busy (hl : s.memory.load.loading = true) (hb : s.loadingBusy = true) :
    RollEndAnswers s edition roll loans holds (busyReply 5) := fun p => by
  have hb' : State.loadingBusy { s with port := p } = true := hb
  simp [rollEndCommand, hl, hb']

theorem rollEnd_of_zero (hl : s.memory.load.loading = true) (hb : s.loadingBusy = false) (he : edition = 0) :
    RollEndAnswers s edition roll loans holds (refusedAt 20 0 0) := fun p => by
  have hb' : State.loadingBusy { s with port := p } = false := hb
  simp [rollEndCommand, hl, hb', he]

/-- The first list whose count disagrees is named. -/
theorem rollEnd_of_count (hl : s.memory.load.loading = true) (hb : s.loadingBusy = false) (he : edition ≠ 0) :
    (roll ≠ s.memory.load.roll.next →
      RollEndAnswers s edition roll loans holds (refusedAt 21 1 s.memory.load.roll.next)) ∧
    (roll = s.memory.load.roll.next → loans ≠ s.memory.load.loans.next →
      RollEndAnswers s edition roll loans holds (refusedAt 21 2 s.memory.load.loans.next)) ∧
    (roll = s.memory.load.roll.next → loans = s.memory.load.loans.next → holds ≠ s.memory.load.holds.next →
      RollEndAnswers s edition roll loans holds (refusedAt 21 3 s.memory.load.holds.next)) := by
  have hb' : ∀ p : Port, State.loadingBusy { s with port := p } = false := fun _ => hb
  simp only [RollEndAnswers, rollEndCommand, hl, hb', Bool.not_true, Bool.false_eq_true, if_false]
  exact ⟨fun h p => by rw [if_neg he, if_pos h], fun h h' p => by rw [if_neg he, if_neg (not_not.2 h), if_pos h'],
    fun h h' h'' p => by rw [if_neg he, if_neg (not_not.2 h), if_neg (not_not.2 h'), if_pos h'']⟩

/-- The counts that ROLL END names are those loaded. -/
def countsAgree (s : State) (roll loans holds : Nat) : Prop :=
  roll = s.memory.load.roll.next ∧ loans = s.memory.load.loans.next ∧ holds = s.memory.load.holds.next

/-- The first list out of order is named; with none, the edition write is asked for. -/
theorem rollEnd_of_order (hl : s.memory.load.loading = true) (hb : s.loadingBusy = false) (he : edition ≠ 0)
    (hc : countsAgree s roll loans holds) :
    (∀ i, s.memory.load.roll.order = some i → RollEndAnswers s edition roll loans holds (refusedAt 22 1 i)) ∧
    (s.memory.load.roll.order = none → ∀ i, s.memory.load.loans.order = some i →
      RollEndAnswers s edition roll loans holds (refusedAt 22 2 i)) ∧
    (s.memory.load.roll.order = none → s.memory.load.loans.order = none → ∀ i, s.memory.load.holds.order = some i →
      RollEndAnswers s edition roll loans holds (refusedAt 22 3 i)) ∧
    (s.memory.load.roll.order = none → s.memory.load.loans.order = none → s.memory.load.holds.order = none → ∀ p : Port,
      rollEndCommand edition roll loans holds { s with port := p } =
        (State.ask { s with port := p, memory := { s.memory with load := { s.memory.load with loading := false } } }
          (.editionWrite edition roll loans holds), acceptedWith (bytesOf 5 0))) := by
  obtain ⟨rfl, rfl, rfl⟩ := hc
  have hb' : ∀ p : Port, State.loadingBusy { s with port := p } = false := fun _ => hb
  simp only [RollEndAnswers, rollEndCommand, hl, hb', he, Bool.not_true, Bool.false_eq_true, if_false, ne_eq,
    not_true_eq_false]
  refine ⟨fun i h p => ?_, fun h1 i h p => ?_, fun h1 h2 i h p => ?_, fun h1 h2 h3 p => ?_⟩
  · simp only [h]
  · simp only [h1, h]
  · simp only [h1, h2, h]
  · simp only [h1, h2, h3]
    rfl

end RollEnd

/-! ## The edition write (R83, R105, R126, R136) -/

theorem giveUpSlip_slipsOnly (s : State) (i : Nat) : SlipsOnly s (s.giveUpSlip i) :=
  SlipsOnly.trans (t := (s.setSlip i .free).setQueue (s.slips.queue.filter (· != i))) rfl (settlePrinter_slipsOnly _)

theorem foldl_slipsOnly {α : Type} {f : State → α → State} (hf : ∀ s x, SlipsOnly s (f s x)) (xs : List α) (s : State) :
    SlipsOnly s (xs.foldl f s) := by
  induction xs generalizing s with
  | nil => exact .refl s
  | cons x xs ih => exact (hf s x).trans (ih _)

theorem holdLost_slipsOnly (s : State) (hold : Nat × Nat) : SlipsOnly s (s.holdLost hold) :=
  foldl_slipsOnly giveUpSlip_slipsOnly _ s

/-- The state of a new edition, the slip unit apart. -/
def editionEmptied (s : State) : State := { s with
  standing := { s.standing with
    entries := [], uses := 0, parked := [], incomplete := false
    lookup := s.standing.lookup.map fun x => { x with discard := true } }
  overlay := .reset, traps := []
  line := { s.line with stamps := 0, peers := s.line.peers.map fun p => { p with lastStamp := 0 } } }

theorem newEdition_slipsOnly (s : State) : SlipsOnly (editionEmptied s) s.newEdition :=
  foldl_slipsOnly holdLost_slipsOnly _ _

/-- A write of header fields that verifies. -/
theorem headerWrites_verified (s : State) (fields : List (HeaderField × Nat)) :
    s.headerWrites fields .verified = ({ s with
      attached := { s.attached with header := headerWritten s.attached.header fields }
      memory := { s.memory with copies := copiesWritten s.memory.copies fields } }, true) := by
  simp [State.headerWrites, HeaderEnd.good, writeFields_whole fields le_rfl]

theorem editionEnd_verified {s : State} {d : Bool} {edition roll loans holds : Nat}
    (hb : s.memory.busy = some ⟨.editionWrite edition roll loans holds, d⟩) : s.editionEnd .verified =
    ((State.newEdition { s with
      attached := { s.attached with header := headerWritten s.attached.header (s.editionFields edition roll loans holds) }
      memory := { s.memory with
        copies := copiesWritten s.memory.copies (s.editionFields edition roll loans holds) } }).freePort).grant := by
  simp only [State.editionEnd, hb, headerWrites_verified]

/-- Settles O39: ROLL END by its tests, and the write that makes the edition. -/
theorem rollEndBringsTheNewEdition : Obligations.RollEndBringsTheNewEdition := by
  refine ⟨fun edition roll loans holds s hs => ?_, fun edition roll loans holds s hb hw => ⟨_, rfl, ?_⟩⟩
  · have hzero : edition ≠ 0 → edition.toNat ≠ 0 := fun h h' => h (BitVec.eq_of_toNat_eq h')
    have answers : ∀ r, RollEndAnswers s edition.toNat roll.toNat loans.toNat holds.toNat r →
        exec (.rollEnd edition roll loans holds) s = .next { s with port := s.portAfter (r.code :: r.bytes) r.effect } :=
      fun r hf => congrArg Host.Outcome.next (take_changes (t := s) hs hf)
    refine ⟨fun hl => answers _ (rollEnd_of_notLoading hl), fun hl hb => answers _ (rollEnd_of_busy hl hb),
      fun hl hb he => answers _ (rollEnd_of_zero hl hb (by rw [he]; rfl)), ?_, ?_, ?_, ?_, ?_, ?_, ?_⟩ <;>
      rintro ⟨hl, hb, he⟩ <;>
      obtain ⟨hroll, hloans, hholds⟩ := rollEnd_of_count (s := s) (roll := roll.toNat) (loans := loans.toNat)
        (holds := holds.toNat) hl hb (hzero he)
    · exact fun h => answers _ (hroll h)
    · exact fun h h' => answers _ (hloans h h')
    · exact fun h h' h'' => answers _ (hholds h h' h'')
    all_goals
      intro hc
      obtain ⟨hroll, hloans, hholds, hnone⟩ := rollEnd_of_order hl hb (hzero he) hc
    · exact fun i h => answers _ (hroll i h)
    · exact fun h1 i h => answers _ (hloans h1 i h)
    · exact fun h1 h2 i h => answers _ (hholds h1 h2 i h)
    · intro h1 h2 h3 hb hw
      refine congrArg Host.Outcome.next (take_changes hs (t := { s with memory := { s.memory with
        load := { s.memory.load with loading := false }
        busy := some ⟨.editionWrite edition.toNat roll.toNat loans.toNat holds.toNat, false⟩ } }) (r := acceptedWith (bytesOf 5 0))
        fun p => ?_)
      rw [hnone h1 h2 h3, ask_of_free (by exact hb) (by exact hw) (by rintro ⟨⟩)]
      rfl
  · rw [editionEnd_verified hb]
    have hslips := newEdition_slipsOnly { s with
      attached := { s.attached with header := headerWritten s.attached.header (s.editionFields edition roll loans holds) }
      memory := { s.memory with
        copies := copiesWritten s.memory.copies (s.editionFields edition roll loans holds) } }
    rw [SlipsOnly] at hslips
    rw [hslips, grant_of_no_waiting (by exact hw)]
    exact ⟨rfl, rfl, rfl, rfl, rfl, rfl, rfl, rfl, rfl, rfl, rfl⟩

/-! ## ROLL BEGIN (R126, R134) -/

/-- A queue at a line that sends nothing loses the frames for which `p` holds. -/
theorem purged_of_quiet {s : State} (h : s.line.sending = none) (c : TxClass) (p : Notice → Bool) :
    s.purged c p = (s.queueOf c).filter fun x => !p x := by
  simp [State.purged, State.onLine, h]

/-- The line controller as ROLL BEGIN leaves it where nothing is sent. -/
def linePurged (x : LineCtl) : LineCtl := { x with
  u := x.u.filter fun n => !codeEditionChecked (kindCode n.body)
  s := x.s.filter fun n => !codeEditionChecked (kindCode n.body)
  b := x.b.filter fun n => !codeEditionChecked (kindCode n.body)
  peers := x.peers.map fun p => { p with request := none }
  broadcastOwed := false, restateOwed := false, engine := .idle }

theorem purgeLine_of_quiet {s : State} (h : s.line.sending = none) : s.purgeLine = { s with line := linePurged s.line } := by
  simp only [State.purgeLine, purged_of_quiet h, State.setQueueOf, State.markWithdrawn, linePurged, h]
  rfl

/-- With no TRAP notice queued, the purge takes none from U. -/
theorem purgedTraps_of_none {s : State} (h : s.line.sending = none) (hu : ∀ n ∈ s.line.u, kindCode n.body ≠ 2) :
    s.purgedTraps = [] := by
  have hwait : s.waitingPart .u = s.line.u := by simp [State.waitingPart, State.onLine, h, State.queueOf]
  rw [State.purgedTraps, hwait, List.filterMap_eq_nil_iff]
  intro n hn
  have := hu n hn
  split
  · next hbody => exact absurd (by rw [hbody]; rfl) this
  · rfl

/-- A taken ROLL BEGIN at a free port. -/
theorem beginLoad_of_free {s : State} (hb : s.memory.busy = none) (hw : s.memory.waiting = [])
    (hl : s.line.sending = none) (hu : ∀ n ∈ s.line.u, kindCode n.body ≠ 2) : s.beginLoad = { s with
      memory := { s.memory with
        copies := { s.memory.copies with edition := 0 }, busy := some ⟨.rollBeginWrite, false⟩, beginUnwritten := true
        load := ⟨true, ⟨0, none, none⟩, ⟨0, none, none⟩, ⟨0, none, none⟩⟩ }
      line := linePurged s.line } := by
  unfold State.beginLoad
  rw [purgedTraps_of_none hl hu, purgeLine_of_quiet hl]
  dsimp only [List.foldl_nil]
  rw [ask_of_free (by exact hb) (by exact hw) (by rintro ⟨⟩)]
  rfl

section RollBegin
variable {s : State} {d : Bool}

/-- The station lets ROLL BEGIN past its state tests. -/
def loadAdmitted (s : State) : Prop := s.station ≠ .starting ∧ s.station ≠ .replaying ∧ s.memory.faulted = false

theorem rollBegin_of_admitted (h : loadAdmitted s) : rollBeginCommand s =
    if !s.laneFree .a || !s.laneFree .b then (s, busyReply 0)
    else if s.loadingBusy then (s, busyReply 0)
    else if s.memory.copies.head ≠ s.memory.copies.tail ∨ s.memory.requested ≠ 0 then (s, refused 16 0)
    else (s.beginLoad, ok) := by
  obtain ⟨hst, hrep, hf⟩ := h
  rw [rollBeginCommand, if_neg (by simp [hst, hrep]), if_neg (by simp [hf])]

theorem loadingBusy_of_free (hb : s.memory.busy = none) (hw : s.memory.waiting = []) : s.loadingBusy = false := by
  simp [State.loadingBusy, State.asked, hb, hw]

theorem rollBeginEnd_verified (hb : s.memory.busy = some ⟨.rollBeginWrite, d⟩) (hw : s.memory.waiting = []) :
    s.rollBeginEnd .verified = { s with
      attached := { s.attached with header := { s.attached.header with edition := s.attached.header.edition.write 0 true } }
      memory := { s.memory with
        busy := none, copies := { s.memory.copies with edition := 0 }, beginUnwritten := false } } := by
  simp only [State.rollBeginEnd, hb, headerWrites_verified]
  rw [grant_of_no_waiting (by exact hw)]
  rfl

/-- A header write that fails at once is the controller's fault, with the field's cell torn. -/
theorem headerWrites_failed (f : HeaderField) (v : Nat) :
    s.headerWrites [(f, v)] (.failsAt 0) = (s.writeField f v false, false) := rfl

theorem rollBeginEnd_failed (hb : s.memory.busy = some ⟨.rollBeginWrite, d⟩) :
    s.rollBeginEnd (.failsAt 0) = (s.writeField .edition 0 false).memFault := by
  simp only [State.rollBeginEnd, hb, headerWrites_failed]

theorem snapshotEnd_failed (hb : s.memory.busy = some ⟨.takeSnapshot, d⟩) :
    s.snapshotEnd (.failsAt 0) = (s.writeField .snapshot s.memory.copies.head false).memFault := by
  simp only [State.snapshotEnd, hb, headerWrites_failed]

/-- The controller's fault keeps the mark of an unwritten ROLL BEGIN, and drops what waits. -/
theorem memFault_keeps_mark {t : State} (h : t.memory.beginUnwritten = true) :
    t.memFault.station = .fault ∧ t.memFault.memory.faulted = true ∧ t.memFault.memory.waiting = [] ∧
      t.memFault.memory.beginUnwritten = true := by
  obtain ⟨hstation, ⟨hfaulted, hbusy, hwaiting⟩, hmark, -⟩ := memFaulted t
  exact ⟨hstation, hfaulted, hwaiting, hmark.trans h⟩

end RollBegin

/-- Settles O37: the command by its tests, its write, and the two ways its write is lost. -/
theorem rollBeginStartsALoad : Obligations.RollBeginStartsALoad := by
  refine ⟨fun s hs => ?_, fun s hb hw => congrArg Host.Outcome.next (rollBeginEnd_verified hb hw),
    fun d s hmark => ⟨fun hb => ⟨_, rfl, ?_⟩, fun hb hmem => ⟨_, rfl, ?_⟩⟩⟩
  · have answers : ∀ r, (∀ p : Port, rollBeginCommand { s with port := p } = ({ s with port := p }, r)) →
        exec .rollBegin s = .next { s with port := s.portAfter (r.code :: r.bytes) r.effect } :=
      fun r hf => congrArg Host.Outcome.next (take_changes (t := s) hs hf)
    refine ⟨fun h => answers (refused 1 0) fun p => if_pos h, fun hst hrep hf => answers (refused 2 0) fun p => ?_,
      fun hadm hlane => answers (busyReply 0) fun p => ?_, fun hadm ha hb hbusy hj => answers (refused 16 0) fun p => ?_,
      fun hadm ha hb hbusy hw hj hr hl hu => ?_⟩
    · rw [rollBeginCommand, if_neg (by simp [hst, hrep]), if_pos (by exact hf)]
    · rw [rollBegin_of_admitted (by exact hadm), if_pos]
      obtain h | h := hlane
      · rw [show State.laneFree { s with port := p } .a = false from h]
        rfl
      · rw [show State.laneFree { s with port := p } .b = false from h]
        simp
    · have ha' : State.laneFree { s with port := p } .a = true := ha
      have hb' : State.laneFree { s with port := p } .b = true := hb
      have hbusy' : State.loadingBusy { s with port := p } = false := hbusy
      rw [rollBegin_of_admitted (by exact hadm), if_neg (by simp [ha', hb']), if_neg (by simp [hbusy']), if_pos (by exact hj)]
    · refine congrArg Host.Outcome.next (take_changes hs (t := { s with
        memory := { s.memory with
          copies := { s.memory.copies with edition := 0 }, busy := some ⟨.rollBeginWrite, false⟩, beginUnwritten := true
          load := ⟨true, ⟨0, none, none⟩, ⟨0, none, none⟩, ⟨0, none, none⟩⟩ }
        line := linePurged s.line }) (r := ok) fun p => ?_)
      have ha' : State.laneFree { s with port := p } .a = true := ha
      have hb' : State.laneFree { s with port := p } .b = true := hb
      rw [rollBegin_of_admitted (by exact hadm), if_neg (by simp [ha', hb']),
        if_neg (by rw [loadingBusy_of_free (by exact hbusy) (by exact hw)]; decide), if_neg (by simp [hj, hr]),
        beginLoad_of_free (by exact hbusy) (by exact hw) (by exact hl) (by exact hu)]
  · rw [rollBeginEnd_failed hb]
    exact memFault_keeps_mark (t := s.writeField .edition 0 false) hmark
  · rw [snapshotEnd_failed hb]
    exact memFault_keeps_mark (t := s.writeField .snapshot s.memory.copies.head false) hmark

end Sys2Proof.Proofs

/-! Queries of the journal (R139, R140). -/

namespace Sys2Proof.Proofs
open Sys2Proof Sys2Proof.Machine

section Query
variable {s : State}

/-- A query is asked for where no read of it is outstanding. -/
theorem asked_of_free {p : MemOp → Bool} (hb : s.memory.busy = none) (hw : s.memory.waiting = []) : s.asked p = false := by
  simp [State.asked, hb, hw]

/-- Scanning with records left, a query reads the next one. -/
theorem nextQuery_of_left (hb : s.memory.busy = none) (hw : s.memory.waiting = []) (hs : s.memory.query.state = .scanning)
    (hn : s.memory.query.buffer = none) (ht : s.memory.copies.tail ≤ s.memory.query.position)
    (hlt : s.memory.query.position < s.memory.query.finish) :
    s.nextQuery = { s with memory := { s.memory with busy := some ⟨.queryRead, false⟩ } } := by
  unfold State.nextQuery
  dsimp only
  rw [if_pos ⟨hs, hn, asked_of_free hb hw⟩, max_eq_left ht, if_neg (by omega), ask_of_free (by exact hb) (by exact hw)
    (by rintro ⟨⟩)]
  rfl

/-- With a read of a query in progress, none is asked for. -/
theorem nextQuery_of_reading {d : Bool} (hb : s.memory.busy = some ⟨.queryRead, d⟩) : s.nextQuery = s := by
  have hasked : s.asked MemOp.isQuery = true := by simp [State.asked, hb, MemOp.isQuery]
  unfold State.nextQuery
  dsimp only
  rw [if_neg (by simp [hasked])]

theorem nextQuery_of_buffered {bs : List Byte} (h : s.memory.query.buffer = some bs) : s.nextQuery = s := by
  unfold State.nextQuery
  dsimp only
  rw [if_neg (by simp [h])]

/-- A query's read that is discarded lets the query in force go on. -/
theorem queryReadDone_of_discarded (hb : s.memory.busy = some ⟨.queryRead, true⟩) :
    s.queryReadDone = (s.freePort.nextQuery).grant := by
  simp only [State.queryReadDone, hb, if_true]

/-- A query's read of a record that holds. -/
theorem queryReadDone_of_held (hb : s.memory.busy = some ⟨.queryRead, false⟩)
    (ht : s.memory.copies.tail ≤ s.memory.query.position) (hlt : s.memory.query.position < s.memory.query.finish)
    (hg : slotHolds (s.slotBytes s.memory.query.position) s.memory.query.position = true) : s.queryReadDone =
      (State.nextQuery { s with memory := { s.memory with
        busy := none, query := s.memory.query.step' (s.slotBytes s.memory.query.position) } }).grant := by
  simp only [State.queryReadDone, hb, Bool.false_eq_true, if_false, max_eq_left ht, Nat.not_le.2 hlt, hg, if_true]
  rfl

theorem step'_of_match {q : Query} {bs : List Byte} (hm : q.matches bs q.position = true) (h0 : q.found % q.step = 0) :
    q.step' bs = { q with
      position := q.position + 1, found := q.found + 1, buffer := some bs
      state := if q.finish ≤ q.position + 1 then .ended else .scanning } := by
  simp [Query.step', hm, h0]

theorem step'_of_mismatch {q : Query} {bs : List Byte} (hm : q.matches bs q.position = false)
    (hs : q.state = .scanning) (hlt : q.position + 1 < q.finish) :
    q.step' bs = { q with position := q.position + 1 } := by
  simp [Query.step', hm, hs, hlt]

/-- The query that JOURNAL QUERY starts. -/
def startedQuery (s : State) (f : QueryField) (above : Bool) (v step : Nat) : Query :=
  { state := .scanning, field := f, atOrAbove := above, value := v, step := step
    position := s.memory.copies.tail, finish := s.memory.copies.head, found := 0, buffer := none }

/-- JOURNAL QUERY past its tests. -/
theorem journalQuery_accepted {field comparison step : Byte} {f : QueryField} (value : BitVec 40)
    (hf : queryFieldOf field.toNat = some f) (hc : comparison.toNat ≤ 1) (hst : s.station ≠ .starting)
    (hrep : s.station ≠ .replaying) (hfault : s.memory.faulted = false) (hstep : step ≠ 0)
    (hn : comparison = 1 → f = .number) : journalQueryCommand field comparison value step s =
      (State.nextQuery ((s.detachAsked MemOp.isQuery).setQuery (startedQuery s f (comparison == 1)
        (if f = .number then value.toNat % 2 ^ 32 else value.toNat) step.toNat)),
        acceptedWith (bytesOf 4 s.memory.copies.head)) := by
  simp only [journalQueryCommand, hf]
  rw [if_neg (by omega), if_neg (by simp [hst, hrep]), if_neg (by simp [hfault]), if_neg]
  · rfl
  · rintro (h | ⟨h, h'⟩)
    · exact hstep h
    · exact h' (hn h)

/-- A started query asks for its first read, or waits for the read of the query that it replaces. -/
theorem nextQuery_of_started {q : Query} (hw : s.memory.waiting = []) (hq : q.state = .scanning) (hn : q.buffer = none)
    (ht : s.memory.copies.tail ≤ q.position) (hlt : q.position < q.finish) :
    (s.memory.busy = none → State.nextQuery ((s.detachAsked MemOp.isQuery).setQuery q) =
      { s with memory := { s.memory with busy := some ⟨.queryRead, false⟩, query := q } }) ∧
    (∀ d, s.memory.busy = some ⟨.queryRead, d⟩ → State.nextQuery ((s.detachAsked MemOp.isQuery).setQuery q) =
      { s with memory := { s.memory with busy := some ⟨.queryRead, true⟩, query := q } }) := by
  refine ⟨fun hb => ?_, fun d hb => ?_⟩
  · have hdet : s.detachAsked MemOp.isQuery = s := by
      unfold State.detachAsked
      rw [hw, hb, Option.map_none, List.map_nil, ← hw, ← hb]
      rfl
    rw [hdet, nextQuery_of_left (by exact hb) (by exact hw) (by exact hq) (by exact hn) (by exact ht) (by exact hlt)]
    rfl
  · have hdet : s.detachAsked MemOp.isQuery = { s with memory := { s.memory with busy := some ⟨.queryRead, true⟩ } } := by
      unfold State.detachAsked
      rw [hw, hb, Option.map_some, List.map_nil, ← hw]
      rfl
    rw [hdet, nextQuery_of_reading (d := true) rfl]
    rfl

end Query

/-- An accepted JOURNAL QUERY, of the field and comparison named, starts its query. -/
theorem exec_journalQuery {s : State} {field comparison step : Byte} {f : QueryField} {q : Query} (value : BitVec 40)
    (hs : s.serves = true) (hfield : queryFieldOf field.toNat = some f) (hc : comparison.toNat ≤ 1)
    (hn : comparison = 1 → f = .number) (hst : s.station ≠ .starting) (hrep : s.station ≠ .replaying)
    (hf : s.memory.faulted = false) (hstep : step ≠ 0) (hw : s.memory.waiting = [])
    (hlt : s.memory.copies.tail < s.memory.copies.head)
    (hq : startedQuery s f (comparison == 1) (if f = .number then value.toNat % 2 ^ 32 else value.toNat) step.toNat = q) :
    (s.memory.busy = none → exec (.journalQuery field comparison value step) s = .next { s with
      memory := { s.memory with busy := some ⟨.queryRead, false⟩, query := q }
      port := s.portAfter (0#8 :: bytesOf 4 s.memory.copies.head) .none }) ∧
    (∀ d, s.memory.busy = some ⟨.queryRead, d⟩ → exec (.journalQuery field comparison value step) s = .next { s with
      memory := { s.memory with busy := some ⟨.queryRead, true⟩, query := q }
      port := s.portAfter (0#8 :: bytesOf 4 s.memory.copies.head) .none }) := by
  have hcmd : ∀ p : Port, journalQueryCommand field comparison value step { s with port := p } =
      (State.nextQuery ((State.detachAsked { s with port := p } MemOp.isQuery).setQuery q),
        acceptedWith (bytesOf 4 s.memory.copies.head)) := fun p => by
    rw [journalQuery_accepted value hfield hc (by exact hst) (by exact hrep) (by exact hf) hstep hn, ← hq]
    rfl
  have started : ∀ p : Port, _ := fun p => nextQuery_of_started (s := { s with port := p }) (q := q) hw (by rw [← hq]; rfl)
    (by rw [← hq]; rfl) (by rw [← hq]; exact le_rfl) (by rw [← hq]; exact hlt)
  refine ⟨fun hb => congrArg Host.Outcome.next ?_, fun d hb => congrArg Host.Outcome.next ?_⟩
  · refine take_changes hs (t := { s with memory := { s.memory with busy := some ⟨.queryRead, false⟩, query := q } })
      (r := acceptedWith (bytesOf 4 s.memory.copies.head)) fun p => ?_
    obtain ⟨hfree, -⟩ := started p
    rw [hcmd, hfree (by exact hb)]
  · refine take_changes hs (t := { s with memory := { s.memory with busy := some ⟨.queryRead, true⟩, query := q } })
      (r := acceptedWith (bytesOf 4 s.memory.copies.head)) fun p => ?_
    obtain ⟨-, hreading⟩ := started p
    rw [hcmd, hreading d (by exact hb)]

/-- Settles O40: the command, its reads, and QUERY NEXT. -/
theorem journalQueryScansTheJournal : Obligations.JournalQueryScansTheJournal := by
  refine ⟨fun value step s hs hf hst hrep hstep hw hlt => ?_, fun s hb hw => ?_, fun q bs n => rfl,
    fun c value step s hs hc => ?_, fun s hb hw => ?_, fun s hs => ?_⟩
  · exact ⟨exec_journalQuery value hs rfl (by decide) (by decide) hst hrep hf hstep hw hlt rfl,
      exec_journalQuery value hs rfl (by decide) (by decide) hst hrep hf hstep hw hlt rfl,
      exec_journalQuery value hs rfl (by decide) (by decide) hst hrep hf hstep hw hlt rfl,
      exec_journalQuery value hs rfl (by decide) (fun _ => rfl) hst hrep hf hstep hw hlt rfl⟩
  · intro q hq hn ht hlt
    refine congrArg Host.Outcome.next ?_
    rw [queryReadDone_of_discarded hb, nextQuery_of_left (by rfl) (by exact hw) (by exact hq) (by exact hn) (by exact ht)
      (by exact hlt), grant_busy rfl]
    rfl
  · refine congrArg Host.Outcome.next (take_changes (t := s) hs (r := refused 9 4) fun p => ?_)
    exact if_pos hc
  · intro q bs hq hn ht hlt hg
    refine ⟨fun hm h0 => congrArg Host.Outcome.next ?_, fun hm hleft => congrArg Host.Outcome.next ?_⟩
    · rw [queryReadDone_of_held hb ht hlt hg, step'_of_match hm h0, nextQuery_of_buffered rfl, grant_of_no_waiting (by exact hw)]
    · rw [queryReadDone_of_held hb ht hlt hg, step'_of_mismatch hm hq hleft,
        nextQuery_of_left (by rfl) (by exact hw) (by exact hq) (by exact hn) (by exact Nat.le_succ_of_le ht) (by exact hleft),
        grant_busy rfl]
  · have answers : ∀ r, (∀ p : Port, queryNextCommand { s with port := p } = ({ s with port := p }, r)) →
        exec .queryNext s = .next { s with port := s.portAfter (r.code :: r.bytes) r.effect } :=
      fun r hf => congrArg Host.Outcome.next (take_changes (t := s) hs hf)
    refine ⟨fun bs hq hn => answers ⟨accepted, 1 :: bytesAt bs 0 32, .query⟩ fun p => ?_,
      fun hq hn => answers (busyReply 33) fun p => ?_, fun hq hn => answers (acceptedWith (2 :: bytesOf 32 0)) fun p => ?_,
      fun hq => answers (acceptedWith (bytesOf 33 0)) fun p => ?_⟩
    · cases hstate : s.memory.query.state with
      | none => exact absurd hstate hq
      | scanning => simp only [queryNextCommand, hstate, hn]
      | ended => simp only [queryNextCommand, hstate, hn]
    · simp only [queryNextCommand, hq, hn]
    · simp only [queryNextCommand, hq, hn]
    · simp only [queryNextCommand, hq]

end Sys2Proof.Proofs

/-! The upload requests of the memory port (R138, R169 to R171). -/

namespace Sys2Proof.Proofs
open Sys2Proof Sys2Proof.Machine

/-! ## Handing a notice (R108) -/

theorem hand_of_room {s : State} {n : Notice} (h : s.room (kindClass n.body) = true) :
    s.hand n = (s.setQueueOf (kindClass n.body) (s.queueOf (kindClass n.body) ++ [n]), true) := by
  simp only [State.hand, h, if_true]

theorem hand_of_full {s : State} {n : Notice} (h : s.room (kindClass n.body) = false) : s.hand n = (s, false) := by
  simp only [State.hand, h, Bool.false_eq_true, if_false]

/-- An upload frame that its queue takes is kept by no block. -/
theorem handUpload_of_room {s : State} {n : Notice} (h : s.room (kindClass n.body) = true) :
    s.handUpload n = s.setQueueOf (kindClass n.body) (s.queueOf (kindClass n.body) ++ [n]) := by
  simp only [State.handUpload, hand_of_room h]

/-- A frame for another gateway goes onto the line. -/
theorem toGateway_of_other {s : State} {g : Nat} (hg : s.upload.sender.gateway = some g) (hne : g ≠ s.number) (b : Body) :
    s.toGateway b = s.handUpload ⟨0, g, b⟩ := by
  simp only [State.toGateway, hg, hne, if_false]

/-! ## The three completions -/

section Requests
variable {s : State} {g : Nat}

theorem snapshotTaken_of_other (hg : s.upload.sender.gateway = some g) (hne : g ≠ s.number)
    (hroom : s.line.s.length < 32) : s.snapshotTaken = { s with
      upload := { s.upload with sender := { s.upload.sender with
        state := .beginning, first := s.memory.copies.tail
        count := s.memory.copies.snapshot - s.memory.copies.tail, beginTimer := some 10000 } }
      line := { s.line with s := s.line.s ++ [⟨0, g, .uploadBegin s.memory.copies.tail
        (s.memory.copies.snapshot - s.memory.copies.tail)⟩] } } := by
  unfold State.snapshotTaken
  dsimp only
  rw [toGateway_of_other (by exact hg) (by exact hne), handUpload_of_room (by exact decide_eq_true hroom), if_neg]
  · rfl
  · intro h
    exact hne (Option.some.inj (hg.symm.trans h))

theorem blockRead_of_other (hg : s.upload.sender.gateway = some g) (hne : g ≠ s.number)
    (hroom : s.line.b.length < 16) (records : List (List Byte)) : s.blockRead records = { s with
      upload := { s.upload with sender := { s.upload.sender with
        state := .sending, records := records, tries := 1, receiptTimer := some 5000 } }
      line := { s.line with b := s.line.b ++ [⟨0, g, .uploadBlock s.upload.sender.block records⟩] } } := by
  unfold State.blockRead
  dsimp only
  rw [toGateway_of_other (by exact hg) (by exact hne), handUpload_of_room (by exact decide_eq_true hroom)]
  rfl

/-- The next block is read where the controller is whole and its port free. -/
theorem readBlock_of_free {k : Nat} (hf : s.memory.faulted = false) (hb : s.memory.busy = none)
    (hw : s.memory.waiting = []) : s.readBlock k = { s with
      upload := { s.upload with sender := { s.upload.sender with state := .reading, block := k, moving := false } }
      memory := { s.memory with busy := some ⟨.uploadRead (s.upload.sender.first + 3 * (k - 1))
        (min 3 (s.upload.sender.first + s.upload.sender.count - (s.upload.sender.first + 3 * (k - 1)))), false⟩ } } := by
  unfold State.readBlock State.askUpload
  dsimp only
  rw [if_neg (by rw [State.mapSender]; simp [State.setUpload, hf]), ask_of_free (by exact hb) (by exact hw) (by rintro ⟨⟩)]
  rfl

theorem snapshotEnd_verified (hb : s.memory.busy = some ⟨.takeSnapshot, false⟩) : s.snapshotEnd .verified =
    (State.snapshotTaken { s with
      attached := { s.attached with header := { s.attached.header with
        snapshot := s.attached.header.snapshot.write s.memory.copies.head true } }
      memory := { s.memory with
        busy := none, copies := { s.memory.copies with snapshot := s.memory.copies.head } } }).grant := by
  simp only [State.snapshotEnd, hb, headerWrites_verified]
  rfl

theorem uploadReadDone_of_held {first count : Nat} (hb : s.memory.busy = some ⟨.uploadRead first count, false⟩)
    (hlo : s.memory.copies.tail ≤ first) (hhi : first + count ≤ s.memory.copies.head)
    (hheld : ∀ i < count, slotHolds (s.slotBytes (first + i)) (first + i) = true) :
    s.uploadReadDone = (s.freePort.blockRead ((List.range count).map fun i => s.slotBytes (first + i))).grant := by
  have hall : (((List.range count).map (first + ·)).all fun n => slotHolds (s.slotBytes n) n) = true := by
    simpa using hheld
  simp only [State.uploadReadDone, hb]
  rw [if_neg (by omega), if_pos hall, if_neg (by decide), List.map_map]
  rfl

theorem moveMarksEnd_verified {m : Nat} (hb : s.memory.busy = some ⟨.moveMarks m m, false⟩)
    (hlo : s.memory.copies.tail ≤ m) (hhi : m ≤ s.memory.copies.snapshot) : s.moveMarksEnd .verified =
    (State.marksMoved { s with
      attached := { s.attached with header := { s.attached.header with
        send := s.attached.header.send.write m true, tail := s.attached.header.tail.write m true } }
      memory := { s.memory with busy := none, copies := { s.memory.copies with send := m, tail := m } } }).grant := by
  simp only [State.moveMarksEnd, hb, headerWrites_verified]
  rw [if_pos ⟨hlo, le_rfl, hhi⟩]
  rfl

theorem marksMoved_of_sending (hst : s.upload.sender.state = .sending) (hm : s.upload.sender.moving = true)
    (hlt : s.upload.sender.afterBlock < s.upload.sender.first + s.upload.sender.count) :
    s.marksMoved = s.readBlock (s.upload.sender.block + 1) := by
  unfold State.marksMoved
  dsimp only
  rw [if_neg (by simp [hst]), if_pos ⟨hst, hm⟩, if_pos hlt]

end Requests

/-- Settles O41: the completion of each of the three requests. -/
theorem uploadRequestsDriveTheSender : Obligations.UploadRequestsDriveTheSender := by
  intro g s hg hne hw
  refine ⟨fun hb hroom => congrArg Host.Outcome.next ?_, fun first count hb hlo hhi hheld hroom =>
    congrArg Host.Outcome.next ?_, fun m hb hlo hhi hf hst hm hafter hleft hblock => congrArg Host.Outcome.next ?_⟩
  · rw [snapshotEnd_verified hb, snapshotTaken_of_other (by exact hg) (by exact hne) (by exact hroom),
      grant_of_no_waiting (by exact hw)]
  · rw [uploadReadDone_of_held hb hlo hhi hheld, blockRead_of_other (by exact hg) (by exact hne) (by exact hroom),
      grant_of_no_waiting (by exact hw)]
    rfl
  · have hfirst : s.upload.sender.first + 3 * (s.upload.sender.block + 1 - 1) = m := by omega
    rw [moveMarksEnd_verified hb hlo hhi, marksMoved_of_sending (by exact hst) (by exact hm) (by show _ < _; dsimp only; omega),
      readBlock_of_free (by exact hf) rfl (by exact hw), grant_busy rfl]
    dsimp only
    rw [hfirst, Nat.min_eq_left (by omega)]

end Sys2Proof.Proofs

/-! Access to the desk line, a lost line, and listen-only (R106, R107, R111 to R115, R119). -/

namespace Sys2Proof.Proofs
open Sys2Proof Sys2Proof.Machine

/-- Every cause but PEER is latched whether or not it is enabled. -/
theorem latch_of_ne {k : Nat} (hk : k ≠ causePeer) (s : State) :
    s.latch k = { s with port := { s.port with pending := s.port.pending ||| causeBit k } } := if_neg fun h => hk h.1

theorem begun_of_station {s : State} (h : s.station ≠ .starting) : s.begun = true := by simpa [State.begun] using h

section Access
variable {s : State} {k : Nat} {n : Notice} {rest : List Notice}

/-- The station may begin a transmission at the next deferral (R111, R115). -/
def Sends (s : State) : Prop := s.line.listenOnly = false ∧ s.line.awaitIdle = false

/-- The contending class starts at its deferral, and waits before it. -/
theorem startSending_of_contending {c : TxClass} (hst : s.station ≠ .starting) (hidle : s.line.state = .idle)
    (hsend : s.line.sending = none) (h : Sends s) (hc : s.contending = some c) (hq : s.queueOf c = n :: rest) :
    (s.deferral c ≤ k → s.startSending k = { s with line := { s.line with
      state := .carrier, sending := some ⟨c, s.number, s.edition, s.fill n, false⟩ } }) ∧
    (k < s.deferral c → s.startSending k = s) := by
  obtain ⟨hlisten, hawait⟩ := h
  have hguard : (s.begun && s.line.state == .idle && !s.line.listenOnly && !s.line.awaitIdle && s.line.sending.isNone) = true := by
    simp [begun_of_station hst, hidle, hlisten, hawait, hsend]
  have heq : s.startSending k = if s.deferral c ≤ k then
      { s with line := { s.line with state := .carrier, sending := some ⟨c, s.number, s.edition, s.fill n, false⟩ } }
    else s := by
    simp only [State.startSending, hguard, if_true, hc, hq]
    rfl
  exact ⟨fun hk => heq.trans (if_pos hk), fun hk => heq.trans (if_neg (by omega))⟩

theorem startSending_of_silent (h : s.line.listenOnly = true ∨ s.line.awaitIdle = true ∨
    (s.line.u = [] ∧ s.line.s = [] ∧ s.line.b = [])) : s.startSending k = s := by
  unfold State.startSending
  obtain h | h | ⟨hu, hs, hb⟩ := h
  · simp [h]
  · simp [h]
  · simp [State.contending, hu, hs, hb]

/-- A notice of another kind than PRESENCE goes on the line as it stands. -/
theorem fill_of_ne (h : kindCode n.body ≠ 0x14) : s.fill n = n := by
  unfold State.fill
  split
  · next hb => exact absurd (by rw [hb]; rfl) h
  · rfl

theorem fill_of_presence {p : PresencePart} (h : n.body = .presence p) :
    s.fill n = { n with body := .presence s.presenceBody } := by simp only [State.fill, h]

end Access

/-- Settles O42: carrier, idle, and each contending class. -/
theorem lineIsFollowedAndTaken : Obligations.LineIsFollowedAndTaken := by
  refine ⟨fun s hst hsend => ⟨fun hbusy => congrArg Host.Outcome.next ?_, fun hrec => congrArg Host.Outcome.next ?_⟩,
    fun k n rest s hst hidle hsend => ?_⟩
  · exact if_pos (by simp [begun_of_station hst, hsend, hbusy])
  · exact if_pos (by simp [begun_of_station hst, hsend, hrec])
  · have start := fun {c : TxClass} (h : Sends s) (hc : s.contending = some c) (hq : s.queueOf c = n :: rest) =>
      startSending_of_contending (k := k) hst hidle hsend h hc hq
    refine ⟨fun h hu hn => ?_, fun h hu hs hn => ?_, fun h hu hs hb hn => ?_, fun h hu hs hk p hp => ?_,
      fun h => congrArg Host.Outcome.next (startSending_of_silent h)⟩
    · obtain ⟨hstart, hwait⟩ := start (c := .u) h (by simp [State.contending, hu]) hu
      rw [fill_of_ne hn] at hstart
      exact ⟨fun hk => congrArg Host.Outcome.next (hstart hk), fun hk => congrArg Host.Outcome.next (hwait hk)⟩
    · obtain ⟨hstart, hwait⟩ := start (c := .s) h (by simp [State.contending, hu, hs]) hs
      rw [fill_of_ne hn] at hstart
      exact ⟨fun hk => congrArg Host.Outcome.next (hstart hk), fun hk => congrArg Host.Outcome.next (hwait hk)⟩
    · obtain ⟨hstart, hwait⟩ := start (c := .b) h (by simp [State.contending, hu, hs, hb]) hb
      rw [fill_of_ne hn] at hstart
      exact ⟨fun hk => congrArg Host.Outcome.next (hstart hk), fun hk => congrArg Host.Outcome.next (hwait hk)⟩
    · obtain ⟨hstart, -⟩ := start (c := .s) h (by simp [State.contending, hu, hs]) hs
      rw [fill_of_presence hp] at hstart
      refine congrArg Host.Outcome.next (hstart ?_)
      rw [State.deferral]
      split <;> omega

/-! ## Listen-only (R107, R113 to R115) -/

section Listen
variable {s : State}

theorem lineLost_of_kept {x : Sending} (hx : s.line.sending = some x) (hw : x.withdrawn = false) :
    (s.line.collisions < 7 → s.lineLost = { s with line := { s.line with
      sending := none, receiving := true, collisions := s.line.collisions + 1 } }) ∧
    (s.line.collisions = 7 → s.lineLost = State.enterListenOnly { s with line := { s.line with
      sending := none, receiving := true, collisions := s.line.collisions + 1 } }) := by
  simp only [State.lineLost, hx, hw, Bool.false_eq_true, if_false]
  refine ⟨fun h => ?_, fun h => ?_⟩
  · have hmin : min (s.line.collisions + 1) Config.collisionLimit = s.line.collisions + 1 := Nat.min_eq_left (by
      rw [Config.collisionLimit]; omega)
    rw [hmin, if_neg (by rw [Config.collisionLimit]; omega)]
    rfl
  · rw [h]
    rfl

/-- A station that enters listen-only latches STATION FAULT. -/
theorem enterListenOnly_eq (s : State) : s.enterListenOnly = { s with
    line := { s.line with listenOnly := true }, port := { s.port with pending := s.port.pending ||| 1#11 } } :=
  latch_of_ne (by decide) _

/-- A frame in reception ends, good or bad. -/
theorem frameEnded_of_receiving (hst : s.station ≠ .starting) (hr : s.line.receiving = true) (f : RxFrame) :
    s.frameEnded f =
      if RxFrame.good f then State.goodFrame { s with line := { s.line with receiving := false, state := .gap } } f
      else { s with line := { s.line with
        receiving := false, state := .gap, badFrames := saturatingSucc s.line.badFrames } } := by
  unfold State.frameEnded
  rw [if_pos (by simp [begun_of_station hst, hr])]
  rfl

end Listen

/-- Settles O44: a lost line, the two frames that are counted, and RESUME LINE. -/
theorem listenOnlyIsEnteredAndLeft : Obligations.ListenOnlyIsEnteredAndLeft := by
  refine ⟨fun x s hx hw _ => ?_, fun f s hst hr => ⟨fun hbad => congrArg Host.Outcome.next ?_, fun hgood hown =>
    congrArg Host.Outcome.next ?_⟩, fun s hs => congrArg Host.Outcome.next ?_⟩
  · obtain ⟨hfew, hlast⟩ := lineLost_of_kept hx hw
    refine ⟨fun h => congrArg Host.Outcome.next (hfew h), fun h => congrArg Host.Outcome.next ?_⟩
    rw [hlast h, enterListenOnly_eq]
  · rw [frameEnded_of_receiving hst hr, hbad]
    rfl
  · rw [frameEnded_of_receiving hst hr, if_pos hgood, State.goodFrame]
    dsimp only
    rw [if_pos (by exact hown), enterListenOnly_eq]
    rfl
  · exact take_changes hs (t := { s with line := { s.line with
      collisions := 0, listenOnly := false, awaitIdle := s.line.awaitIdle || s.line.listenOnly } }) (r := ok) fun p => rfl

end Sys2Proof.Proofs

/-! The printer's queue, its sensors, and the pads (R150, R152 to R158). -/

namespace Sys2Proof.Proofs
open Sys2Proof Sys2Proof.Machine

/-! ## The print queue (R150, R152, R153) -/

section Queue
variable {s : State}

/-- The unload timer as the printer settles in IDLE_WARM with nothing queued. -/
def unloadRuns (s : State) : Timer :=
  if s.laneA.session.isSome || s.laneB.session.isSome then none else some (s.settings.inForce.unloadSeconds * 1000)

/-- With nothing queued the printer waits in IDLE_WARM, the unload timer running where no session is open. -/
theorem startPrint_of_empty {fuel : Nat} (hq : s.slips.queue = []) (hu : s.slips.unloadTimer = none) :
    (s.startPrint (fuel + 1)).settleUnload =
      { s with slips := { s.slips with printer := .idleWarm, unloadTimer := unloadRuns s } } := by
  have hstart : s.startPrint (fuel + 1) = s.setPrinter .idleWarm := by simp only [State.startPrint, hq]
  have hdemand : (s.setPrinter .idleWarm).warmDemand = (s.laneA.session.isSome || s.laneB.session.isSome) := rfl
  rw [hstart, State.settleUnload, hdemand, unloadRuns]
  cases hd : s.laneA.session.isSome || s.laneB.session.isSome with
  | true =>
    rw [if_neg (by simp)]
    rfl
  | false =>
    have htimer : (s.setPrinter .idleWarm).slips.unloadTimer = none := hu
    rw [if_pos ⟨rfl, hq, rfl⟩, htimer]
    rfl

/-- The slip at the head of the queue is printed. -/
theorem startPrint_of_slip {fuel i : Nat} {rest : List Nat} (hq : s.slips.queue = i :: rest) (hh : (s.slip i).hold = none) :
    (s.startPrint (fuel + 1)).settleUnload = { s with slips := { s.slips with
      slips := s.slips.slips.set i { s.slip i with state := .printing }, printer := .printing, unloadTimer := none } } := by
  have hstart : s.startPrint (fuel + 1) = (s.setSlip i { s.slip i with state := .printing }).setPrinter .printing := by
    simp only [State.startPrint, hq, hh]
  rw [hstart, State.settleUnload, if_neg (by rintro ⟨⟨⟩, _⟩)]
  rfl

/-- A HOLD slip whose record is no longer CONFIRMED by this station is given up. -/
theorem startPrint_of_lost {fuel i : Nat} {rest : List Nat} {h : Nat × Nat} (hq : s.slips.queue = i :: rest)
    (hh : (s.slip i).hold = some h) (hc : s.ownConfirmed h = false) :
    s.startPrint (fuel + 1) = ((s.setSlip i .free).setQueue rest).startPrint fuel := by
  simp only [State.startPrint, hq, hh, hc]
  rfl

theorem warmed_of_timer {k : Nat} (hp : s.slips.printer = .warming) (hk : s.slips.warmTimer = some k) :
    s.warmed = ((s.setWarmTimer none).startPrint 9).settleUnload := if_pos ⟨hp, by rw [hk]; rfl⟩

theorem printed_of_printing {i : Nat} {rest : List Nat} (hp : s.slips.printer = .printing) (hq : s.slips.queue = i :: rest) :
    s.printed = (((s.setSlip i .free).setQueue rest).startPrint 9).settleUnload := by
  simp only [State.printed, hp, hq]
  rfl

end Queue

/-- Settles O53: the warm timer, a slip printed, and the unload timer. -/
theorem printerTakesTheQueue : Obligations.PrinterTakesTheQueue := by
  intro k s _
  refine ⟨fun hp hk hu => ⟨fun hq => congrArg Host.Outcome.next ?_, fun i rest hq hh => congrArg Host.Outcome.next ?_,
    fun i h hq hh hc => congrArg Host.Outcome.next ?_⟩, fun hp hw hu => ⟨fun i hq => congrArg Host.Outcome.next ?_,
    fun i j rest hq hne hh => congrArg Host.Outcome.next ?_⟩, fun hu => congrArg Host.Outcome.next ?_⟩
  · rw [warmed_of_timer hp hk, startPrint_of_empty (by exact hq) (by exact hu)]
    simp only [← hq]
    rfl
  · rw [warmed_of_timer hp hk, startPrint_of_slip (by exact hq) (by exact hh)]
    simp only [← hq]
    rfl
  · rw [warmed_of_timer hp hk, startPrint_of_lost (by exact hq) (by exact hh) (by exact hc),
      startPrint_of_empty (by rfl) (by exact hu)]
    rfl
  · rw [printed_of_printing hp hq, startPrint_of_empty (by rfl) (by exact hu)]
    simp only [State.setSlip, State.setQueue, unloadRuns, hw]
  · have hslip : ((s.setSlip i .free).setQueue (j :: rest)).slip j = s.slip j := slip_setSlip_ne s hne .free
    rw [printed_of_printing hp hq, startPrint_of_slip (by rfl) (by rw [hslip, hh]), hslip]
    simp only [State.setSlip, State.setQueue, hw]
  · exact if_pos (by rw [hu]; rfl)

/-! ## The sensors, the form align and the pads (R154 to R158) -/

section Sensors
variable {s : State}

theorem sensed_of_starting {x : PrinterLevel} (h : s.station = .starting) : s.sensed x = s := if_neg (by simp [State.begun, h])

/-- The first levels of both sensors are accepted and good. -/
theorem sensed_of_first (x : PrinterLevel) (hs : s.station ≠ .starting) (hf : (s.slips.paper.isNone || s.slips.lid.isNone) = true)
    (hp : (s.slips.levels x).paper = some .present) (hl : (s.slips.levels x).lid = some .closed) :
    s.sensed x = ((s.mapSlips fun u => u.levels x).stopPrinter).align := by
  simp only [State.sensed, begun_of_station hs, State.mapSlips, hp, hl, hf, if_true]

/-- Paper out or the lid open halts the printer. -/
theorem sensed_of_bad (x : PrinterLevel) {p : Paper} {l : Lid} (hs : s.station ≠ .starting) (hh : s.slips.printer ≠ .halted)
    (hp : (s.slips.levels x).paper = some p) (hl : (s.slips.levels x).lid = some l) (hbad : p = .out ∨ l = .opened) :
    s.sensed x = (s.mapSlips fun u => u.levels x).halt := by
  have hprinter : (s.slips.levels x).printer ≠ .halted := by cases x <;> exact hh
  simp only [State.sensed, begun_of_station hs, State.mapSlips, hp, hl, if_true]
  rcases hbad with rfl | rfl
  · exact if_neg hprinter
  · cases p <;> exact if_neg hprinter

/-- Good again, the halted printer aligns. -/
theorem sensed_of_halted (x : PrinterLevel) (hs : s.station ≠ .starting) (hh : s.slips.printer = .halted)
    (hf : (s.slips.paper.isNone || s.slips.lid.isNone) = false)
    (hp : (s.slips.levels x).paper = some .present) (hl : (s.slips.levels x).lid = some .closed) :
    s.sensed x = (s.mapSlips fun u => u.levels x).align := by
  have hprinter : (s.slips.levels x).printer = .halted := by cases x <;> exact hh
  simp only [State.sensed, begun_of_station hs, State.mapSlips, hp, hl, hf, hprinter, if_true, Bool.false_eq_true,
    if_false]

theorem stopPrinter_of_off (h : s.slips.printer = .off) :
    s.stopPrinter = { s with slips := { s.slips with warmTimer := none, unloadTimer := none } } := by
  have hprinter : ((s.setWarmTimer none).setUnloadTimer none).slips.printer = .off := h
  simp only [State.stopPrinter, hprinter]
  rfl

/-- A slip in printing is READY again with its interrupted flag. -/
theorem stopPrinter_of_printing {i : Nat} {rest : List Nat} (h : s.slips.printer = .printing)
    (hq : s.slips.queue = i :: rest) :
    s.stopPrinter = { s with slips := { s.slips with
      slips := s.slips.slips.set i { s.slip i with state := .ready, interrupted := true }
      warmTimer := none, unloadTimer := none } } := by
  have hprinter : ((s.setWarmTimer none).setUnloadTimer none).slips.printer = .printing := h
  have hqueue : ((s.setWarmTimer none).setUnloadTimer none).slips.queue = i :: rest := hq
  simp only [State.stopPrinter, hprinter, hqueue]
  rfl

theorem halt_of_printing {i : Nat} {rest : List Nat} (h : s.slips.printer = .printing) (hq : s.slips.queue = i :: rest) :
    s.halt = { s with
      slips := { s.slips with
        slips := s.slips.slips.set i { s.slip i with state := .ready, interrupted := true }
        printer := .halted, warmTimer := none, unloadTimer := none }
      port := { s.port with pending := s.port.pending ||| causeBit causePrinter } } := by
  rw [State.halt, latch_of_ne (by decide), stopPrinter_of_printing h hq]
  rfl

theorem settlePrinter_of_off (h : s.slips.printer = .off) : s.settlePrinter =
    if !s.slips.sensed || (decide (s.slips.queue = []) && !s.warmDemand) then s
    else (s.setPrinter .warming).setWarmTimer (some 80) := by
  simp only [State.settlePrinter, h]
  rfl

/-- The motor has made one step more. -/
def stepped (s : State) : State := s.mapSlips fun u => { u with alignSteps := u.alignSteps + 1 }

theorem alignOne_of_mark (h : s.slips.printer = .aligning) :
    s.alignOne true = ((stepped s).setPrinter .off).settlePrinter := if_pos h

theorem alignOne_of_step (h : s.slips.printer = .aligning) : s.alignOne false =
    if 600 ≤ s.slips.alignSteps + 1 then ((stepped s).setPrinter .fault).latch causePrinter else stepped s := if_pos h

theorem pulseEnded_of_last {p : PadId} {f : Pulse} (h : (s.pad p).pulsing = some f) (hw : (s.pad p).waiting = []) :
    s.pulseEnded p = s.setPad p { s.pad p with pulsing := none } := by
  simp only [State.pulseEnded, h, hw]

theorem pulseEnded_of_waiting {p : PadId} {f g : Pulse} {rest : List Pulse} (h : (s.pad p).pulsing = some f)
    (hw : (s.pad p).waiting = g :: rest) :
    s.pulseEnded p = s.setPad p { s.pad p with pulsing := some g, waiting := rest } := by
  simp only [State.pulseEnded, h, hw]

end Sensors

/-- Settles O54: the levels accepted, the form align, and the pads. -/
theorem sensorsAndPadsAct : Obligations.SensorsAndPadsAct := by
  refine ⟨fun s => ⟨fun x hs => congrArg Host.Outcome.next (sensed_of_starting hs), fun hs hp hl hoff => ?_,
    fun hs hp hl hprint i rest hq => ?_, fun hs hp hl hh => ?_, fun ha => ⟨fun hq hA hB => ?_, fun hq hp hl => ?_,
      fun hk => ?_, fun hk => ?_⟩⟩, fun s => ⟨fun p b hs => congrArg Host.Outcome.next (if_pos (begun_of_station hs)),
    fun p b hs => congrArg Host.Outcome.next (if_neg (by simp [State.begun, hs])), fun p f hf =>
      ⟨fun hw => congrArg Host.Outcome.next (pulseEnded_of_last hf hw),
        fun g rest hw => congrArg Host.Outcome.next (pulseEnded_of_waiting hf hw)⟩⟩⟩
  · refine congrArg Host.Outcome.next ((sensed_of_first (.paper .present) hs (by rw [hp]; rfl) rfl hl).trans ?_)
    rw [stopPrinter_of_off (by exact hoff)]
    rfl
  · obtain ⟨p, hp⟩ := Option.isSome_iff_exists.mp hp
    obtain ⟨l, hl⟩ := Option.isSome_iff_exists.mp hl
    have hrun : s.slips.printer ≠ .halted := by rw [hprint]; decide
    refine ⟨congrArg Host.Outcome.next ((sensed_of_bad (.paper .out) hs hrun rfl hl (.inl rfl)).trans ?_),
      congrArg Host.Outcome.next ((sensed_of_bad (.lid .opened) hs hrun hp rfl (.inr rfl)).trans ?_)⟩
    · rw [halt_of_printing (by exact hprint) (by exact hq)]
      rfl
    · rw [halt_of_printing (by exact hprint) (by exact hq)]
      rfl
  · exact congrArg Host.Outcome.next (sensed_of_halted (.paper .present) hs hh (by rw [hp, hl]; rfl) rfl hl)
  · refine congrArg Host.Outcome.next ((alignOne_of_mark ha).trans ?_)
    rw [settlePrinter_of_off rfl]
    refine (if_pos (Bool.or_eq_true_iff.mpr (.inr ?_))).trans rfl
    simp [stepped, State.mapSlips, State.setPrinter, State.warmDemand, hq, hA, hB]
  · refine congrArg Host.Outcome.next ((alignOne_of_mark ha).trans ?_)
    rw [settlePrinter_of_off rfl]
    refine (if_neg ?_).trans rfl
    simp [stepped, State.mapSlips, State.setPrinter, SlipUnit.sensed, hq, hp, hl]
  · exact congrArg Host.Outcome.next ((alignOne_of_step ha).trans (if_neg (Nat.not_le.mpr hk)))
  · refine congrArg Host.Outcome.next ((alignOne_of_step ha).trans ((if_pos hk).trans ?_))
    exact latch_of_ne (by decide) _

end Sys2Proof.Proofs

/-! The queues of a quiet line, and what a good frame of a PRESENT peer does before its block takes it (R107, R109, R112,
R116 to R118, R122). -/

namespace Sys2Proof.Proofs
open Sys2Proof Sys2Proof.Machine

/-! ## Withdrawal (R109) -/

section Queues
variable {s : State} {p : Notice → Bool}

theorem purged_of_idle (h : s.line.sending = none) (c : TxClass) : s.purged c p = (s.queueOf c).filter fun x => !p x := by
  simp only [State.purged, State.onLine, h, Bool.false_eq_true, if_false]

theorem markWithdrawn_of_idle (h : s.line.sending = none) : s.markWithdrawn p = s := by
  simp only [State.markWithdrawn, h]

/-- No block waits for room in S or B (R122, R124, R125). -/
structure Settled (s : State) : Prop where
  restateOwed : s.line.restateOwed = false
  broadcastOwed : s.line.broadcastOwed = false
  engine : s.line.engine = .idle
  requests : ∀ q ∈ s.line.peers, q.request = none

theorem Settled.peer_request (h : Settled s) (n : Nat) : (s.peer n).request = none := by
  unfold State.peer
  cases hq : s.line.peers[n]? with
  | none => rfl
  | some q => exact h.requests q (List.mem_of_getElem? hq)

theorem Settled.left (h : Settled s) (c : TxClass) : s.left c = s := by
  have howed : s.testOwed = s := by
    simp only [State.testOwed, h.engine, h.restateOwed, Bool.false_and, Bool.false_eq_true, if_false]
  have hpush : ∀ n, s.pushRequest n = s := fun n => by simp only [State.pushRequest, h.peer_request n]
  cases c with
  | u => rfl
  | s =>
    simp only [State.left, State.leftS, howed, h.broadcastOwed, Bool.false_eq_true, if_false]
    induction s.peerNumbers with
    | nil => rfl
    | cons n ns ih => rw [List.foldl_cons, hpush, ih]
  | b => simp only [State.left, State.leftB, h.engine]

theorem withdraw_of_settled (h : s.line.sending = none) (hl : Settled s) (c : TxClass) :
    s.withdraw c p = s.setQueueOf c ((s.queueOf c).filter fun x => !p x) := by
  have hsettled : Settled (s.setQueueOf c ((s.queueOf c).filter fun x => !p x)) := by
    cases c <;> exact ⟨hl.restateOwed, hl.broadcastOwed, hl.engine, hl.requests⟩
  have hidle : (s.setQueueOf c ((s.queueOf c).filter fun x => !p x)).line.sending = none := by cases c <;> exact h
  rw [State.withdraw, purged_of_idle h, markWithdrawn_of_idle hidle]
  rw [hsettled.left, ite_self]

theorem withdraw_u (h : s.line.sending = none) :
    s.withdraw .u p = { s with line := { s.line with u := s.line.u.filter fun x => !p x } } := by
  rw [State.withdraw, purged_of_idle h, markWithdrawn_of_idle (by exact h)]
  exact ite_self _

theorem setQueueOf_self (c : TxClass) : s.setQueueOf c (s.queueOf c) = s := by cases c <;> rfl

/-- What is not queued is withdrawn without a change. -/
theorem withdraw_of_none (h : s.line.sending = none) {c : TxClass} (hp : ∀ n ∈ s.queueOf c, p n = false) :
    s.withdraw c p = s := by
  have hall : ((s.queueOf c).filter fun x => !p x) = s.queueOf c := List.filter_eq_self.mpr fun n hn => by rw [hp n hn]; rfl
  rw [State.withdraw, purged_of_idle h, hall, setQueueOf_self, markWithdrawn_of_idle h]
  rw [if_neg (by simp)]

end Queues

/-! ## Handed on, judged, or dropped -/

/-- A good frame of a PRESENT peer, in the edition the peer had, ends on the line. -/
structure HeardFrom (f : RxFrame) (sender : Nat) (p : Peer) (s : State) : Prop where
  begun : s.station ≠ .starting
  receiving : s.line.receiving = true
  good : RxFrame.good f = true
  origin : natAt f.bytes 2 1 = sender
  other : sender ≠ s.number
  peer : s.line.peers[sender]? = some p
  present : p.present = true
  edition : natAt f.bytes 5 1 = p.edition

/-- The line after a frame of the sender, whose record becomes `q`. -/
def heardLine (s : State) (sender : Nat) (q : Peer) : LineCtl := { s.line with
  receiving := false, state := .gap, courtesyS := false, courtesyB := false, peers := s.line.peers.set sender q }

/-- The station after a frame of a PRESENT peer whose absence timer restarts (R116). -/
def heardState (s : State) (sender : Nat) (p : Peer) : State :=
  { s with line := heardLine s sender { p with absenceTimer := some 35000 } }

theorem heard_of_present {p : Peer} {edition : Nat} (hp : p.present = true) (he : edition = p.edition) :
    p.heard edition = { p with absenceTimer := some 35000 } := by
  obtain ⟨_⟩ := p
  cases hp
  cases he
  simp [Peer.heard, Config.absenceMs]

theorem peer_of_get {s : State} {n : Nat} {p : Peer} (h : s.line.peers[n]? = some p) : s.peer n = p := by
  rw [State.peer, h, Option.getD_some]

/-- What a good frame of a peer does once its record has taken it. -/
theorem peerFrame_of_heard {t u : State} {sender edition : Nat} (hu : t.peerHeard sender edition = u)
    (stamp target : Nat) (b : Body) :
    t.peerFrame sender stamp edition target b =
      if !u.targeted b target then u
      else if codeEditionChecked (kindCode b) && !u.editionAgrees edition then
        u.setPeer sender ((u.peer sender).dropped u.edition stamp b)
      else if codeStamped (kindCode b) then u.judgeStamp sender stamp b
      else u.handOn sender edition target b := by
  subst hu
  rfl

/-- A request for the stamps not heard is handed, and none stays pending (R122). -/
theorem requestRestate_of_room {s : State} {n f : Nat} {p : Peer} (hp : s.line.peers[n]? = some p) (hr : p.request = none)
    (hs : s.line.sending = none) (hq : ∀ m ∈ s.line.s, ∀ g, m.body ≠ .restateRequest g) (hroom : s.line.s.length < 32) :
    s.requestRestate n f = { s with line := { s.line with s := s.line.s ++ [⟨0, n, .restateRequest f⟩] } } := by
  obtain ⟨hlt, hget⟩ := List.getElem?_eq_some_iff.mp hp
  let t := s.setPeer n { p with request := some f }
  have hpeer : t.peer n = { p with request := some f } := peer_of_get (List.getElem?_set_self hlt)
  have hwaiting : t.waitingPart .s = s.line.s := by simp only [State.waitingPart, State.onLine, t, State.setPeer, hs]; rfl
  have hnone : s.line.s.any (isRequestTo n) = false := by
    rw [List.any_eq_false]
    intro m hm
    have hbody := hq m hm
    unfold isRequestTo
    split
    · next g hg => exact absurd hg (hbody g)
    · exact Bool.false_ne_true
  have hstart : s.requestRestate n f = t.pushRequest n := by
    simp only [State.requestRestate, peer_of_get hp, hr]
    rfl
  have hback : (s.line.peers.set n { p with request := some f }).set n { p with request := none } = s.line.peers := by
    rw [List.set_set, ← hr, ← hget]
    exact List.set_getElem_self hlt
  have hhand : t.hand ⟨0, n, .restateRequest f⟩ =
      ({ t with line := { t.line with s := t.line.s ++ [⟨0, n, .restateRequest f⟩] } }, true) :=
    hand_of_room (decide_eq_true hroom)
  rw [hstart, State.pushRequest, hpeer]
  dsimp only
  rw [hwaiting, if_neg (by rw [hnone]; decide), hhand]
  simp only [State.setPeer, t, hback]

section Frames
variable {f : RxFrame} {sender : Nat} {p : Peer} {s : State}

theorem HeardFrom.get_heardLine (h : HeardFrom f sender p s) (q : Peer) :
    (heardLine s sender q).peers[sender]? = some q := by
  obtain ⟨hlt, -⟩ := List.getElem?_eq_some_iff.mp h.peer
  exact List.getElem?_set_self hlt

theorem HeardFrom.peer_heardLine (h : HeardFrom f sender p s) (q : Peer) :
    State.peer { s with line := heardLine s sender q } sender = q := peer_of_get (h.get_heardLine q)

theorem HeardFrom.peer_heardState (h : HeardFrom f sender p s) :
    (heardState s sender p).peer sender = { p with absenceTimer := some 35000 } := h.peer_heardLine _

theorem setPeer_heardState (q : Peer) :
    (heardState s sender p).setPeer sender q = { s with line := heardLine s sender q } := by
  simp only [State.setPeer, heardState, heardLine, List.set_set]

/-- A frame heard asks for nothing. -/
theorem HeardFrom.settled (h : HeardFrom f sender p s) (hl : Settled s) : Settled (heardState s sender p) := by
  refine ⟨hl.restateOwed, hl.broadcastOwed, hl.engine, fun q hq => ?_⟩
  obtain hq | rfl := List.mem_or_eq_of_mem_set hq
  · exact hl.requests q hq
  · exact hl.requests p (List.mem_of_getElem? h.peer)

/-- The frame reaches the tests of its target, its edition and its stamp. -/
theorem HeardFrom.frameEnded_eq (h : HeardFrom f sender p s) :
    s.frameEnded f =
      if !s.targeted f.body (natAt f.bytes 6 1) then heardState s sender p
      else if codeEditionChecked (kindCode f.body) && !s.editionAgrees p.edition then
        (heardState s sender p).setPeer sender
          (Peer.dropped { p with absenceTimer := some 35000 } s.edition (natAt f.bytes 3 2) f.body)
      else if codeStamped (kindCode f.body) then (heardState s sender p).judgeStamp sender (natAt f.bytes 3 2) f.body
      else (heardState s sender p).handOn sender p.edition (natAt f.bytes 6 1) f.body := by
  have hpeerHeard : State.peerHeard { s with line := { s.line with
      receiving := false, state := .gap, courtesyS := false, courtesyB := false } } sender p.edition =
      heardState s sender p := by
    unfold State.peerHeard
    dsimp only
    rw [show State.peer { s with line := { s.line with
      receiving := false, state := .gap, courtesyS := false, courtesyB := false } } sender = p from peer_of_get h.peer,
      heard_of_present h.present rfl, if_pos h.present]
    rfl
  rw [frameEnded_of_receiving h.begun h.receiving, if_pos h.good, State.goodFrame]
  dsimp only
  rw [h.origin, if_neg (by exact h.other), h.edition]
  refine (peerFrame_of_heard (by exact hpeerHeard) _ _ _).trans ?_
  rw [h.peer_heardState]
  rfl

/-- A frame for another station does no more. -/
theorem HeardFrom.frameEnded_of_untargeted (h : HeardFrom f sender p s)
    (ht : s.targeted f.body (natAt f.bytes 6 1) = false) : s.frameEnded f = heardState s sender p := by
  rw [h.frameEnded_eq, ht]
  rfl

/-- An unstamped frame in the station's edition, or of a kind whose edition is not checked, is handed on. -/
theorem HeardFrom.frameEnded_of_unstamped (h : HeardFrom f sender p s)
    (ht : s.targeted f.body (natAt f.bytes 6 1) = true)
    (he : codeEditionChecked (kindCode f.body) = false ∨ s.editionAgrees p.edition = true)
    (hst : codeStamped (kindCode f.body) = false) :
    s.frameEnded f = (heardState s sender p).handOn sender p.edition (natAt f.bytes 6 1) f.body := by
  have hdrop : (codeEditionChecked (kindCode f.body) && !s.editionAgrees p.edition) = false := by
    obtain he | he := he <;> simp [he]
  rw [h.frameEnded_eq, ht, hdrop, hst]
  rfl

/-- A stamped frame in the station's edition is judged by its stamp. -/
theorem HeardFrom.frameEnded_of_stamped (h : HeardFrom f sender p s)
    (ht : s.targeted f.body (natAt f.bytes 6 1) = true) (he : s.editionAgrees p.edition = true)
    (hst : codeStamped (kindCode f.body) = true) :
    s.frameEnded f = (heardState s sender p).judgeStamp sender (natAt f.bytes 3 2) f.body := by
  rw [h.frameEnded_eq, ht, he, hst]
  simp

/-- A frame of another edition counts a mismatch. -/
theorem HeardFrom.frameEnded_of_edition (h : HeardFrom f sender p s)
    (ht : s.targeted f.body (natAt f.bytes 6 1) = true) (hk : codeEditionChecked (kindCode f.body) = true)
    (he : s.editionAgrees p.edition = false) :
    s.frameEnded f = { s with
      line := heardLine s sender
        (Peer.dropped { p with absenceTimer := some 35000 } s.edition (natAt f.bytes 3 2) f.body) } := by
  rw [h.frameEnded_eq, ht, he, hk]
  simp [State.setPeer, heardState, heardLine]

theorem editionAgrees_iff {edition : Nat} : s.editionAgrees edition = true ↔ edition = s.edition ∧ s.edition ≠ 0 := by
  simp [State.editionAgrees]

theorem editionAgrees_of_ne {edition : Nat} (h : edition ≠ s.edition ∨ s.edition = 0) :
    s.editionAgrees edition = false := by
  refine Bool.eq_false_iff.mpr fun hagree => ?_
  obtain ⟨he, he0⟩ := editionAgrees_iff.mp hagree
  exact h.elim (fun hne => hne he) he0

end Frames

end Sys2Proof.Proofs

/-! The day clock: seconds, minutes, midnights, SET CLOCK, and the PRESENCE and DAY ROLL of a peer (R119, R120,
R159 to R165). -/

namespace Sys2Proof.Proofs
open Sys2Proof Sys2Proof.Machine

/-- A served command that latches causes: they join those pending before it. -/
theorem take_latches {s t : State} (hs : s.serves = true) {n : Nat} {f : State → State × Reply} {r : Reply}
    {pending : BitVec 11} (hf : ∀ p : Port, p.pending = s.port.pending →
      f { s with port := p } = ({ t with port := { p with pending := pending } }, r)) :
    s.take n f = { t with port := { s.portAfter (r.code :: r.bytes) r.effect with pending := pending } } := by
  obtain ⟨p, hpending, -, hport, htake⟩ := take_of_serves hs
  rw [htake, hf p hpending, hport]
  rfl

/-! ## The call (R165, R167) -/

section Call
variable {s : State}

theorem dropKept_of_empty (h : s.upload.kept = []) (p : Notice → Bool) :
    s.dropKept p = { s with upload := { s.upload with handAgainTimer := none } } := by
  simp only [State.dropKept, State.setUpload, h, List.filter_nil, if_true]

/-- A fitted station calls with its GATEWAY CLAIM. -/
theorem makeCall_of_fitted (hk : s.upload.kept = []) (hs : s.settings.strap = true) (hu : s.line.u.length < 8) :
    s.makeCall = { s with
      line := { s.line with u := s.line.u ++ [⟨0, 255, .gatewayClaim s.clock.day⟩] }
      upload := { s.upload with
        handAgainTimer := none, sender := { s.upload.sender with state := .calling, callTimer := some 30000 } } } := by
  unfold State.makeCall
  rw [dropKept_of_empty hk]
  dsimp only
  rw [if_pos (by exact hs), handUpload_of_room (by exact decide_eq_true hu)]
  rfl

/-- A station not fitted, with a gateway in sight, calls with an UPLOAD CALL. -/
theorem makeCall_of_sight (hk : s.upload.kept = []) (hs : s.settings.strap = false) (hg : s.gatewayInSight = true)
    (hroom : s.line.s.length < 32) :
    s.makeCall = { s with
      line := { s.line with s := s.line.s ++ [⟨0, 255, .uploadCall s.clock.day⟩] }
      upload := { s.upload with
        handAgainTimer := none, sender := { s.upload.sender with state := .calling, callTimer := some 30000 } } } := by
  unfold State.makeCall
  rw [dropKept_of_empty hk]
  dsimp only
  rw [if_neg (by exact Bool.eq_false_iff.mp hs), if_pos (by exact hg), handUpload_of_room (by exact decide_eq_true hroom)]
  rfl

theorem uploadAble_iff : s.uploadAble = true ↔ (s.station = .ready ∨ s.station = .gathering) ∧ s.memory.faulted = false := by
  simp [State.uploadAble]

/-- The one-shot, reached at a station that may call, is disarmed and calls. -/
theorem testOneShot_of_reached (hset : s.clock.set = true) (harm : s.clock.armed = true)
    (hmin : s.rules.uploadMinute ≤ s.clock.minute) (hable : s.uploadAble = true) (hidle : s.upload.sender.state = .idle) :
    s.testOneShot = State.makeCall { s with clock := { s.clock with armed := false } } := by
  unfold State.testOneShot
  rw [if_pos (by simp [hset, harm, hmin])]
  exact if_pos (by rw [Bool.and_eq_true]; exact ⟨hable, beq_iff_eq.mpr hidle⟩)

end Call

/-! ## A day roll (R162, R164, R165) -/

section Roll
variable {s : State} {day minute second : Nat}

/-- The one-shot is set against a minute other than its own, and does not fire. -/
theorem setOneShot_of_ne (h : s.clock.minute ≠ s.rules.uploadMinute) : s.setOneShot =
    { s with clock := { s.clock with armed := decide (s.clock.minute ≤ s.rules.uploadMinute) } } := by
  rw [State.setOneShot]
  refine (testOneShot_of_early (.inr ?_)).trans rfl
  obtain hle | hgt := Nat.lt_or_ge s.rules.uploadMinute s.clock.minute
  · exact .inl (decide_eq_false (by omega))
  · exact .inr (Nat.lt_of_le_of_ne hgt h)

theorem activate_of_unstaged (h : s.reckoner.staged = none) : s.activate = s := by simp only [State.activate, h]

/-- The clock as a day roll leaves it, with the one-shot set against the upload minute. -/
def rolled (c : Clock) (day minute second uploadMinute : Nat) : Clock := { c with
  day := day, minute := minute, seconds := second, set := true, armed := decide (minute ≤ uploadMinute) }

theorem rollTo_of_unstaged (hr : s.reckoner.staged = none) (hm : minute ≠ s.rules.uploadMinute) :
    s.rollTo day minute second = { s with
      clock := rolled s.clock day minute second s.rules.uploadMinute
      port := { s.port with pending := s.port.pending ||| causeBit causeDayRoll } } := by
  rw [State.rollTo, activate_of_unstaged (by exact hr), setOneShot_of_ne (by exact hm), latch_of_ne (by decide)]
  rfl

theorem rollTo_of_staged {rs : RuleSet} (hr : s.reckoner.staged = some rs) (hc : s.settings.cycle = none)
    (hm : minute ≠ rs.uploadMinute) :
    s.rollTo day minute second = { s with
      clock := rolled s.clock day minute second rs.uploadMinute, reckoner := ⟨rs, none, false⟩
      settings := { s.settings with cycle := some ⟨none, some rs, none⟩ }
      port := { s.port with pending := s.port.pending ||| causeBit causeDayRoll } } := by
  rw [State.rollTo, activate_of_staged (by exact hr) (by exact hc), setOneShot_of_ne (by exact hm),
    latch_of_ne (by decide)]
  rfl

/-- The own midnight rolls to the next day and hands its DAY ROLL. -/
theorem ownMidnight_of_room {t : State} (ht : s.rollTo (s.clock.day + 1) 0 0 = t) (hu : t.line.u.length < 8) :
    s.ownMidnight = { t with
      line := { t.line with u := t.line.u ++ [⟨0, 255, .dayRoll t.clock.day⟩] }
      clock := { t.clock with rollMark := true } } := by
  simp only [State.ownMidnight, ht]
  rw [hand_of_room (by exact decide_eq_true hu)]
  rfl

/-! ## A second counted (R159) -/

theorem countSecond_of_unset (h : s.clock.set = false) : s.countSecond = s := if_pos (by rw [h]; rfl)

theorem countSecond_of_second (h : s.clock.set = true) (hs : s.clock.seconds < 59) :
    s.countSecond = { s with clock := { s.clock with seconds := s.clock.seconds + 1 } } := by
  rw [State.countSecond, if_neg (by simp [h]), if_pos hs]
  rfl

theorem countSecond_of_minute (h : s.clock.set = true) (hs : s.clock.seconds = 59) (hm : s.clock.minute < 1439) :
    s.countSecond =
      State.testOneShot { s with clock := { s.clock with seconds := 0, minute := s.clock.minute + 1 } } := by
  rw [State.countSecond, if_neg (by simp [h]), if_neg (by omega), if_pos hm]
  rfl

theorem countSecond_of_midnight (h : s.clock.set = true) (hs : s.clock.seconds = 59) (hm : s.clock.minute = 1439) :
    s.countSecond = if s.clock.day < 65535 then s.ownMidnight else { s with clock := { s.clock with seconds := 0 } } := by
  rw [State.countSecond, if_neg (by simp [h]), if_neg (by omega), if_neg (by omega)]
  rfl

end Roll

/-! ## SET CLOCK (R160) -/

section SetClock
variable {s : State} {day minute second : Nat}

theorem setClock_of_bad (h : ¬ (minute ≤ 1439 ∧ second ≤ 59) ∨ (s.clock.set = true ∧ day < s.clock.day)) :
    setClockCommand day minute second s = (s, refused 24 0) := by
  unfold setClockCommand
  obtain h | h := h
  · rw [if_pos (by omega)]
  · rw [if_pos h, ite_self]

theorem setClock_of_good (h : minute ≤ 1439 ∧ second ≤ 59) (hd : ¬ (s.clock.set = true ∧ day < s.clock.day)) :
    setClockCommand day minute second s = (s.takeClock day minute second, ok) := by
  unfold setClockCommand
  rw [if_neg (by omega), if_neg hd]

theorem takeClock_of_unset (h : s.clock.set = false) (hm : minute ≠ s.rules.uploadMinute) :
    s.takeClock day minute second = { s with clock := rolled s.clock day minute second s.rules.uploadMinute } := by
  unfold State.takeClock
  dsimp only
  rw [if_pos (by rw [h]; rfl), setOneShot_of_ne (by exact hm)]
  rfl

theorem takeClock_of_day (h : s.clock.set = true) (hd : day = s.clock.day)
    (hm : s.clock.armed = false ∨ minute < s.rules.uploadMinute) :
    s.takeClock day minute second = { s with clock := { s.clock with
      day := day, minute := minute, seconds := second, set := true } } := by
  unfold State.takeClock
  dsimp only
  rw [if_neg (by simp [h]), if_pos hd, testOneShot_of_early (.inr (by exact hm)), hd, ← h]
  rfl

theorem takeClock_of_later (h : s.clock.set = true) (hd : s.clock.day < day) :
    s.takeClock day minute second = s.rollTo day minute second := by
  unfold State.takeClock
  dsimp only
  rw [if_neg (by simp [h]), if_neg (by omega)]

end SetClock

/-- Settles O48: each boundary of the count, and SET CLOCK's four answers. -/
theorem secondsMinutesAndDaysCount : Obligations.SecondsMinutesAndDaysCount := by
  refine ⟨fun s => ⟨fun h => congrArg Host.Outcome.next (countSecond_of_unset h),
    fun h hs => congrArg Host.Outcome.next (countSecond_of_second h hs),
    fun h hs hm harm => congrArg Host.Outcome.next ((countSecond_of_minute h hs hm).trans (testOneShot_of_early (.inr harm))),
    fun h hs hm harm hup hst hf hidle hstrap hu hkept hagain => congrArg Host.Outcome.next ?_,
    fun h hs hm hd hu => ⟨fun hr hup => congrArg Host.Outcome.next ?_, fun rs hr hup hc => congrArg Host.Outcome.next ?_⟩,
    fun h hs hm hd => congrArg Host.Outcome.next ?_⟩,
    fun day minute second s hs => ⟨fun hbad => congrArg Host.Outcome.next ?_, fun hin hset hm => congrArg Host.Outcome.next ?_,
      fun hin hset hd hm => congrArg Host.Outcome.next ?_, fun hin hset hd hr hm => congrArg Host.Outcome.next ?_⟩⟩
  · rw [countSecond_of_minute h hs hm, testOneShot_of_reached (by exact h) (by exact harm) (by exact hup)
      (by exact uploadAble_iff.mpr ⟨hst, hf⟩) (by exact hidle),
      makeCall_of_fitted (by exact hkept) (by exact hstrap) (by exact hu)]
    simp only [hagain]
  · rw [countSecond_of_midnight h hs hm, if_pos hd,
      ownMidnight_of_room (rollTo_of_unstaged hr (Nat.ne_of_lt hup)) (by exact hu)]
    simp only [rolled, Nat.zero_le, decide_true, h]
    rfl
  · rw [countSecond_of_midnight h hs hm, if_pos hd,
      ownMidnight_of_room (rollTo_of_staged hr hc (Nat.ne_of_lt hup)) (by exact hu)]
    simp only [rolled, Nat.zero_le, decide_true, h]
    rfl
  · rw [countSecond_of_midnight h hs hm, if_neg (by omega)]
  · exact (take_answers hs (setClock_of_bad (by rwa [State.commandStatus_clock]))).trans rfl
  · refine take_changes hs (t := { s with
      clock := rolled s.clock day.toNat minute.toNat second.toNat s.rules.uploadMinute }) (r := ok) fun p => ?_
    rw [setClock_of_good hin (by simp [hset]), takeClock_of_unset (by exact hset) (by exact hm)]
    rfl
  · refine take_changes hs (t := { s with clock := { s.clock with
      day := day.toNat, minute := minute.toNat, seconds := second.toNat, set := true } }) (r := ok) fun p => ?_
    rw [setClock_of_good hin (by rw [hd]; simp), takeClock_of_day (by exact hset) (by exact hd) (by exact hm)]
  · refine take_latches hs (t := { s with
      clock := rolled s.clock day.toNat minute.toNat second.toNat s.rules.uploadMinute }) (r := ok) fun p hp => ?_
    rw [setClock_of_good hin (by dsimp only; omega), takeClock_of_later (by exact hset) (by exact hd),
      rollTo_of_unstaged (by exact hr) (by exact hm)]
    simp only [hp]
    rfl

/-! ## The presence and absence timers (R119, R120) -/

section Presence
variable {s : State}

theorem isPresence_iff {n : Notice} : isPresence n = true ↔ ∃ p, n.body = .presence p := by
  unfold isPresence
  split
  · next p hp => exact ⟨fun _ => ⟨p, hp⟩, fun _ => rfl⟩
  · next hne => exact ⟨fun h => absurd h Bool.false_ne_true, fun ⟨p, hp⟩ => absurd hp (hne p)⟩

theorem handPresence_of_room (hn : ∀ n ∈ s.line.s, ∀ p, n.body ≠ .presence p) (hroom : s.line.s.length < 32) :
    s.handPresence = { s with line := { s.line with
      s := s.line.s ++ [⟨0, 255, .presence ⟨0, 0, 0, false, false, []⟩⟩] } } := by
  have hnone : s.queued .s isPresence = false := List.any_eq_false.mpr fun n hm h => by
    obtain ⟨p, hp⟩ := isPresence_iff.mp h
    exact hn n hm p hp
  rw [State.handPresence, hnone, hand_of_room (by exact decide_eq_true hroom)]
  rfl

theorem handPresence_of_refused (h : (∃ n ∈ s.line.s, ∃ p, n.body = .presence p) ∨ 32 ≤ s.line.s.length) :
    s.handPresence = s := by
  unfold State.handPresence
  split
  · rfl
  · next hq =>
    obtain ⟨n, hm, hp⟩ | hfull := h
    · exact absurd (List.any_eq_true.mpr ⟨n, hm, isPresence_iff.mpr hp⟩) hq
    · rw [hand_of_full (by exact decide_eq_false (Nat.not_lt.mpr hfull))]

theorem enabled_bit_iff (w : BitVec 11) : (w &&& causeBit causePeer ≠ 0) ↔ w.getLsbD 10 = true := by
  revert w
  decide

theorem latch_peer_of_enabled (h : s.port.enabled.getLsbD 10 = true) :
    s.latch causePeer = { s with port := { s.port with pending := s.port.pending ||| (1#11 <<< 10) } } :=
  if_neg fun hmasked => (enabled_bit_iff _).mpr h hmasked.2

theorem latch_peer_of_disabled (h : s.port.enabled.getLsbD 10 = false) : s.latch causePeer = s := by
  refine if_pos ⟨rfl, ?_⟩
  by_contra hne
  exact Bool.eq_false_iff.mp h ((enabled_bit_iff _).mp hne)

theorem peerAbsent_of_timer {n k : Nat} {p : Peer} (hp : s.line.peers[n]? = some p) (hk : p.absenceTimer = some k) :
    let t := s.setPeer n { p with present := false, absenceTimer := none }
    s.peerAbsent n = if p.present then t.latch causePeer else t := by
  unfold State.peerAbsent
  rw [peer_of_get hp]
  dsimp only
  rw [if_neg (by simp [hk])]

/-- The record that a PRESENCE fills. -/
def Peer.told (p : Peer) (x : PresencePart) : Peer :=
  { p with day := x.day, minute := x.minute, clockSet := x.clockSet, uplinkFitted := x.uplinkFitted }

theorem adopt_of_set {x : PresencePart} (h : s.clock.set = true ∨ x.clockSet = false) : s.adopt x = s :=
  if_neg (by obtain h | h := h <;> simp [h])

theorem adopt_of_unset {x : PresencePart} (h : s.clock.set = false) (hx : x.clockSet = true)
    (hm : x.minute ≠ s.rules.uploadMinute) :
    s.adopt x = { s with clock := rolled s.clock x.day x.minute 0 s.rules.uploadMinute } := by
  unfold State.adopt
  rw [if_pos (by simp [h, hx]), setOneShot_of_ne (by exact hm)]
  rfl

/-- A PRESENCE fills the record, and the clock adopts its time; in another edition it does no more. -/
theorem presenceHeard_of_edition {t : State} {sender edition : Nat} {x : PresencePart} {q : Peer}
    (hq : s.peer sender = q) (ht : (s.setPeer sender (Peer.told q x)).adopt x = t) (he : t.editionAgrees edition = false) :
    s.presenceHeard sender edition x = t := by
  subst hq
  subst ht
  exact if_neg (Bool.eq_false_iff.mp he)

/-- The stamp counter raised to what a peer has heard of this station (R119). -/
def stampsRaised (x : PresencePart) (t : State) : State :=
  t.mapLine fun y => { y with stamps := max y.stamps ((x.heard[t.number]?).getD 0) }

/-- In the station's edition it raises the stamp counter, and requests the stamps not heard. -/
theorem presenceHeard_of_agreeing {t u : State} {sender edition : Nat} {x : PresencePart} {q : Peer}
    (hq : s.peer sender = q) (ht : (s.setPeer sender (Peer.told q x)).adopt x = t) (he : t.editionAgrees edition = true)
    (hu : (if (t.peer sender).lastStamp < x.currentStamp then
      t.requestRestate sender ((t.peer sender).lastStamp + 1) else t) = u) :
    s.presenceHeard sender edition x = stampsRaised x u := by
  subst hq
  subst ht
  subst hu
  exact if_pos he

/-! ## DAY ROLL (R162 to R164) -/

theorem dayRollHeard_of_rolling {d : Nat} (h : s.clock.set = false ∨ (d = s.clock.day + 1 ∧ 1410 ≤ s.clock.minute)) :
    s.dayRollHeard d = s.rollTo d 0 0 := by
  unfold State.dayRollHeard
  dsimp only
  cases hset : s.clock.set with
  | false => exact if_pos rfl
  | true =>
    obtain h | h := h
    · exact absurd (hset.symm.trans h) (by decide)
    · rw [if_neg (by decide), if_pos h]

theorem dayRollHeard_of_reached (hset : s.clock.set = true) :
    s.dayRollHeard s.clock.day = if s.clock.rollMark then
      (s.withdraw .u isDayRoll).mapClock fun c => { c with rollMark := false } else s := by
  unfold State.dayRollHeard
  dsimp only
  rw [if_neg (by simp [hset]), if_neg (by omega), if_pos rfl]

theorem dayRollHeard_of_other {d : Nat} (hset : s.clock.set = true) (hne : d ≠ s.clock.day)
    (hn : ¬ (d = s.clock.day + 1 ∧ 1410 ≤ s.clock.minute)) :
    s.dayRollHeard d = { s with clock := { s.clock with rollRefusals := saturatingSucc s.clock.rollRefusals } } := by
  unfold State.dayRollHeard
  dsimp only
  rw [if_neg (by simp [hset]), if_neg hn, if_neg hne]
  rfl

end Presence

/-- A frame whose kind is neither stamped nor edition-checked, for all, is handed on. -/
theorem HeardFrom.handsOn {f : RxFrame} {sender : Nat} {p : Peer} {s : State} (h : HeardFrom f sender p s) {b : Body}
    (hb : f.body = b) (ht : s.targeted b (natAt f.bytes 6 1) = true)
    (he : codeEditionChecked (kindCode b) = false ∨ s.editionAgrees p.edition = true)
    (hst : codeStamped (kindCode b) = false) :
    s.frameEnded f = (heardState s sender p).handOn sender p.edition (natAt f.bytes 6 1) b := by
  subst hb
  exact h.frameEnded_of_unstamped ht he hst

/-- Settles O47: the two timers, and the two frames. -/
theorem presenceAndAbsenceTimersExpire : Obligations.PresenceAndAbsenceTimersExpire := by
  refine ⟨fun k s hk => ?_, fun n p k s hp hk => ?_, fun f sender edition p s hst hr hgood hsender hed hne hp hpres hped => ?_⟩
  · have hrun : exec .presenceTimerExpiry s =
        .next (State.handPresence { s with line := { s.line with presenceTimer := some 10000 } }) :=
      congrArg Host.Outcome.next (if_pos (by rw [hk]; rfl))
    exact ⟨fun hn hroom => hrun.trans (congrArg Host.Outcome.next (handPresence_of_room (by exact hn) (by exact hroom))),
      fun h => hrun.trans (congrArg Host.Outcome.next (handPresence_of_refused (by exact h)))⟩
  · have hrun := peerAbsent_of_timer hp hk
    refine ⟨fun hpres hen => congrArg Host.Outcome.next (hrun.trans ?_), fun h => congrArg Host.Outcome.next (hrun.trans ?_)⟩
    · exact (if_pos hpres).trans (latch_peer_of_enabled (by exact hen))
    · obtain h | h := h
      · exact if_neg (by simp [h])
      · exact (congrArg (fun t => if p.present = true then t else _) (latch_peer_of_disabled (by exact h))).trans (ite_self _)
  · subst hped
    have heard : HeardFrom f sender p s := ⟨hst, hr, hgood, hsender, hne, hp, hpres, hed⟩
    have hpeer := heard.peer_heardState
    refine ⟨fun x hx => ⟨fun hother => ⟨fun hset => congrArg Host.Outcome.next ?_,
      fun hset hx1 hm => congrArg Host.Outcome.next ?_⟩, fun he he0 hset => ⟨fun hle => congrArg Host.Outcome.next ?_,
      fun hlt hreq hroom hsend hq => congrArg Host.Outcome.next ?_⟩⟩, fun d hd => ⟨fun hroll hstaged hup =>
      congrArg Host.Outcome.next ?_, fun hset hday => ⟨fun hmark => congrArg Host.Outcome.next ?_,
      fun hmark hsend => congrArg Host.Outcome.next ?_⟩, fun hset hday hn => congrArg Host.Outcome.next ?_⟩⟩
    all_goals rw [heard.handsOn (by assumption) (by rfl) (.inl (by rfl)) (by rfl), State.handOn]
    all_goals dsimp only
    · exact presenceHeard_of_edition hpeer ((congrArg (State.adopt · x) (setPeer_heardState _)).trans
        (adopt_of_set (by exact hset))) (editionAgrees_of_ne (by exact hother))
    · exact presenceHeard_of_edition hpeer ((congrArg (State.adopt · x) (setPeer_heardState _)).trans
        (adopt_of_unset (by exact hset) hx1 (by exact hm))) (editionAgrees_of_ne (by exact hother))
    · refine presenceHeard_of_agreeing hpeer ((congrArg (State.adopt · x) (setPeer_heardState _)).trans
        (adopt_of_set (by exact .inl hset))) (editionAgrees_iff.mpr ⟨he, he0⟩) (if_neg ?_)
      rw [heard.peer_heardLine]
      exact Nat.not_lt.mpr hle
    · refine (presenceHeard_of_agreeing hpeer ((congrArg (State.adopt · x) (setPeer_heardState _)).trans
        (adopt_of_set (by exact .inl hset))) (editionAgrees_iff.mpr ⟨he, he0⟩) ((if_pos ?_).trans
          (requestRestate_of_room (heard.get_heardLine _) (by exact hreq) (by exact hsend) (by exact hq)
            (by exact hroom)))).trans ?_
      · rw [heard.peer_heardLine]
        exact hlt
      · rw [heard.peer_heardLine]
        rfl
    · rw [dayRollHeard_of_rolling (by exact hroll), rollTo_of_unstaged (by exact hstaged) (by exact Nat.ne_of_lt hup)]
      simp only [rolled, Nat.zero_le, decide_true]
      rfl
    · subst hday
      exact (dayRollHeard_of_reached (by exact hset)).trans (if_neg (by exact Bool.eq_false_iff.mp hmark))
    · subst hday
      refine (dayRollHeard_of_reached (by exact hset)).trans ((if_pos (by exact hmark)).trans ?_)
      rw [withdraw_u (by exact hsend)]
      rfl
    · exact dayRollHeard_of_other (by exact hset) (by exact hday) (by exact hn)

end Sys2Proof.Proofs

/-! The upload engine: the sender's ends, calls, claims and receipts (R167 to R171, R176). -/

namespace Sys2Proof.Proofs
open Sys2Proof Sys2Proof.Machine

section Sender
variable {s : State}

/-- The sender as it returns to IDLE with an outcome. -/
def Sender.ended (x : Sender) (o : UploadOutcome) : Sender := { x with
  state := .idle, block := 0, records := [], tries := 0, moving := false, outcome := o
  callTimer := none, beginTimer := none, receiptTimer := none }

/-- The port with UPLOAD latched. -/
def uploadLatched (s : State) : Port := { s.port with pending := s.port.pending ||| (1#11 <<< 7) }

theorem latchUpload_eq (s : State) : s.latchUpload = { s with port := uploadLatched s } := latch_of_ne (by decide) s

/-- With no request waiting, the sender's end discards a read in progress. -/
theorem endSender_of_reading {o : UploadOutcome} (hw : s.memory.waiting = [])
    (hb : s.memory.busy = none ∨ ∃ first count d, s.memory.busy = some ⟨.uploadRead first count, d⟩) :
    s.endSender o = { s with
      memory := { s.memory with busy := s.memory.busy.map fun r => { r with discard := true } }
      upload := { s.upload with sender := Sender.ended s.upload.sender o }, port := uploadLatched s } := by
  rw [State.endSender, latchUpload_eq]
  obtain hb | ⟨first, count, d, hb⟩ := hb
  all_goals
    simp only [State.dropAsked, State.detachAsked, State.setMemory, hw, hb]
    rfl

/-- With the memory port free, it changes nothing there. -/
theorem endSender_of_free {o : UploadOutcome} (hw : s.memory.waiting = []) (hb : s.memory.busy = none) :
    s.endSender o = { s with
      upload := { s.upload with sender := Sender.ended s.upload.sender o }, port := uploadLatched s } := by
  rw [endSender_of_reading hw (.inl hb)]
  simp only [hb, Option.map_none]
  simp only [← hb]

/-- With nothing kept, a withdrawal of upload frames falls on their queue. -/
theorem withdrawUpload_of_settled (hs : s.line.sending = none) (hl : Settled s) (hk : s.upload.kept = []) (c : TxClass)
    (p : Notice → Bool) :
    s.withdrawUpload c p = { s with
      line := (s.setQueueOf c ((s.queueOf c).filter fun x => !p x)).line
      upload := { s.upload with handAgainTimer := none } } := by
  rw [State.withdrawUpload, withdraw_of_settled hs hl]
  cases c <;> exact dropKept_of_empty (by exact hk) p

/-- With none queued or kept, it changes nothing. -/
theorem withdrawUpload_of_none (hs : s.line.sending = none) (hk : s.upload.kept = []) {c : TxClass} {p : Notice → Bool}
    (hp : ∀ n ∈ s.queueOf c, p n = false) :
    s.withdrawUpload c p = { s with upload := { s.upload with handAgainTimer := none } } := by
  rw [State.withdrawUpload, withdraw_of_none hs hp, dropKept_of_empty hk]

/-! ## Claims (R168, R169) -/

/-- SETTLING asks for the marks to be moved up to send, or for the snapshot. -/
theorem settle_of_free (hst : s.upload.sender.state = .settling) (hf : s.memory.faulted = false) (hb : s.memory.busy = none)
    (hw : s.memory.waiting = []) :
    s.settle = { s with memory := { s.memory with
      busy := some ⟨if s.memory.copies.tail < s.memory.copies.send then
        .moveMarks s.memory.copies.send s.memory.copies.send else .takeSnapshot, false⟩ } } := by
  have hfree : s.asked MemOp.isUpload = false := by simp only [State.asked, hb, hw]; rfl
  have hask : ∀ op : MemOp, s.askUpload op = s.ask op := fun op => if_neg (by simp [hf])
  unfold State.settle
  rw [if_pos ⟨hst, hfree⟩]
  dsimp only
  split
  · rw [hask, ask_of_free hb hw (by rintro ⟨⟩)]
    rfl
  · rw [hask, ask_of_free hb hw (by rintro ⟨⟩)]
    rfl

theorem claimNames_of_able {g : Nat} (hx : s.upload.sender.state = .idle ∨ s.upload.sender.state = .calling)
    (hs : s.line.sending = none) (hk : s.upload.kept = []) (hu : ∀ n ∈ s.line.u, isClaim n = false)
    (hcall : ∀ n ∈ s.line.s, isCall n = false) (hable : s.uploadAble = true) (hb : s.memory.busy = none)
    (hw : s.memory.waiting = []) :
    s.claimNames g = { s with
      upload := { s.upload with
        handAgainTimer := none
        sender := { s.upload.sender with
          state := .settling, callTimer := none, gateway := some g, receipted := 0, moving := false } }
      memory := { s.memory with
        busy := some ⟨if s.memory.copies.tail < s.memory.copies.send then
          .moveMarks s.memory.copies.send s.memory.copies.send else .takeSnapshot, false⟩ }
      port := if s.upload.sender.state = .idle then uploadLatched s else s.port } := by
  obtain ⟨-, hf⟩ := uploadAble_iff.mp hable
  unfold State.claimNames
  dsimp only
  rw [if_pos hx, withdrawUpload_of_none (c := .u) hs hk hu,
    withdrawUpload_of_none (c := .s) (by exact hs) (by exact hk) (by exact hcall), if_pos (by exact hable),
    dropKept_of_empty (by exact hk)]
  by_cases hidle : s.upload.sender.state = .idle
  · rw [if_pos hidle, if_pos hidle, latchUpload_eq, settle_of_free rfl (by exact hf) (by exact hb) (by exact hw)]
    rfl
  · rw [if_neg hidle, if_neg hidle, settle_of_free rfl (by exact hf) (by exact hb) (by exact hw)]
    rfl

theorem claimNames_of_unable {g : Nat} (hx : s.upload.sender.state = .idle ∨ s.upload.sender.state = .calling)
    (hs : s.line.sending = none) (hk : s.upload.kept = []) (hu : ∀ n ∈ s.line.u, isClaim n = false)
    (hcall : ∀ n ∈ s.line.s, isCall n = false) (hable : s.uploadAble = false) :
    s.claimNames g = { s with upload := { s.upload with
      handAgainTimer := none
      sender := { s.upload.sender with state := .idle, callTimer := none, gateway := some g } } } := by
  unfold State.claimNames
  dsimp only
  rw [if_pos hx, withdrawUpload_of_none (c := .u) hs hk hu,
    withdrawUpload_of_none (c := .s) (by exact hs) (by exact hk) (by exact hcall),
    if_neg (by exact Bool.eq_false_iff.mp hable)]
  rfl

theorem dayAgrees_iff {d : Nat} : s.dayAgrees d = true ↔ s.clock.set = false ∨ d = s.clock.day := by
  simp [State.dayAgrees]

theorem claimHeard_of_agreeing {sender d : Nat} (hg : s.upload.gateway = none) (hd : s.dayAgrees d = true) :
    s.claimHeard sender d = s.claimNames sender := if_pos (by simp [hg, hd])

/-- A claim that names no gateway. -/
theorem claimHeard_of_ignored {sender d : Nat} (h : s.dayAgrees d = false ∨ s.upload.gateway.isSome = true ∨
    (s.upload.sender.state ≠ .idle ∧ s.upload.sender.state ≠ .calling)) : s.claimHeard sender d = s := by
  unfold State.claimHeard
  split
  · next hc =>
    obtain h | h | ⟨hidle, hcall⟩ := h
    · simp [h] at hc
    · obtain ⟨g, hg⟩ := Option.isSome_iff_exists.mp h
      simp [hg] at hc
    · exact if_neg (by simp [hidle, hcall])
  · rfl

/-! ## Receipts (R171) -/

/-- The receipt names the block in hand, from the sender's gateway. -/
def Awaits (x : Sender) (src k : Nat) : Prop :=
  x.state = .sending ∧ x.moving = false ∧ x.gateway = some src ∧ x.block = k

theorem senderReceipt_of_awaited {src k : Nat} (h : Awaits s.upload.sender src k) (hf : s.memory.faulted = false)
    (hb : s.memory.busy = none) (hw : s.memory.waiting = []) (hk : s.upload.kept = []) (hs : s.line.sending = none)
    (hq : ∀ n ∈ s.line.b, isBlockFrame n = false) :
    s.senderReceipt src k = { s with
      upload := { s.upload with
        handAgainTimer := none
        sender := { s.upload.sender with
          receiptTimer := none, moving := true, receipted := s.upload.sender.receipted + 1 } }
      memory := { s.memory with
        busy := some ⟨.moveMarks s.upload.sender.afterBlock s.upload.sender.afterBlock, false⟩ } } := by
  unfold State.senderReceipt
  dsimp only
  rw [if_pos (by exact h), withdrawUpload_of_none (c := .b) hs hk hq, State.askUpload, if_neg (by exact Bool.eq_false_iff.mp hf),
    ask_of_free (by exact hb) (by exact hw) (by rintro ⟨⟩)]
  rfl

theorem senderReceipt_of_other {src k : Nat} (h : ¬ Awaits s.upload.sender src k) : s.senderReceipt src k = s := if_neg h

end Sender

/-! ## UPLOAD NOW (R167) -/

section UploadNow
variable {s : State}

theorem uploadNow_of_able (hst : s.station = .ready ∨ s.station = .gathering) (hf : s.memory.faulted = false)
    (hidle : s.upload.sender.state = .idle) (hg : s.upload.gateway = none) : uploadNowCommand s = (s.makeCall, ok) := by
  unfold uploadNowCommand
  rw [if_neg (by obtain h | h := hst <;> simp [h]), if_neg (by simp [hf]), if_neg (by simp [hidle, hg])]

/-- With no gateway in sight the call ends at once. -/
theorem makeCall_of_none (hk : s.upload.kept = []) (hs : s.settings.strap = false) (hg : s.gatewayInSight = false)
    (hw : s.memory.waiting = []) (hb : s.memory.busy = none) :
    s.makeCall = { s with
      upload := { s.upload with handAgainTimer := none, sender := Sender.ended s.upload.sender .noGateway }
      port := uploadLatched s } := by
  unfold State.makeCall
  rw [dropKept_of_empty hk]
  dsimp only
  rw [if_neg (by exact Bool.eq_false_iff.mp hs), if_neg (by exact Bool.eq_false_iff.mp hg),
    endSender_of_free (by exact hw) (by exact hb)]
  rfl

end UploadNow

/-- Settles O49: the command's answers, a claim heard, and a receipt heard. -/
theorem uploadNowMakesACall : Obligations.UploadNowMakesACall := by
  refine ⟨fun s hs => ⟨fun hst => ?_, fun hst hf => ?_, fun hst hf hbusy => ?_, fun hc hstrap hu => ?_,
    fun hc hstrap hg hroom => ?_, fun hc hstrap hg hb hw => ?_⟩, fun f sender p s hst hr hgood hsender hne hp hpres hed => ?_⟩
  · refine congrArg Host.Outcome.next ((take_answers hs (r := refused 1 0) ?_).trans rfl)
    unfold uploadNowCommand
    rw [State.commandStatus_station, if_pos (by simpa using hst)]
  · refine congrArg Host.Outcome.next ((take_answers hs (r := refused 2 0) ?_).trans rfl)
    unfold uploadNowCommand
    rw [State.commandStatus_station, State.commandStatus_memory, if_neg (by obtain h | h := hst <;> simp [h]), if_pos hf]
  · refine congrArg Host.Outcome.next ((take_answers hs (r := busyReply 0) ?_).trans rfl)
    unfold uploadNowCommand
    rw [State.commandStatus_station, State.commandStatus_memory, State.commandStatus_upload,
      if_neg (by obtain h | h := hst <;> simp [h]), if_neg (by simp [hf]), if_pos hbusy]
  · obtain ⟨hst, hf, hidle, hgate, hk, hagain⟩ := hc
    refine congrArg Host.Outcome.next (take_changes hs (t := { s with
      line := { s.line with u := s.line.u ++ [⟨0, 255, .gatewayClaim s.clock.day⟩] }
      upload := { s.upload with sender := { s.upload.sender with state := .calling, callTimer := some 30000 } } })
      (r := ok) fun port => ?_)
    rw [uploadNow_of_able (by exact hst) (by exact hf) (by exact hidle) (by exact hgate),
      makeCall_of_fitted (by exact hk) (by exact hstrap) (by exact hu)]
    simp only [hagain]
  · obtain ⟨hst, hf, hidle, hgate, hk, hagain⟩ := hc
    refine congrArg Host.Outcome.next (take_changes hs (t := { s with
      line := { s.line with s := s.line.s ++ [⟨0, 255, .uploadCall s.clock.day⟩] }
      upload := { s.upload with sender := { s.upload.sender with state := .calling, callTimer := some 30000 } } })
      (r := ok) fun port => ?_)
    rw [uploadNow_of_able (by exact hst) (by exact hf) (by exact hidle) (by exact hgate),
      makeCall_of_sight (by exact hk) (by exact hstrap) (by exact hg) (by exact hroom)]
    simp only [hagain]
  · obtain ⟨hst, hf, hidle, hgate, hk, hagain⟩ := hc
    refine congrArg Host.Outcome.next (take_latches hs (t := { s with
      upload := { s.upload with sender := Sender.ended s.upload.sender .noGateway } }) (r := ok) fun port hport => ?_)
    rw [uploadNow_of_able (by exact hst) (by exact hf) (by exact hidle) (by exact hgate),
      makeCall_of_none (by exact hk) (by exact hstrap) (by exact hg) (by exact hw) (by exact hb)]
    simp only [hagain, uploadLatched, hport]
  · have heard : HeardFrom f sender p s := ⟨hst, hr, hgood, hsender, hne, hp, hpres, hed⟩
    refine ⟨fun d hd => ?_, fun k hk => ⟨fun hh hf hb hw hkept hsend hq => congrArg Host.Outcome.next ?_,
      fun h255 hn => congrArg Host.Outcome.next ?_⟩⟩
    · have hrun := heard.handsOn hd (by rfl) (.inl (by rfl)) (by rfl)
      refine ⟨fun h => congrArg Host.Outcome.next (hrun.trans ?_), fun hag hg hx hkept hsend hu hcall =>
        ⟨fun hable hb hw => congrArg Host.Outcome.next (hrun.trans ?_),
          fun hn => congrArg Host.Outcome.next (hrun.trans ?_)⟩⟩
      · refine claimHeard_of_ignored ?_
        obtain h | h := h
        · exact .inl (Bool.eq_false_iff.mpr fun h' => h (dayAgrees_iff.mp h'))
        · exact .inr h
      · refine (claimHeard_of_agreeing (by exact hg) (by exact dayAgrees_iff.mpr hag)).trans ?_
        exact claimNames_of_able hx hsend hkept (fun n hn => by simpa [isClaim] using hu n hn)
          (fun n hn => by simpa [isCall] using hcall n hn) (uploadAble_iff.mpr hable) hb hw
      · refine (claimHeard_of_agreeing (by exact hg) (by exact dayAgrees_iff.mpr hag)).trans ?_
        exact claimNames_of_unable hx hsend hkept (fun n hn => by simpa [isClaim] using hu n hn)
          (fun n hn => by simpa [isCall] using hcall n hn) (Bool.eq_false_iff.mpr fun h' => hn (uploadAble_iff.mp h'))
    · obtain ⟨hmine, hawait⟩ := hh
      rw [heard.handsOn hk (by simp [State.targeted, hmine]) (.inl (by rfl)) (by rfl)]
      exact senderReceipt_of_awaited hawait hf hb hw hkept hsend fun n hn => by simpa [isBlockFrame] using hq n hn
    · by_cases hmine : natAt f.bytes 6 1 = s.number
      · rw [heard.handsOn hk (by simp [State.targeted, hmine]) (.inl (by rfl)) (by rfl)]
        exact senderReceipt_of_other fun hawait => hn ⟨hmine, hawait⟩
      · exact heard.frameEnded_of_untargeted (by rw [hk]; simp [State.targeted, hmine, h255, toAll])

end Sys2Proof.Proofs

/-! Upload frames and timers at the sender and the gateway (R166 to R175). -/

namespace Sys2Proof.Proofs
open Sys2Proof Sys2Proof.Machine

/-! ## The close test (R175) -/

section Gateway
variable {s : State} {g : Gateway}

theorem entry_of_get {n : Nat} {e : GatewayEntry} (h : g.entries[n]? = some e) : g.entry n = e := by
  rw [Gateway.entry, h, Option.getD_some]

/-- An entry that is neither DONE nor GONE. -/
def Pending (e : GatewayEntry) : Prop := e.state = .waitingBegin ∨ e.state = .sending

theorem settled_iff (e : GatewayEntry) : (e.state.isDone || e.state.isGone) = true ↔ ¬ Pending e := by
  unfold Pending
  cases e.state <;> simp [GatewayState.isDone, GatewayState.isGone]

theorem gateway_self (hg : s.upload.gateway = some g) : { s.upload with gateway := some g } = s.upload := by rw [← hg]

theorem testClose_of_pending (hg : s.upload.gateway = some g) (hlen : g.entries.length = 16)
    (h : (∃ e ∈ g.entries, Pending e) ∨ g.queue ≠ []) : s.testClose = s := by
  simp only [State.testClose, hg]
  refine if_neg fun hclose => ?_
  obtain ⟨⟨hall, hempty⟩, -⟩ : (_ ∧ _) ∧ _ := by simpa only [Bool.and_eq_true] using hclose
  obtain ⟨e, hm, he⟩ | hq := h
  · obtain ⟨j, hj⟩ := List.mem_iff_getElem?.mp hm
    obtain ⟨hlt, -⟩ := List.getElem?_eq_some_iff.mp hj
    have hsettled := List.all_eq_true.mp hall j (List.mem_range.mpr (by omega))
    rw [entry_of_get hj, settled_iff] at hsettled
    exact hsettled he
  · exact hq (List.isEmpty_iff.mp hempty)

/-- The message NIGHT CLOSE of a session. -/
def nightClose (g : Gateway) : List Byte :=
  uplinkMessage 2 (bytesOf 2 g.claimDay ++ bytesOf 2 (g.mask GatewayState.isDone) ++ bytesOf 2 (g.mask GatewayState.isGone))

theorem testClose_of_settled (hg : s.upload.gateway = some g) (hlen : g.entries.length = 16)
    (hs : ∀ e ∈ g.entries, ¬ Pending e) (hq : g.queue = []) (hc : g.closing = false)
    (hroom : s.line.s.length < 32) :
    s.testClose = { s with
      line := { s.line with s := s.line.s ++ [⟨0, 255, .uploadClosed⟩] }
      port := uploadLatched s
      upload := { s.upload with gateway := none, uplinkOut := nightClose g } } := by
  have hall : ((List.range 16).all fun n => (g.entry n).state.isDone || (g.entry n).state.isGone) = true := by
    refine List.all_eq_true.mpr fun n hn => ?_
    have hget : g.entries[n]? = some (g.entries[n]'(by have := List.mem_range.mp hn; omega)) := List.getElem?_eq_getElem _
    rw [entry_of_get hget, settled_iff]
    exact hs _ (List.mem_of_getElem? hget)
  simp only [State.testClose, hg]
  rw [if_pos (by rw [hall, hq, hc]; rfl), hand_of_room (by exact decide_eq_true hroom)]
  exact latchUpload_eq _

/-- The session of a state, replaced. -/
theorem testClose_setGateway_of_pending (hlen : g.entries.length = 16)
    (h : (∃ e ∈ g.entries, Pending e) ∨ g.queue ≠ []) :
    (s.setGateway (some g)).testClose = { s with upload := { s.upload with gateway := some g } } :=
  testClose_of_pending rfl hlen h

theorem testClose_setGateway_of_settled (hlen : g.entries.length = 16) (hs : ∀ e ∈ g.entries, ¬ Pending e)
    (hq : g.queue = []) (hc : g.closing = false) (hroom : s.line.s.length < 32) :
    (s.setGateway (some g)).testClose = { s with
      line := { s.line with s := s.line.s ++ [⟨0, 255, .uploadClosed⟩] }
      port := uploadLatched s
      upload := { s.upload with gateway := none, uplinkOut := nightClose g } } :=
  testClose_of_settled rfl hlen hs hq hc hroom

/-- An entry set where another one is pending. -/
theorem pending_set {n j : Nat} {e y : GatewayEntry} (hne : j ≠ n) (hj : g.entries[j]? = some y) (hy : Pending y) :
    ∃ e' ∈ g.entries.set n e, Pending e' :=
  ⟨y, List.mem_of_getElem? (i := j) (by rw [List.getElem?_set_ne (Ne.symm hne), hj]), hy⟩

/-- An entry settled where no other one is pending. -/
theorem settled_set {n : Nat} {e : GatewayEntry} (he : ¬ Pending e)
    (h : ∀ (j : Nat) y, j ≠ n → g.entries[j]? = some y → ¬ Pending y) : ∀ y ∈ g.entries.set n e, ¬ Pending y := by
  intro y hm
  obtain ⟨j, hj⟩ := List.mem_iff_getElem?.mp hm
  by_cases hne : j = n
  · subst hne
    obtain ⟨hlt, -⟩ := List.getElem?_eq_some_iff.mp hj
    rw [List.length_set] at hlt
    rw [List.getElem?_set_self hlt] at hj
    cases hj
    exact he
  · rw [List.getElem?_set_ne (Ne.symm hne)] at hj
    exact h j y hne hj

/-- The queue without a station's blocks, but for a head in hand (R172). -/
def queueLeft (g : Gateway) (n : Nat) : List UplinkBlock :=
  if g.sendingHead || g.answerTimer.isSome then g.queue.take 1 ++ (g.queue.drop 1).filter (·.station != n)
  else g.queue.filter (·.station != n)

theorem gone_of_get {n : Nat} {e : GatewayEntry} (h : g.entries[n]? = some e) (why : GoneReason) :
    g.gone n why = { g with
      entries := g.entries.set n { e with state := .gone why, silenceTimer := none }, queue := queueLeft g n } := by
  simp only [Gateway.gone, entry_of_get h]
  rfl

/-! ## UPLOAD DONE at the gateway (R172) -/

theorem gatewayDone_of_sending {n blocks : Nat} {e : GatewayEntry} (hg : s.upload.gateway = some g)
    (he : g.entries[n]? = some e) (hst : e.state = .sending) :
    s.gatewayDone n blocks = (s.setGateway (some (g.gone n .late))).testClose := by
  simp only [State.gatewayDone, hg, entry_of_get he, hst]

theorem gatewayDone_of_waiting {n blocks : Nat} {e : GatewayEntry} (hg : s.upload.gateway = some g)
    (he : g.entries[n]? = some e) (hst : e.state = .waitingBegin) :
    s.gatewayDone n blocks = if blocks = 0 then
      (s.setGateway (some { g with entries := g.entries.set n { e with state := .done } })).testClose else s := by
  simp only [State.gatewayDone, hg, entry_of_get he, hst]
  rfl

theorem gatewayDone_of_settled {n blocks : Nat} {e : GatewayEntry} (hg : s.upload.gateway = some g)
    (he : g.entries[n]? = some e) (hst : ¬ Pending e) : s.gatewayDone n blocks = s := by
  simp only [State.gatewayDone, hg, entry_of_get he]
  unfold Pending at hst
  cases hstate : e.state <;> simp_all

theorem gatewayDone_of_none {n blocks : Nat} (hg : s.upload.gateway = none) : s.gatewayDone n blocks = s := by
  simp only [State.gatewayDone, hg]

end Gateway

/-! ## CLOSED and REFUSAL at the sender (R170, R171) -/

section Heed
variable {s : State}

theorem heeds_iff {x : Sender} {src : Nat} : x.heeds src = true ↔
    x.gateway = some src ∧ (x.state = .beginning ∨ x.state = .reading ∨ x.state = .sending) := by
  simp [Sender.heeds, or_assoc]

theorem stopSender_of_settled {o : UploadOutcome} (hs : s.line.sending = none) (hl : Settled s) (hk : s.upload.kept = [])
    (hw : s.memory.waiting = [])
    (hb : s.memory.busy = none ∨ ∃ first count d, s.memory.busy = some ⟨.uploadRead first count, d⟩) :
    s.stopSender o = { s with
      line := { s.line with
        s := s.line.s.filter fun n => !isBegin n, b := s.line.b.filter fun n => !isBlockFrame n }
      memory := { s.memory with busy := s.memory.busy.map fun r => { r with discard := true } }
      upload := { s.upload with handAgainTimer := none, sender := Sender.ended s.upload.sender o }
      port := uploadLatched s } := by
  rw [State.stopSender, withdrawUpload_of_settled hs hl hk,
    withdrawUpload_of_settled (by exact hs) (by exact ⟨hl.restateOwed, hl.broadcastOwed, hl.engine, hl.requests⟩)
      (by exact hk), endSender_of_reading (by exact hw) (by exact hb)]
  rfl

/-- The calls of a station that makes none. -/
theorem callHeard_of_ignored {d : Nat} (h : ¬ (s.clock.set = false ∨ d = s.clock.day) ∨ s.settings.strap = false ∨
    s.upload.sender.state ≠ .idle ∨ s.upload.gateway.isSome = true ∨
    ((∃ n ∈ s.line.u, kindCode n.body = 4) ∨ ∃ n ∈ s.upload.kept, kindCode n.body = 4) ∨
    ¬ ((s.station = .ready ∨ s.station = .gathering) ∧ s.memory.faulted = false)) : s.callHeard d = s := by
  refine if_neg fun hc => ?_
  simp only [Bool.and_eq_true, beq_iff_eq, dayAgrees_iff, uploadAble_iff, Option.isNone_iff_eq_none, Bool.not_eq_true',
    State.queued, List.any_eq_false, isClaim] at hc
  obtain ⟨⟨⟨hstrap, ⟨⟨hidle, hg⟩, hu⟩, hk⟩, hable⟩, hd⟩ := hc
  obtain h | h | h | h | (⟨n, hn, hn4⟩ | ⟨n, hn, hn4⟩) | h := h
  · exact h hd
  · simp [hstrap] at h
  · exact h hidle
  · simp [hg] at h
  · exact hu n hn hn4
  · exact hk n hn hn4
  · exact h hable

theorem callHeard_of_taken {d : Nat} (hd : s.clock.set = false ∨ d = s.clock.day) (hstrap : s.settings.strap = true)
    (hidle : s.upload.sender.state = .idle) (hg : s.upload.gateway = none) (hu : ∀ n ∈ s.line.u, kindCode n.body ≠ 4)
    (hk : s.upload.kept = []) (hable : (s.station = .ready ∨ s.station = .gathering) ∧ s.memory.faulted = false) :
    s.callHeard d = s.makeCall := by
  have hnone : s.queued .u isClaim = false := List.any_eq_false.mpr fun n hn => by simpa [isClaim] using hu n hn
  exact if_pos (by simp [hstrap, hidle, hg, hnone, hk, uploadAble_iff.mpr hable, dayAgrees_iff.mpr hd])

end Heed

/-- Settles O50: a call, a close or refusal, and a DONE. -/
theorem uploadFramesAct : Obligations.UploadFramesAct := by
  refine ⟨fun f sender p s hst hr hgood hsender hne hp hpres hed => ⟨fun d hd => ⟨fun h => ?_,
    fun hag hstrap hidle hg hu hable hk hroom => ?_⟩, fun hclosed => ⟨fun hn => ?_, fun hh hq hb => ?_⟩, fun why hwhy =>
    ⟨fun hn => ?_, fun hh hmine hq hb => ?_⟩⟩, fun f sender blocks p s hst hr hgood hsender hne hp hpres hed hbody =>
    ⟨fun h => ?_, fun g e hg hlen he hmine => ⟨fun hstate => ⟨fun h => ?_, fun hlast hempty hroom hc => ?_⟩,
      fun hstate hz => ⟨fun h => ?_, fun hlast hempty hroom hc => ?_⟩, fun hstate hz => ?_, fun hn1 hn2 => ?_⟩⟩⟩
  all_goals
    have heard : HeardFrom f sender p s := ⟨hst, hr, hgood, hsender, hne, hp, hpres, hed⟩
    refine congrArg Host.Outcome.next ?_
  · rw [heard.handsOn hd (by rfl) (.inl (by rfl)) (by rfl)]
    exact callHeard_of_ignored (by exact h)
  · rw [heard.handsOn hd (by rfl) (.inl (by rfl)) (by rfl)]
    exact (callHeard_of_taken (by exact hag) (by exact hstrap) (by exact hidle) (by exact hg) (by exact hu) (by exact hk)
      (by exact hable)).trans (makeCall_of_fitted hk hstrap hroom)
  · rw [heard.handsOn hclosed (by rfl) (.inl (by rfl)) (by rfl)]
    exact if_neg (by exact mt heeds_iff.mp hn)
  · obtain ⟨hsend, howed, hbroad, hengine, hreq, hk, hw⟩ := hq
    rw [heard.handsOn hclosed (by rfl) (.inl (by rfl)) (by rfl)]
    exact (if_pos (by exact heeds_iff.mpr hh)).trans (stopSender_of_settled hsend (heard.settled ⟨howed, hbroad, hengine, hreq⟩)
      hk hw hb)
  · by_cases hmine : natAt f.bytes 6 1 = s.number ∨ natAt f.bytes 6 1 = 255
    · rw [heard.handsOn hwhy (by simpa [State.targeted, toAll] using hmine) (.inl (by rfl)) (by rfl)]
      exact if_neg (by exact mt heeds_iff.mp (hn.resolve_right (not_not_intro hmine)))
    · exact heard.frameEnded_of_untargeted (by rw [hwhy]; simpa [State.targeted, toAll] using hmine)
  · obtain ⟨hsend, howed, hbroad, hengine, hreq, hk, hw⟩ := hq
    rw [heard.handsOn hwhy (by simpa [State.targeted, toAll] using hmine) (.inl (by rfl)) (by rfl)]
    exact (if_pos (by exact heeds_iff.mpr hh)).trans (stopSender_of_settled hsend (heard.settled ⟨howed, hbroad, hengine, hreq⟩)
      hk hw hb)
  · rw [heard.handsOn hbody (by rfl) (.inl (by rfl)) (by rfl)]
    obtain h | h := h
    · unfold State.handOn
      dsimp only
      rw [gatewayDone_of_none (by exact h), ite_self]
      rfl
    · exact if_neg (by exact mt beq_iff_eq.mp h)
  all_goals
    rw [heard.handsOn hbody (by rfl) (.inl (by rfl)) (by rfl)]
    refine (if_pos (by exact beq_iff_eq.mpr hmine)).trans ?_
  · refine (gatewayDone_of_sending (by exact hg) he hstate).trans ?_
    rw [gone_of_get he]
    refine testClose_setGateway_of_pending (by simpa using hlen) ?_
    obtain ⟨j, y, hj, hy, hopen⟩ | hq := h
    · exact .inl (pending_set hj hy hopen)
    · exact .inr hq
  · refine (gatewayDone_of_sending (by exact hg) he hstate).trans ?_
    rw [gone_of_get he]
    exact testClose_setGateway_of_settled (by simpa using hlen) (settled_set (by simp [Pending]) hlast) hempty hc hroom
  · refine (gatewayDone_of_waiting (by exact hg) he hstate).trans ((if_pos hz).trans ?_)
    refine testClose_setGateway_of_pending (by simpa using hlen) ?_
    obtain ⟨j, y, hj, hy, hopen⟩ | hq := h
    · exact .inl (pending_set hj hy hopen)
    · exact .inr hq
  · refine (gatewayDone_of_waiting (by exact hg) he hstate).trans ((if_pos hz).trans ?_)
    exact testClose_setGateway_of_settled (by simpa using hlen) (settled_set (by simp [Pending]) hlast) hempty hc hroom
  · rw [gateway_self hg]
    exact (gatewayDone_of_waiting (by exact hg) he hstate).trans (if_neg hz)
  · rw [gateway_self hg]
    exact gatewayDone_of_settled (by exact hg) he fun h => h.elim hn1 hn2

end Sys2Proof.Proofs

/-! The timers of the sender, of kept frames and of the gateway (R166, R167, R170 to R175). -/

namespace Sys2Proof.Proofs
open Sys2Proof Sys2Proof.Machine

/-! ## The sender's timers -/

section SenderTimers
variable {s : State} {k : Nat}

/-- Nothing is on the line, at the memory port or kept, and no block waits for a queue. -/
structure UploadQuiet (s : State) : Prop where
  sending : s.line.sending = none
  busy : s.memory.busy = none
  waiting : s.memory.waiting = []
  kept : s.upload.kept = []
  handAgain : s.upload.handAgainTimer = none
  settled : Settled s

theorem callExpiry_of_quiet (h : UploadQuiet s) (hst : s.upload.sender.state = .calling)
    (ht : s.upload.sender.callTimer = some k) :
    s.callExpiry = { s with
      upload := { s.upload with sender := Sender.ended s.upload.sender .noGateway }, port := uploadLatched s
      line := { s.line with
        u := s.line.u.filter fun n => !isClaim n, s := s.line.s.filter fun n => !isCall n } } := by
  unfold State.callExpiry
  rw [if_pos ⟨hst, by rw [ht]; rfl⟩, withdrawUpload_of_settled h.sending h.settled h.kept,
    withdrawUpload_of_settled (by exact h.sending) (by exact ⟨h.settled.1, h.settled.2, h.settled.3, h.settled.4⟩)
      (by exact h.kept), endSender_of_free (by exact h.waiting) (by exact h.busy)]
  simp only [← h.handAgain]
  rfl

theorem senderBeginExpiry_of_quiet (h : UploadQuiet s) (hst : s.upload.sender.state = .beginning)
    (ht : s.upload.sender.beginTimer = some k) :
    s.senderBeginExpiry = { s with
      upload := { s.upload with sender := Sender.ended s.upload.sender .incomplete }, port := uploadLatched s
      line := { s.line with s := s.line.s.filter fun n => !isBegin n } } := by
  unfold State.senderBeginExpiry
  rw [if_pos ⟨hst, by rw [ht]; rfl⟩, withdrawUpload_of_settled h.sending h.settled h.kept,
    endSender_of_free (by exact h.waiting) (by exact h.busy)]
  simp only [← h.handAgain]
  rfl

/-- The sender with a further try counted, its receipt timer running anew. -/
def retried (s : State) : State := s.mapSender fun y => { y with tries := y.tries + 1, receiptTimer := some 5000 }

/-- A further try of the block: a new copy, where none is queued or kept. -/
theorem receiptExpiry_of_try (ht : s.upload.sender.receiptTimer = some k) (hlt : s.upload.sender.tries < 8) :
    s.receiptExpiry = if s.queued .b isBlockFrame || s.upload.kept.any isBlockFrame then retried s
      else (retried s).toGateway (.uploadBlock s.upload.sender.block s.upload.sender.records) := by
  unfold State.receiptExpiry
  dsimp only
  rw [if_neg (by simp [ht]), if_pos (by exact hlt)]
  rfl

/-- After the eighth try the session ends. -/
theorem receiptExpiry_of_last (ht : s.upload.sender.receiptTimer = some k) (hle : 8 ≤ s.upload.sender.tries) :
    s.receiptExpiry = (s.withdrawUpload .b isBlockFrame).finishSender .incomplete := by
  unfold State.receiptExpiry
  dsimp only
  rw [if_neg (by simp [ht]), if_neg (by exact Nat.not_lt.mpr hle)]

theorem queued_block : s.queued .b isBlockFrame = true ↔ ∃ n ∈ s.line.b, kindCode n.body = 0x23 := by
  simp [State.queued, State.queueOf, isBlockFrame]

end SenderTimers

/-! ## The hand-again timer (R166) -/

theorem handAgain_of_one {s : State} {n : Notice} {k : Nat} (ht : s.upload.handAgainTimer = some k)
    (hk : s.upload.kept = [n]) (hg : s.upload.gateway = none) :
    s.handAgain = State.handUpload { s with upload := { s.upload with kept := [], handAgainTimer := none } } n := by
  have hgateway : ∀ {t : State}, t.upload.gateway = none → (t.handUpload n).upload.gateway = none := fun {t} ht => by
    cases hroom : t.room (kindClass n.body) with
    | true =>
      rw [handUpload_of_room hroom]
      cases kindClass n.body <;> exact ht
    | false =>
      simp only [State.handUpload, hand_of_full hroom]
      exact ht
  unfold State.handAgain
  rw [if_neg (by simp [ht]), hk]
  dsimp only [List.foldl_cons, List.foldl_nil]
  have hnone := hgateway (t := s.setUpload { s.upload with kept := [], handAgainTimer := none }) hg
  rw [hnone]
  rfl

theorem handUpload_of_full {s : State} {n : Notice} (h : s.room (kindClass n.body) = false) :
    s.handUpload n = { s with upload := { s.upload with
      kept := s.upload.kept ++ [n], handAgainTimer := s.upload.handAgainTimer.or (some 1000) } } := by
  simp only [State.handUpload, hand_of_full h]
  rfl

/-! ## The gateway's timers (R172, R174, R175) -/

section GatewayTimers
variable {s : State} {g : Gateway} {k : Nat}

/-- An entry that still waits for its BEGIN is GONE. -/
def lateEntry (e : GatewayEntry) : GatewayEntry :=
  if e.state = .waitingBegin then { e with state := .gone .late } else e

theorem gatewayBeginExpiry_of_timer (hg : s.upload.gateway = some g) (ht : g.beginTimer = some k) :
    s.gatewayBeginExpiry =
      (s.setGateway (some { g with entries := g.entries.map lateEntry, beginTimer := none })).testClose := by
  simp only [State.gatewayBeginExpiry, hg, ht, Option.isNone_some, Bool.false_eq_true, if_false]
  rfl

theorem pending_late_iff {e : GatewayEntry} : Pending (lateEntry e) ↔ e.state = .sending := by
  unfold lateEntry Pending
  split <;> simp_all

theorem gatewaySilence_of_timer {n : Nat} {e : GatewayEntry} (hg : s.upload.gateway = some g)
    (he : g.entries[n]? = some e) (ht : e.silenceTimer = some k) :
    s.gatewaySilence n = (s.setGateway (some (g.gone n .late))).testClose := by
  simp only [State.gatewaySilence, hg, entry_of_get he, ht, Option.isNone_some, Bool.false_eq_true, if_false]

theorem answerExpiry_of_timer (hg : s.upload.gateway = some g) (ht : g.answerTimer = some k)
    (hidle : s.upload.sender.state = .idle) (hu : s.line.u.length < 8) :
    s.answerExpiry = { s with
      upload := { s.upload with gateway := none }, port := uploadLatched s
      line := { s.line with u := s.line.u ++ [⟨0, 255, .uploadRefusal 2⟩] } } := by
  simp only [State.answerExpiry, hg, ht, Option.isNone_some, Bool.false_eq_true, if_false]
  rw [hand_of_room (by exact decide_eq_true hu), latchUpload_eq]
  refine (if_neg fun hh => ?_).trans rfl
  obtain ⟨-, hst⟩ := heeds_iff.mp hh
  have hstate : s.upload.sender.state = .beginning ∨ s.upload.sender.state = .reading ∨ s.upload.sender.state = .sending := hst
  simp [hidle] at hstate

end GatewayTimers

/-- Settles O51: the timers of the sender, of kept frames, and of the gateway. -/
theorem uploadTimersExpire : Obligations.UploadTimersExpire := by
  refine ⟨fun k s hsend hb hw hk hagain howed hbroad hreq hengine => ?_, fun k n s ht hk hg hclass => ?_,
    fun g k s hg hlen => ⟨fun ht hm => ?_, fun ht hn hq hc hroom => ?_, fun m e he ht hother => ?_,
      fun ht hidle hu => congrArg Host.Outcome.next (answerExpiry_of_timer hg ht hidle hu)⟩⟩
  · have quiet : UploadQuiet s := ⟨hsend, hb, hw, hk, hagain, ⟨howed, hbroad, hengine, hreq⟩⟩
    refine ⟨fun hst ht => congrArg Host.Outcome.next (callExpiry_of_quiet quiet hst ht),
      fun hst ht => congrArg Host.Outcome.next (senderBeginExpiry_of_quiet quiet hst ht), fun g hgate hne ht =>
      ⟨fun hlt hnone hroom => ?_, fun hlt hsome => ?_, fun hle hroom => ?_⟩⟩ <;> refine congrArg Host.Outcome.next ?_
    · rw [receiptExpiry_of_try ht hlt, if_neg ?_, toGateway_of_other (by exact hgate) (by exact hne),
        handUpload_of_room (by exact decide_eq_true hroom)]
      · rfl
      · rw [hk, List.any_nil, Bool.or_false, queued_block]
        exact fun ⟨n, hn, h⟩ => hnone n hn h
    · rw [receiptExpiry_of_try ht hlt, queued_block.mpr hsome]
      rfl
    · rw [receiptExpiry_of_last ht hle, withdrawUpload_of_settled hsend quiet.settled hk, State.finishSender,
        endSender_of_free (by exact hw) (by exact hb), toGateway_of_other (by exact hgate) (by exact hne),
        handUpload_of_room (by exact decide_eq_true hroom)]
      simp only [hagain]
      rfl
  · have hrun := handAgain_of_one ht hk hg
    refine ⟨fun hroom => congrArg Host.Outcome.next (hrun.trans ?_), fun hfull => congrArg Host.Outcome.next (hrun.trans ?_)⟩
    · rw [handUpload_of_room (by rw [hclass]; exact decide_eq_true hroom), hclass]
      rfl
    · rw [handUpload_of_full (by rw [hclass]; exact decide_eq_false (Nat.not_lt.mpr hfull))]
      rfl
  · obtain ⟨e, hmem, hst⟩ := hm
    refine congrArg Host.Outcome.next ((gatewayBeginExpiry_of_timer hg ht).trans
      (testClose_setGateway_of_pending (by simpa using hlen) (.inl ⟨(lateEntry e), List.mem_map_of_mem hmem, pending_late_iff.mpr hst⟩)))
  · refine congrArg Host.Outcome.next ((gatewayBeginExpiry_of_timer hg ht).trans
      (testClose_setGateway_of_settled (by simpa using hlen) (fun e hmem hpend => ?_) hq hc hroom))
    obtain ⟨e, hin, rfl⟩ := List.mem_map.mp hmem
    exact hn e hin (pending_late_iff.mp hpend)
  · obtain ⟨j, y, hj, hy, hst⟩ := hother
    refine congrArg Host.Outcome.next ((gatewaySilence_of_timer hg he ht).trans ?_)
    rw [gone_of_get he]
    exact testClose_setGateway_of_pending (by simpa using hlen) (.inl (pending_set hj hy (.inr hst)))

end Sys2Proof.Proofs

/-! The uplink's messages, and BEGIN and BLOCK frames at the gateway (R172 to R174). -/

namespace Sys2Proof.Proofs
open Sys2Proof Sys2Proof.Machine

/-! ## Messages (section 9.7) -/

/-- A message of the table's form: start byte, length and CRC-16. -/
structure Formed (bytes : List Byte) : Prop where
  start : natAt bytes 0 1 = 0x5C
  length : bytes.length = 5 + natAt bytes 2 1
  crc : (crc16 ((bytes.drop 1).take (2 + natAt bytes 2 1))).toNat = natAt bytes (3 + natAt bytes 2 1) 2

theorem head_of_start {bytes : List Byte} (h : natAt bytes 0 1 = 0x5C) : bytes.head? = some 0x5C#8 := by
  cases bytes with
  | nil => exact absurd h (by decide)
  | cons b bs => exact congrArg some (BitVec.eq_of_toNat_eq (y := 0x5C#8) ((natAt_cons_one b bs).symm.trans h))

section Message
variable {type : Nat} {body : List Byte}

theorem natAt_uplinkMessage_length (h : body.length < 256) : natAt (uplinkMessage type body) 2 1 = body.length := by
  unfold uplinkMessage
  rw [List.cons_append, List.cons_append, List.cons_append, natAt_cons_succ, natAt_cons_succ, natAt_cons_one, toNat_byteOf,
    Nat.mod_eq_of_lt h]

theorem natAt_uplinkMessage_type (h : type < 256) : natAt (uplinkMessage type body) 1 1 = type := by
  unfold uplinkMessage
  rw [List.cons_append, List.cons_append, natAt_cons_succ, natAt_cons_one, toNat_byteOf, Nat.mod_eq_of_lt h]

/-- The bytes after the length are the body's. -/
theorem natAt_uplinkMessage_body {i n : Nat} (h : i + n ≤ body.length) :
    natAt (uplinkMessage type body) (i + 3) n = natAt body i n := by
  unfold uplinkMessage
  rw [List.cons_append, List.cons_append, List.cons_append, natAt_cons_succ, natAt_cons_succ, natAt_cons_succ,
    natAt_append_left h]

theorem formed_uplinkMessage (h : body.length < 256) : Formed (uplinkMessage type body) := by
  refine ⟨?_, ?_, ?_⟩
  · rfl
  · rw [natAt_uplinkMessage_length h]
    simp [uplinkMessage]
    omega
  · rw [natAt_uplinkMessage_length h]
    unfold uplinkMessage
    dsimp only
    rw [natAt_append_right (by simp; omega), List.cons_append, List.drop_one, List.tail_cons,
      List.take_append_of_le_length (by simp; omega), List.take_of_length_le (by simp; omega)]
    simp only [List.length_cons]
    rw [show 3 + body.length - (body.length + 1 + 1 + 1) = 0 by omega, natAt_bytesOf,
      Nat.mod_eq_of_lt (by exact (crc16 _).isLt)]

end Message

/-! ## Answers to the head (R174) -/

section Answers
variable {s : State} {g : Gateway} {b : UplinkBlock} {rest : List UplinkBlock} {e : GatewayEntry} {bytes : List Byte}

/-- The answer timer runs, and the message names the head. -/
def NamesHead (g : Gateway) (b : UplinkBlock) (bytes : List Byte) : Prop :=
  g.answerTimer.isSome = true ∧ natAt bytes 3 1 = b.station ∧ natAt bytes 4 2 = b.block

/-- A message that is taken is an ACCEPT or a REJECT; any other is discarded. -/
theorem uplinkReceived_of_formed (hg : s.upload.gateway = some g) (hq : g.queue = b :: rest) (hf : Formed bytes)
    (hn : NamesHead g b bytes) :
    s.uplinkReceived bytes =
      if natAt bytes 1 1 = 0x81 ∧ natAt bytes 2 1 = 3 then s.uplinkAccept g b
      else if natAt bytes 1 1 = 0x82 ∧ natAt bytes 2 1 = 4 then s.uplinkReject g b (natAt bytes 6 1)
      else s := by
  obtain ⟨hstart, hlen, hcrc⟩ := hf
  obtain ⟨htimer, hstation, hblock⟩ := hn
  simp only [State.uplinkReceived, hg, hq]
  refine if_pos ?_
  simp only [Bool.and_eq_true, beq_iff_eq]
  exact ⟨⟨⟨hstart, hlen⟩, hcrc⟩, ⟨htimer, hstation⟩, hblock⟩

/-- What is taken has the table's form and names the head. -/
theorem uplinkReceived_eq_self (h : ∀ g b rest, s.upload.gateway = some g → g.queue = b :: rest → Formed bytes →
    NamesHead g b bytes → ¬ (natAt bytes 1 1 = 0x81 ∧ natAt bytes 2 1 = 3) ∧ ¬ (natAt bytes 1 1 = 0x82 ∧ natAt bytes 2 1 = 4)) :
    s.uplinkReceived bytes = s := by
  cases hg : s.upload.gateway with
  | none => simp only [State.uplinkReceived, hg]
  | some g =>
    cases hq : g.queue with
    | nil => simp only [State.uplinkReceived, hg, hq]
    | cons b rest =>
      by_cases hf : Formed bytes ∧ NamesHead g b bytes
      · obtain ⟨hform, hn⟩ := hf
        obtain ⟨h81, h82⟩ := h g b rest hg hq hform hn
        rw [uplinkReceived_of_formed hg hq hform hn, if_neg h81, if_neg h82]
      · simp only [State.uplinkReceived, hg, hq]
        refine if_neg fun hc => hf ?_
        simp only [Bool.and_eq_true, beq_iff_eq] at hc
        obtain ⟨⟨⟨hstart, hlen⟩, hcrc⟩, ⟨htimer, hstation⟩, hblock⟩ := hc
        exact ⟨⟨hstart, hlen, hcrc⟩, htimer, hstation, hblock⟩

theorem sendHead_of_empty (hg : s.upload.gateway = some g) (hq : g.queue = []) : s.sendHead = s := by
  simp only [State.sendHead, hg, hq]

theorem giveReceipt_of_room {n k : Nat} (hne : n ≠ s.number) (hu : s.line.u.length < 8) :
    s.giveReceipt n k = { s with line := { s.line with u := s.line.u ++ [⟨0, n, .uploadReceipt k⟩] } } := by
  rw [State.giveReceipt, if_neg hne, hand_of_room (by exact decide_eq_true hu)]
  rfl

theorem giveRefusal_of_room {n why : Nat} (hne : n ≠ s.number) (hu : s.line.u.length < 8) :
    s.giveRefusal n why = { s with line := { s.line with u := s.line.u ++ [⟨0, n, .uploadRefusal why⟩] } } := by
  rw [State.giveRefusal, if_neg hne, hand_of_room (by exact decide_eq_true hu)]
  rfl

/-- The entry of the head's station as an ACCEPT leaves it. -/
def acceptedEntry (b : UplinkBlock) (e : GatewayEntry) : GatewayEntry :=
  if b.block = e.expected then { e with last := b.block, state := .done, silenceTimer := none }
  else { e with last := b.block }

theorem uplinkAccept_of_last_queued (he : g.entries[b.station]? = some e) (hst : e.state = .sending)
    (hq : g.queue = [b]) (hlen : g.entries.length = 16) (hne : b.station ≠ s.number) (hu : s.line.u.length < 8)
    (hopen : ∃ y ∈ g.entries.set b.station (acceptedEntry b e), Pending y) :
    s.uplinkAccept g b = { s with
      upload := { s.upload with gateway := some { g with
        queue := [], answerTimer := none, entries := g.entries.set b.station (acceptedEntry b e) } }
      line := { s.line with u := s.line.u ++ [⟨0, b.station, .uploadReceipt b.block⟩] } } := by
  have htaken : { e with
      last := b.block, state := if decide (b.block = e.expected) then .done else .sending
      silenceTimer := if decide (b.block = e.expected) then none else e.silenceTimer } = acceptedEntry b e := by
    unfold acceptedEntry
    by_cases hlast : b.block = e.expected
    · rw [if_pos hlast, decide_eq_true hlast]
      rfl
    · rw [if_neg hlast, decide_eq_false hlast, ← hst]
      rfl
  unfold State.uplinkAccept
  dsimp only
  rw [entry_of_get he, if_pos hst, htaken, giveReceipt_of_room (by exact hne) (by exact hu),
    sendHead_of_empty (g := { g with
      queue := [], answerTimer := none, entries := g.entries.set b.station (acceptedEntry b e) }) ?_ rfl,
    testClose_of_pending (g := { g with
      queue := [], answerTimer := none, entries := g.entries.set b.station (acceptedEntry b e) }) ?_ (by simpa using hlen)
      (.inl hopen)]
  all_goals simp only [hq, List.drop_one, List.tail_cons, State.setGateway, State.setUpload, Gateway.setEntry]

theorem uplinkReject_of_last_queued {why : Nat} (he : g.entries[b.station]? = some e) (hst : e.state = .sending)
    (hq : g.queue = [b]) (hsend : g.sendingHead = false) (hlen : g.entries.length = 16) (hne : b.station ≠ s.number)
    (hu : s.line.u.length < 8)
    (hopen : ∃ y ∈ g.entries.set b.station { e with state := .gone .rejected, silenceTimer := none }, Pending y) :
    s.uplinkReject g b why = { s with
      upload := { s.upload with
        lastReject := why
        gateway := some { g with
          queue := [], answerTimer := none
          entries := g.entries.set b.station { e with state := .gone .rejected, silenceTimer := none } } }
      line := { s.line with u := s.line.u ++ [⟨0, b.station, .uploadRefusal 1⟩] } } := by
  have hgone : Gateway.gone { g with queue := g.queue.drop 1, answerTimer := none } b.station .rejected = { g with
      queue := [], answerTimer := none
      entries := g.entries.set b.station { e with state := .gone .rejected, silenceTimer := none } } := by
    rw [gone_of_get (e := e) (by exact he)]
    simp only [queueLeft, hq, hsend]
    rfl
  have hnot : (Gateway.entry { g with queue := g.queue.drop 1, answerTimer := none } b.station).state.isGone = false := by
    rw [entry_of_get (e := e) (by exact he), hst]
    rfl
  unfold State.uplinkReject
  dsimp only
  rw [if_neg (by exact Bool.eq_false_iff.mp hnot), hgone, giveRefusal_of_room (by exact hne) (by exact hu),
    sendHead_of_empty (by rfl) (by rfl), testClose_of_pending (by rfl) (by simpa using hlen) (.inl (by exact hopen))]
  rfl

end Answers

/-! ## BEGIN and BLOCK at the gateway (R172, R173) -/

section Frames
variable {s : State} {g : Gateway} {n : Nat} {e : GatewayEntry}

theorem gatewayBegin_of_waiting {count : Nat} (hg : s.upload.gateway = some g) (he : g.entries[n]? = some e)
    (hst : e.state = .waitingBegin) :
    s.gatewayBegin n count =
      if (count + 2) / 3 = 0 then
        (s.setGateway (some { g with entries := g.entries.set n { e with state := .done, expected := 0 } })).testClose
      else s.setGateway (some { g with
        entries := g.entries.set n { e with state := .sending, expected := (count + 2) / 3, silenceTimer := some 45000 } }) := by
  simp only [State.gatewayBegin, hg, entry_of_get he, hst]
  rfl

theorem gatewayBegin_of_begun {count : Nat} (hg : s.upload.gateway = some g) (he : g.entries[n]? = some e)
    (hst : e.state = .sending ∨ e.state = .done) : s.gatewayBegin n count = s := by
  obtain hst | hst := hst <;> simp only [State.gatewayBegin, hg, entry_of_get he, hst]

theorem gatewayBegin_of_gone {count : Nat} {why : GoneReason} (hg : s.upload.gateway = some g)
    (he : g.entries[n]? = some e) (hst : e.state = .gone why) : s.gatewayBegin n count = s.giveRefusal n (goneCode why) := by
  simp only [State.gatewayBegin, hg, entry_of_get he, hst]

/-- The session as a BLOCK of a sending entry restarts its silence timer. -/
def silenced (g : Gateway) (n : Nat) (e : GatewayEntry) : Gateway :=
  { g with entries := g.entries.set n { e with silenceTimer := some 45000 } }

theorem gatewayBlock_of_next {k : Nat} {records : List (List Byte)} (hg : s.upload.gateway = some g)
    (he : g.entries[n]? = some e) (hst : e.state = .sending) (hk : k = e.last + 1) :
    s.gatewayBlock n k records =
      if g.queue.length < 4 ∧ (g.queue.any fun b => b.station == n && b.block == k) = false then
        (s.setGateway (some { silenced g n e with queue := g.queue ++ [⟨n, k, records⟩] })).sendHead
      else s.setGateway (some (silenced g n e)) := by
  have hagain : (k == e.last && decide (0 < e.last)) = false := by simp; omega
  obtain ⟨_, _, _, _⟩ := e
  cases hst
  simp only [State.gatewayBlock, hg, entry_of_get he, hagain, Bool.false_eq_true, if_false]
  simp only [hk, true_and]
  rfl

theorem gatewayBlock_of_again {k : Nat} {records : List (List Byte)} (hg : s.upload.gateway = some g)
    (he : g.entries[n]? = some e) (hk : k = e.last) (h0 : 0 < e.last) :
    (e.state = .sending → s.gatewayBlock n k records = (s.setGateway (some (silenced g n e))).giveReceipt n k) ∧
    (e.state = .done → s.gatewayBlock n k records = s.giveReceipt n k) := by
  have hagain : (k == e.last && decide (0 < e.last)) = true := by simp [hk, h0]
  obtain ⟨_, _, _, _⟩ := e
  refine ⟨fun hst => ?_, fun hst => ?_⟩ <;> cases hst <;>
    simp only [State.gatewayBlock, hg, entry_of_get he, hagain, if_true]
  rfl

theorem sendHead_of_held (hg : s.upload.gateway = some g) (h : g.sendingHead = true ∨ g.answerTimer.isSome = true) :
    s.sendHead = s := by
  simp only [State.sendHead, hg]
  split
  · rfl
  · exact if_pos (by rw [Gateway.headInHand, Bool.or_eq_true]; exact h)

theorem sendHead_of_first {b : UplinkBlock} {rest : List UplinkBlock} (hg : s.upload.gateway = some g)
    (hq : g.queue = b :: rest) (hs : g.sendingHead = false) (ha : g.answerTimer = none) :
    s.sendHead = { s with upload := { s.upload with
      uplinkOut := b.message g.claimDay, gateway := some { g with sendingHead := true } } } := by
  simp only [State.sendHead, hg, hq]
  exact if_neg (by simp [Gateway.headInHand, hs, ha])

end Frames

/-- Settles O52: the head sent and answered, what is discarded, and the two frames. -/
theorem uplinkAnswersMoveTheQueue : Obligations.UplinkAnswersMoveTheQueue := by
  refine ⟨fun g s hg hsend => congrArg Host.Outcome.next ?_, fun g b e k s hg hq ht hsend hlen he hst hne hb hu => ?_,
    fun bytes s h => congrArg Host.Outcome.next (uplinkReceived_eq_self fun g b rest hg hq hf hn => ?_),
    fun f sender p g e s hst hr hgood hsender hne hp hpres hed hg hlen he => ?_⟩
  · simp only [State.uplinkSent, hg, hsend, if_true]
    rfl
  · have hstation : b.station < 16 := by
      obtain ⟨hlt, -⟩ := List.getElem?_eq_some_iff.mp he
      omega
    have names : ∀ (type : Nat) (tail : List Byte),
        NamesHead g b (uplinkMessage type (byteOf b.station :: (bytesOf 2 b.block ++ tail))) := fun type tail => by
      refine ⟨by rw [ht]; rfl, ?_, ?_⟩
      · rw [natAt_uplinkMessage_body (i := 0) (by simp), natAt_cons_one, toNat_byteOf, Nat.mod_eq_of_lt (by omega)]
      · rw [natAt_uplinkMessage_body (i := 1) (by simp), natAt_cons_succ, natAt_append_left (by simp),
          natAt_bytesOf, Nat.mod_eq_of_lt (by omega)]
    have haccept : s.uplinkReceived (uplinkMessage 0x81 (byteOf b.station :: bytesOf 2 b.block)) = s.uplinkAccept g b := by
      have hn := names 0x81 []
      rw [List.append_nil] at hn
      rw [uplinkReceived_of_formed hg hq (formed_uplinkMessage (by simp)) hn, if_pos
        ⟨natAt_uplinkMessage_type (by decide), natAt_uplinkMessage_length (by simp)⟩]
    have hreject : ∀ why, why < 256 → s.uplinkReceived
        (uplinkMessage 0x82 (byteOf b.station :: bytesOf 2 b.block ++ [byteOf why])) = s.uplinkReject g b why := fun why hwhy => by
      have htype : natAt (uplinkMessage 0x82 (byteOf b.station :: bytesOf 2 b.block ++ [byteOf why])) 1 1 = 0x82 :=
        natAt_uplinkMessage_type (by decide)
      have hreason : natAt (uplinkMessage 0x82 (byteOf b.station :: bytesOf 2 b.block ++ [byteOf why])) 6 1 = why := by
        rw [natAt_uplinkMessage_body (i := 3) (by simp), natAt_append_right (by simp)]
        simp only [List.length_cons, length_bytesOf, Nat.sub_self]
        rw [natAt_cons_one, toNat_byteOf, Nat.mod_eq_of_lt hwhy]
      rw [uplinkReceived_of_formed hg hq (formed_uplinkMessage (by simp)) (by exact names 0x82 [byteOf why]),
        if_neg (by rw [htype]; rintro ⟨⟨⟩, _⟩), if_pos ⟨htype, natAt_uplinkMessage_length (by simp)⟩, hreason]
    obtain ⟨hlt, -⟩ := List.getElem?_eq_some_iff.mp he
    refine ⟨fun hlast => congrArg Host.Outcome.next (haccept.trans ?_),
      fun j x hlast hj hx hxst => congrArg Host.Outcome.next (haccept.trans ?_),
      fun why j x hwhy hj hx hxst => congrArg Host.Outcome.next ((hreject why hwhy).trans
        (uplinkReject_of_last_queued he hst hq hsend hlen hne hu (pending_set hj hx (.inr hxst))))⟩
    · rw [uplinkAccept_of_last_queued he hst hq hlen hne hu, acceptedEntry, if_neg hlast]
      refine ⟨_, List.mem_set hlt _, .inr ?_⟩
      rw [acceptedEntry, if_neg hlast]
      exact hst
    · rw [uplinkAccept_of_last_queued he hst hq hlen hne hu (pending_set hj hx (.inr hxst)), acceptedEntry, if_pos hlast]
  · obtain ⟨hstart, hlen, hcrc⟩ := hf
    obtain ⟨htimer, hstation, hblock⟩ := hn
    obtain h | ⟨h81, h82⟩ | ⟨h81, hl⟩ | ⟨h82, hl⟩ | h | h | h := h
    · exact absurd (head_of_start hstart) h
    · exact ⟨fun hc => h81 hc.1, fun hc => h82 hc.1⟩
    · exact ⟨fun hc => hl hc.2, fun hc => absurd (h81.symm.trans hc.1) (by decide)⟩
    · exact ⟨fun hc => absurd (h82.symm.trans hc.1) (by decide), fun hc => hl hc.2⟩
    · exact absurd hlen h
    · exact absurd hcrc h
    · obtain h | h | h := h g b rest hg hq
      · rw [h] at htimer
        cases htimer
      · exact absurd hstation h
      · exact absurd hblock h
  · have heard : HeardFrom f sender p s := ⟨hst, hr, hgood, hsender, hne, hp, hpres, hed⟩
    refine ⟨fun first count hbody hmine => ?_, fun k records hbody hmine => ?_, fun hkind hother => congrArg Host.Outcome.next ?_⟩
    · have hrun : s.frameEnded f = (heardState s sender p).gatewayBegin sender count :=
        (heard.handsOn hbody (by rfl) (.inl (by rfl)) (by rfl)).trans (if_pos (by exact beq_iff_eq.mpr hmine))
      refine ⟨fun hw hc => ?_, fun hw hc j x hj hx hxst => ?_, fun h => ?_, fun why hgone hu => ?_⟩ <;>
        refine congrArg Host.Outcome.next (hrun.trans ?_)
      · exact (gatewayBegin_of_waiting (by exact hg) he hw).trans (if_neg (by omega))
      · refine (gatewayBegin_of_waiting (by exact hg) he hw).trans ((if_pos (by omega)).trans ?_)
        exact testClose_setGateway_of_pending (by simpa using hlen) (.inl (pending_set hj hx (.inr hxst)))
      · rw [gateway_self hg]
        exact gatewayBegin_of_begun (by exact hg) he h
      · rw [gateway_self hg, gatewayBegin_of_gone (by exact hg) he hgone, giveRefusal_of_room (by exact hne) (by exact hu)]
        cases why <;> rfl
    · have hrun : s.frameEnded f = (heardState s sender p).gatewayBlock sender k records :=
        (heard.handsOn hbody (by rfl) (.inl (by rfl)) (by rfl)).trans (if_pos (by exact beq_iff_eq.mpr hmine))
      refine ⟨fun hsending hk => ⟨fun hroom hnone hq hheld => ?_, fun hq hsend ht => ?_, fun hfull => ?_⟩,
        fun hk h0 hu => ⟨fun hsending => ?_, fun hdone => ?_⟩⟩ <;> refine congrArg Host.Outcome.next (hrun.trans ?_)
      · have hany : (g.queue.any fun b => b.station == sender && b.block == k) = false := by
          simpa [imp_iff_not_or] using hnone
        refine (gatewayBlock_of_next (by exact hg) he hsending hk).trans ((if_pos ⟨hroom, hany⟩).trans ?_)
        exact sendHead_of_held rfl hheld
      · refine (gatewayBlock_of_next (by exact hg) he hsending hk).trans ((if_pos (by rw [hq]; exact ⟨by decide, rfl⟩)).trans ?_)
        rw [hq]
        exact (sendHead_of_first rfl rfl (by exact hsend) (by exact ht)).trans rfl
      · exact (gatewayBlock_of_next (by exact hg) he hsending hk).trans (if_neg fun h => by omega)
      · obtain ⟨hrestart, -⟩ := gatewayBlock_of_again (s := heardState s sender p) (records := records) hg he hk h0
        exact (hrestart hsending).trans (giveReceipt_of_room (by exact hne) (by exact hu))
      · obtain ⟨-, hanswer⟩ := gatewayBlock_of_again (s := heardState s sender p) (records := records) hg he hk h0
        rw [gateway_self hg]
        exact (hanswer hdone).trans (giveReceipt_of_room (by exact hne) (by exact hu))
    · have hnot : ¬ (natAt f.bytes 6 1 == s.number) = true := mt beq_iff_eq.mp hother
      rw [gateway_self hg]
      obtain ⟨a, b, hbody⟩ | ⟨a, b, hbody⟩ := hkind
      · exact (heard.handsOn hbody (by rfl) (.inl (by rfl)) (by rfl)).trans (if_neg (by exact hnot))
      · exact (heard.handsOn hbody (by rfl) (.inl (by rfl)) (by rfl)).trans (if_neg (by exact hnot))

end Sys2Proof.Proofs

/-! Lane commands: the mode, the end of a session, and a keyed entry (R20 to R27). -/

namespace Sys2Proof.Proofs
open Sys2Proof Sys2Proof.Machine

/-! ## Commands that name a lane (R180) -/

section Named
variable {s : State} {l : LaneId}

theorem withLane_laneCode (n : Nat) (f : LaneId → State → State × Reply) (s : State) :
    withLane (byteOf (laneCode l)) n f s = f l s := by cases l <;> rfl

theorem withLane_of_large {b : Byte} (h : 1 < b.toNat) (n : Nat) (f : LaneId → State → State × Reply) (s : State) :
    withLane b n f s = (s, refused 8 n) := by
  have h0 : b ≠ 0 := by rintro rfl; exact absurd h (by decide)
  have h1 : b ≠ 1 := by rintro rfl; exact absurd h (by decide)
  simp only [withLane, laneOfByte, h0, h1, if_false]

theorem modeOfByte_code (m : LaneMode) : modeOfByte (byteOf m.code) = some m := by cases m <;> rfl

theorem modeOfByte_of_large {b : Byte} (h : 3 < b.toNat) : modeOfByte b = none := by
  have hne : ∀ k : Byte, k.toNat ≤ 3 → b ≠ k := fun k hk hb => by rw [hb] at h; omega
  simp only [modeOfByte, hne 0 (by decide), hne 1 (by decide), hne 2 (by decide), hne 3 (by decide), if_false]

/-- A served command that leaves another state than it found. -/
theorem take_replies {t : State} (hs : s.serves = true) {n : Nat} {f : State → State × Reply} {r : Reply}
    (hf : f s.commandStatus = (t, r)) : s.take n f = t.replied (r.code :: r.bytes) r.effect := by
  rw [State.take_serves s n f hs, hf, State.answer_eq]

theorem mapLane_port (s : State) (l : LaneId) (f : LaneCtl → LaneCtl) (p : Port) :
    State.mapLane { s with port := p } l f = { s.mapLane l f with port := p } := by cases l <;> rfl

theorem lane_port (s : State) (l : LaneId) (p : Port) : State.lane { s with port := p } l = s.lane l := by
  cases l <;> rfl

theorem mapLane_self {f : LaneCtl → LaneCtl} (h : f (s.lane l) = s.lane l) : s.mapLane l f = s := by
  rw [State.mapLane, h]
  cases l <;> rfl

theorem mapLane_mapLane (s : State) (l : LaneId) (f g : LaneCtl → LaneCtl) :
    (s.mapLane l f).mapLane l g = s.mapLane l (g ∘ f) := by cases l <;> rfl

end Named

/-! ## The offer in a slot (R22) -/

section Slot
variable {s : State} {l : LaneId}

/-- A lane takes no offer from an empty slot, nor while it is not free. -/
theorem takeSlot_of_waiting (h : (s.lane l).slot = none ∨ (s.lane l).free = false) : s.takeSlot l = s := by
  unfold State.takeSlot
  split
  · next o ho =>
    obtain h | h := h
    · rw [ho] at h
      cases h
    · exact if_neg (by simp [h])
  · rfl

/-- A lane in REPORTING, or a free one with an empty slot. -/
def Quiet (c : LaneCtl) : Prop := c.state = .reporting ∨ ((c.state = .idle ∨ c.state = .session) ∧ c.slot = none)

theorem Quiet.waits (h : Quiet (s.lane l)) : (s.lane l).slot = none ∨ (s.lane l).free = false := by
  obtain h | ⟨-, h⟩ := h
  · exact .inr (by simp [LaneCtl.free, h])
  · exact .inl h

/-- A session ended by command leaves the slot as it waits. -/
theorem endSessionNow_of_quiet (h : Quiet (s.lane l)) : s.endSessionNow l = s.endSession l := by
  obtain ⟨session, timer, hl⟩ := lane_endSession s l
  refine takeSlot_of_waiting ?_
  rw [hl]
  obtain h | ⟨-, h⟩ := h
  · exact .inr (by simp [LaneCtl.free, h])
  · exact .inl h

theorem endSession_of_closed (hs : (s.lane l).session = none) (hp : (s.lane l).endPending = false) :
    s.endSession l = s := by
  rw [endSession_of_none hs]
  exact mapLane_self (by rw [← hp])

/-! ## LANE MODE and END SESSION (R20, R27) -/

theorem changeMode_of_none (hs : (s.lane l).session = none) (hp : (s.lane l).endPending = false) (m : LaneMode) :
    s.changeMode l m = s.mapLane l fun c => { c with mode := m } := by
  unfold State.changeMode
  split
  · next hm => exact (mapLane_self (by rw [← hm])).symm
  · rw [endSession_of_closed hs hp]

theorem changeMode_quiet (h : Quiet (s.lane l)) (m : LaneMode) : (s.changeMode l m).takeSlot l = s.changeMode l m := by
  refine takeSlot_of_waiting ?_
  unfold State.changeMode
  split
  · exact h.waits
  · obtain ⟨session, timer, hl⟩ := lane_endSession s l
    rw [State.lane_mapLane, hl]
    obtain h | ⟨-, h⟩ := h
    · exact .inr (by simp [LaneCtl.free, h])
    · exact .inl h

theorem laneMode_of_quiet (h : Quiet (s.lane l)) (m : LaneMode) :
    laneModeCommand l (byteOf m.code) s = (s.changeMode l m, ok) := by
  simp only [laneModeCommand, modeOfByte_code, changeMode_quiet h]
  obtain h | ⟨h | h, -⟩ := h <;> rw [h]

theorem laneMode_of_busy (h : (s.lane l).state = .checking ∨ (s.lane l).state = .working) (m : LaneMode) :
    laneModeCommand l (byteOf m.code) s = (s, busyReply 0) := by
  simp only [laneModeCommand, modeOfByte_code]
  obtain h | h := h <;> rw [h]

theorem laneMode_of_closed (h : (s.lane l).state = .closed) (m : LaneMode) :
    laneModeCommand l (byteOf m.code) s = (s, s.closedReply 0) := by
  simp only [laneModeCommand, modeOfByte_code]
  rw [h]

theorem closedReply_of_station (h : s.station ≠ .ready) : s.closedReply 0 = refused 1 0 := if_pos (by simpa using h)

theorem closedReply_of_ready (h : s.station = .ready) : s.closedReply 0 = refused 7 0 := if_neg (by simpa using h)

theorem endSession_command_of_quiet (h : Quiet (s.lane l)) : endSessionCommand l s = (s.endSession l, ok) := by
  unfold endSessionCommand
  rw [endSessionNow_of_quiet h]
  obtain h | ⟨h | h, -⟩ := h <;> rw [h]

theorem endSession_command_of_busy (h : (s.lane l).state = .checking ∨ (s.lane l).state = .working) :
    endSessionCommand l s = (s.mapLane l fun c => { c with endPending := true }, ok) := by
  unfold endSessionCommand
  obtain h | h := h <;> rw [h]

end Slot

/-- Settles O20: LANE MODE, END SESSION, and the idle timer. -/
theorem laneModeAndEndSession : Obligations.LaneModeAndEndSession := by
  refine ⟨fun l m s hs => ⟨fun hq => ⟨fun hn hp => ?_, fun hm => ?_, fun hss hne => ?_⟩, fun hb => ?_, fun hc hst => ?_,
    fun hc hst => ?_, fun b hb => ?_, fun b x hb => ?_⟩, fun l s hs => ⟨fun hq => ⟨fun hss => ?_, fun hn hp => ?_⟩,
    fun hb => ?_, fun hc hst => ?_⟩, fun l k s hk hss hq => ?_⟩ <;> refine congrArg Host.Outcome.next ?_
  · refine take_changes hs (t := s.mapLane l fun c => { c with mode := m }) (r := ok) fun p => ?_
    rw [withLane_laneCode, laneMode_of_quiet (by rw [lane_port]; exact hq),
      changeMode_of_none (by rw [lane_port, hn]) (by rw [lane_port, hp]), mapLane_port]
  · refine take_answers hs (r := ok) ?_
    rw [withLane_laneCode, laneMode_of_quiet (by rw [State.commandStatus_lane]; exact hq), State.changeMode,
      if_pos (by rw [State.commandStatus_lane, hm])]
  · refine take_replies hs (r := ok) ?_
    rw [withLane_laneCode, laneMode_of_quiet (by rw [State.commandStatus_lane]; exact hq), State.changeMode,
      if_neg (by rw [State.commandStatus_lane]; exact hne)]
  · refine take_answers hs (r := busyReply 0) ?_
    rw [withLane_laneCode, laneMode_of_busy (by rw [State.commandStatus_lane]; exact hb)]
  · refine take_answers hs (r := refused 1 0) ?_
    rw [withLane_laneCode, laneMode_of_closed (by rw [State.commandStatus_lane, hc]),
      closedReply_of_station (by rw [State.commandStatus_station]; exact hst)]
  · refine take_answers hs (r := refused 7 0) ?_
    rw [withLane_laneCode, laneMode_of_closed (by rw [State.commandStatus_lane, hc]),
      closedReply_of_ready (by rw [State.commandStatus_station, hst])]
  · refine take_answers hs (r := refused 9 0) ?_
    rw [withLane_laneCode, laneModeCommand, modeOfByte_of_large hb]
  · exact take_answers hs (r := refused 8 0) (withLane_of_large hb _ _ _)
  · refine take_replies hs (r := ok) ?_
    rw [withLane_laneCode, endSession_command_of_quiet (by rw [State.commandStatus_lane]; exact hq)]
  · refine take_answers hs (r := ok) ?_
    rw [withLane_laneCode, endSession_command_of_quiet (by rw [State.commandStatus_lane]; exact hq),
      endSession_of_closed (by rw [State.commandStatus_lane, hn]) (by rw [State.commandStatus_lane, hp])]
  · refine take_changes hs (t := s.mapLane l fun c => { c with endPending := true }) (r := ok) fun p => ?_
    rw [withLane_laneCode, endSession_command_of_busy (by rw [lane_port]; exact hb), mapLane_port]
  · refine take_answers hs (r := refused 7 0) ?_
    rw [withLane_laneCode, endSessionCommand, State.commandStatus_lane, hc,
      closedReply_of_ready (by rw [State.commandStatus_station, hst])]
  · refine (if_pos (by rw [hk]; rfl)).trans ?_
    refine endSessionNow_of_quiet ?_
    rw [State.lane_mapLane]
    exact hq.imp id fun h => ⟨.inr h.1, h.2⟩

/-! ## A result written with nothing in hand (R44) -/

section Reporting
variable {s : State} {l : LaneId} {src : Source} {r : Result}

/-- A transaction that has no entry in hand. -/
def NoEntry (t : Option Txn) : Prop := ∀ x, t = some x → x.operation = .inquire ∨ x.borrower = none

theorem dropTxnEntry_of_noEntry {t : Option Txn} (h : NoEntry t) : s.dropTxnEntry l t = s := by
  cases t with
  | none => rfl
  | some x =>
    obtain h | h := h x rfl
    · simp only [State.dropTxnEntry, h, if_true]
    · simp only [State.dropTxnEntry, h, ite_self]

/-- A result written with no entry in hand and no end of session pending. -/
theorem writeResult_eq_reporting (ht : NoEntry (s.lane l).txn) (hp : (s.lane l).endPending = false) :
    s.writeResult l src r = s.reporting l src r := by
  obtain ⟨timer, hl⟩ := idleTimer_reported s l src r
  rw [writeResult_eq, hl, if_neg (by simp [hp])]
  rw [reported, dropTxnEntry_of_noEntry ht, latch_of_ne (by cases l <;> decide)]
  simp only [State.reporting]
  cases l <;> cases src with
  | wand w => cases w <;> cases r.cls <;> rfl
  | keyed => cases r.cls <;> rfl
  | port => cases r.cls <;> rfl

end Reporting

/-! ## KEYED ENTRY (R24) -/

section Keyed
variable {s : State} {l : LaneId}

/-- Work that a lane does not take an offer from. -/
def Working (c : LaneCtl) : Prop := c.state = .checking ∨ c.state = .working ∨ c.state = .reporting

theorem offer_of_working {o : Offer} (h : Working (s.lane l)) : s.offer l o = s.offerBusy l o := by
  unfold State.offer
  obtain h | h | h := h <;> rw [h]

theorem offer_of_free {o : Offer} (h : (s.lane l).state = .idle ∨ (s.lane l).state = .session) :
    s.offer l o = s.takeOffer l o := by
  unfold State.offer
  obtain h | h := h <;> rw [h]

/-- A keyed offer at a working lane is kept in an empty slot, and turned away by a full one. -/
theorem offerBusy_keyed {o : Offer} (hk : o.kind ≠ .deskCommand 20) (hsrc : o.source = .keyed) : s.offerBusy l o =
    if (s.lane l).slot.isSome then s else s.mapLane l fun c => { c with slot := some o } := by
  unfold State.offerBusy
  rw [if_neg (by exact hk)]
  cases (s.lane l).slot with
  | none => rfl
  | some x =>
    rw [hsrc]
    rfl

theorem keyedCode_of_working {o : Offer} (h : Working (s.lane l)) (hk : o.kind ≠ .deskCommand 20) :
    s.keyedCode l o = if (s.lane l).slot.isSome then busyReply 0 else ok := by
  unfold State.keyedCode
  dsimp only
  obtain h | h | h := h <;> rw [h] <;> exact if_neg (by exact hk)

theorem keyedCode_of_closed {o : Offer} (h : (s.lane l).state = .closed) : s.keyedCode l o = s.closedReply 0 := by
  unfold State.keyedCode
  dsimp only
  rw [h]

theorem offer_keyed_of_closed {ds : List Nat} (h : (s.lane l).state = .closed) : s.offer l (offerOf .keyed ds) = s := by
  unfold State.offer
  rw [h]
  rfl

theorem keyedCode_of_free {o : Offer} (h : (s.lane l).state = .idle ∨ (s.lane l).state = .session) :
    s.keyedCode l o = ok := by
  unfold State.keyedCode
  dsimp only
  obtain h | h := h <;> rw [h]

/-- The entry is one of 6 or 14 decimal digits with a good check digit. -/
def ValidEntry (n : Byte) (ds : List Nat) : Prop :=
  (n = 6 ∨ n = 14) ∧ (∀ d ∈ ds, d ≤ 9) ∧ ds.getLast? = some (checkDigit ds.dropLast)

theorem validEntry_iff {n : Byte} {ds : List Nat} :
    ((n.toNat = 6 ∨ n.toNat = 14) ∧ allDecimal ds = true ∧ checkHolds ds = true) ↔ ValidEntry n ds := by
  have hn : ∀ k : Byte, n.toNat = k.toNat ↔ n = k := fun k => ⟨BitVec.eq_of_toNat_eq, fun h => by rw [h]⟩
  rw [show (6 : Nat) = (6 : Byte).toNat from rfl, show (14 : Nat) = (14 : Byte).toNat from rfl, hn, hn]
  simp [ValidEntry, allDecimal, checkHolds]

theorem keyedEntry_of_valid {n : Byte} {digits : BitVec 56} (h : ValidEntry n ((halfBytes 14 digits.toNat).take n.toNat)) :
    keyedEntryCommand l n digits s =
      (s.offer l (offerOf .keyed ((halfBytes 14 digits.toNat).take n.toNat)),
        s.keyedCode l (offerOf .keyed ((halfBytes 14 digits.toNat).take n.toNat))) := if_pos (validEntry_iff.mpr h)

theorem keyedEntry_of_bad {n : Byte} {digits : BitVec 56} (h : ¬ ValidEntry n ((halfBytes 14 digits.toNat).take n.toNat)) :
    keyedEntryCommand l n digits s = (s, refused 9 0) := if_neg (mt validEntry_iff.mp h)

/-- A mode label puts its mode with a COMMAND result. -/
theorem takeOffer_of_mode {ds : List Nat} (m : LaneMode) (hss : (s.lane l).session = none)
    (hp : (s.lane l).endPending = false) (ht : (s.lane l).txn = none) :
    s.takeOffer l ⟨.keyed, .deskCommand (10 + m.code), ds⟩ = { s.mapLane l fun c => { c with
        mode := m, state := .reporting, txn := none, unread := true, trapWait := none, blockWait := none
        idleTimer := none
        result := { Result.blank l with operation := .command, cls := .done, mode := m } } with
      port := { s.port with pending := s.port.pending ||| causeBit (causeResult l) } } := by
  have htake : s.takeOffer l ⟨.keyed, .deskCommand (10 + m.code), ds⟩ =
      (s.changeMode l m).reportNow l .keyed .command .done .none := by cases m <;> rfl
  rw [htake, changeMode_of_none hss hp, State.reportNow, writeResult_eq_reporting
    (by rw [State.lane_mapLane, ht]; exact fun x hx => nomatch hx) (by rw [State.lane_mapLane, hp])]
  simp only [State.reporting, State.plainResult, mapLane_mapLane, State.lane_mapLane]
  cases l with
  | a =>
    have hnone : s.laneA.session = none := hss
    simp only [State.mapLane, State.setLane, State.lane, Function.comp_apply, hnone]
    rfl
  | b =>
    have hnone : s.laneB.session = none := hss
    simp only [State.mapLane, State.setLane, State.lane, Function.comp_apply, hnone]
    rfl

end Keyed

/-- Settles O21: the entry's form, then the lane's state. -/
theorem keyedEntryOffersALabel : Obligations.KeyedEntryOffersALabel := by
  intro l n digits s hs
  refine ⟨fun hbad => ?_, fun hv hk hw => ⟨fun hslot => ?_, fun hslot => ?_⟩, fun hv hc => ?_, fun hv hfree => ?_,
    fun m hv hidle hss hp ht hk => ?_⟩ <;> refine congrArg Host.Outcome.next ?_
  · refine take_answers hs (r := refused 9 0) ?_
    rw [withLane_laneCode, keyedEntry_of_bad hbad]
  · refine take_changes hs (t := s.mapLane l fun c => { c with slot := some ⟨.keyed, labelKind _, _⟩ }) (r := ok) fun p => ?_
    have hwork : Working (State.lane { s with port := p } l) := by rw [lane_port]; exact hw
    rw [withLane_laneCode, keyedEntry_of_valid hv, offer_of_working hwork, offerBusy_keyed hk rfl,
      keyedCode_of_working hwork hk, lane_port, hslot, mapLane_port]
    rfl
  · refine take_answers hs (r := busyReply 0) ?_
    have hwork : Working (s.commandStatus.lane l) := by rw [State.commandStatus_lane]; exact hw
    rw [withLane_laneCode, keyedEntry_of_valid hv, offer_of_working hwork, offerBusy_keyed hk rfl,
      keyedCode_of_working hwork hk, State.commandStatus_lane, if_pos hslot, if_pos hslot]
  · refine (take_answers hs (r := s.closedReply 0) ?_).trans ?_
    · have hclosed : (s.commandStatus.lane l).state = .closed := by rw [State.commandStatus_lane, hc]
      rw [withLane_laneCode, keyedEntry_of_valid hv, offer_keyed_of_closed hclosed, keyedCode_of_closed hclosed,
        State.closedReply, State.commandStatus_station]
      rfl
    · by_cases hst : s.station = .ready
      · rw [closedReply_of_ready hst, if_pos hst]
        rfl
      · rw [closedReply_of_station hst, if_neg hst]
        rfl
  · refine take_replies hs (r := ok) ?_
    have hopen : (s.commandStatus.lane l).state = .idle ∨ (s.commandStatus.lane l).state = .session := by
      rwa [State.commandStatus_lane]
    rw [withLane_laneCode, keyedEntry_of_valid hv, offer_of_free hopen, keyedCode_of_free hopen]
    rfl
  · have hopen : (s.lane l).state = .idle ∨ (s.lane l).state = .session := .inl hidle
    refine take_latches hs (t := s.mapLane l fun c => { c with
      mode := m, state := .reporting, txn := none, unread := true, trapWait := none, blockWait := none
      idleTimer := none
      result := { Result.blank l with operation := .command, cls := .done, mode := m } }) (r := ok) fun p hpend => ?_
    rw [withLane_laneCode, keyedEntry_of_valid hv, offer_of_free (by rw [lane_port]; exact hopen),
      keyedCode_of_free (by rw [lane_port]; exact hopen), offerOf, hk,
      takeOffer_of_mode m (by rw [lane_port, hss]) (by rw [lane_port, hp]) (by rw [lane_port, ht]), mapLane_port]
    simp only [hpend]

end Sys2Proof.Proofs

/-! How a lane's work ends: the entry that goes out of hand, the result written, and what a transaction with no trap
and no frame gives back (R29, R43, R44). -/

namespace Sys2Proof.Proofs
open Sys2Proof Sys2Proof.Machine

/-! ## Entries but for hands and uses (R29, R68) -/

/-- The same entry, but for the lanes that have it in hand, and its last use. -/
def Handled (e e' : Entry) : Prop := e' = { e with handA := e'.handA, handB := e'.handB, lastUse := e'.lastUse }

namespace Handled

theorem refl (e : Entry) : Handled e e := Eq.refl e

theorem trans {e f g : Entry} (h : Handled e f) (h' : Handled f g) : Handled e g := by
  rw [Handled] at *
  rw [h', h]

theorem used (e : Entry) (n : Nat) : Handled e { e with lastUse := n } := by rfl

theorem setHand (e : Entry) (l : LaneId) (v : Bool) : Handled e (e.setHand l v) := by cases l <;> rfl

theorem setReserved {e f : Entry} (h : Handled e f) (l : LaneId) (v : Bool) :
    Handled (e.setReserved l v) (f.setReserved l v) := by
  rw [Handled] at *
  rw [h]
  cases l <;> rfl

variable {e f : Entry} (h : Handled e f)
include h

theorem roll : f.roll = e.roll := by rw [h]
theorem own : f.own = e.own := by rw [h]
theorem peers : f.peers = e.peers := by rw [h]
theorem count : f.count = e.count := by rw [h]; rfl
theorem balance : f.balance = e.balance := by rw [h]; rfl
theorem reserved (l : LaneId) : f.reserved l = e.reserved l := by rw [h]; cases l <;> rfl
theorem blockSet (today : Nat) : f.blockSet today = e.blockSet today := by rw [h]; rfl
theorem blocked : f.blocked = e.blocked := by rw [h]; rfl
theorem reservations : f.reservations = e.reservations := by rw [h]; rfl
theorem record (why : BlockReason) : f.record why = e.record why := by rw [h]; cases why <;> rfl

end Handled

@[simp] theorem setReserved_borrower (e : Entry) (l : LaneId) (v : Bool) : (e.setReserved l v).borrower = e.borrower := by
  cases l <;> rfl

@[simp] theorem reserved_setReserved (e : Entry) (l : LaneId) (v : Bool) : (e.setReserved l v).reserved l = v := by
  cases l <;> rfl

@[simp] theorem reserved_setReserved_other (e : Entry) (l : LaneId) (v : Bool) :
    (e.setReserved l v).reserved (otherLane l) = e.reserved (otherLane l) := by cases l <;> rfl

theorem setReserved_setReserved (e : Entry) (l : LaneId) (v w : Bool) :
    (e.setReserved l v).setReserved l w = e.setReserved l w := by cases l <;> rfl

/-- The table holds this entry of a borrower, but for hands and uses. -/
def HoldsEntry (s : State) (b : Nat) (e : Entry) : Prop := ∃ f, s.entry? b = some f ∧ Handled e f

section Entries
variable {s : State} {b c : Nat} {e : Entry} {f : Entry → Entry}

theorem HoldsEntry.of_entry (h : s.entry? b = some e) : HoldsEntry s b e := ⟨e, h, .refl e⟩

theorem HoldsEntry.of_standing {t : State} (h : HoldsEntry s b e) (ht : t.standing.entries = s.standing.entries) :
    HoldsEntry t b e := by
  rw [HoldsEntry, State.entry?, ht]
  exact h

theorem entry?_mapEntry_of_ne (hf : ∀ e, (f e).borrower = e.borrower) (h : c ≠ b) :
    (s.mapEntry b f).entry? c = s.entry? c := by
  have hp : (fun e : Entry => (if e.borrower = b then f e else e).borrower == c) = fun e => e.borrower == c := by
    funext e
    split
    · rw [hf]
    · rfl
  simp only [State.entry?, State.mapEntry, State.setStanding_standing, List.find?_map, Function.comp_def, hp]
  cases hfind : s.standing.entries.find? (·.borrower == c) with
  | none => rfl
  | some e =>
    have he : e.borrower = c := entry?_borrower hfind
    simp [show e.borrower ≠ b by omega]

theorem entry?_useEntry_of_ne (hf : ∀ e, (f e).borrower = e.borrower) (h : c ≠ b) :
    (s.useEntry b f).entry? c = s.entry? c := by
  cases hb : s.entry? b with
  | none => rw [useEntry_of_none hb]
  | some e =>
    rw [useEntry_of_some hb]
    exact entry?_mapEntry_of_ne (f := fun e => { f e with lastUse := s.standing.uses + 1 }) hf h

theorem useEntry_standing (s : State) (b : Nat) (f : Entry → Entry) :
    (s.useEntry b f).standing.incomplete = s.standing.incomplete ∧
      (s.useEntry b f).standing.parked = s.standing.parked ∧ (s.useEntry b f).standing.lookup = s.standing.lookup := by
  cases h : s.entry? b with
  | none => rw [useEntry_of_none h]; exact ⟨rfl, rfl, rfl⟩
  | some e => rw [useEntry_of_some h]; exact ⟨rfl, rfl, rfl⟩

theorem HoldsEntry.useEntry (h : HoldsEntry s b e) (hf : ∀ e, (f e).borrower = e.borrower)
    (hh : ∀ e e', Handled e e' → Handled (f e) (f e')) : HoldsEntry (s.useEntry b f) b (f e) := by
  obtain ⟨e', he', h⟩ := h
  exact ⟨_, by rw [entry?_useEntry s b f hf, he']; rfl, (hh e e' h).trans (.used _ _)⟩

theorem HoldsEntry.reserve (h : HoldsEntry s b e) (l : LaneId) (v : Bool) :
    HoldsEntry (s.reserve l b v) b (e.setReserved l v) :=
  h.useEntry (f := (·.setReserved l v)) (fun _ => setReserved_borrower _ l v) fun _ _ h => h.setReserved l v

theorem HoldsEntry.handUse (h : HoldsEntry s b e) (l : LaneId) (v : Bool) :
    HoldsEntry (s.useEntry b (·.setHand l v)) b e := by
  obtain ⟨f, hf, hh⟩ := h
  exact ⟨_, by rw [entry?_useEntry s b _ fun _ => setHand_borrower _ l v, hf]; rfl,
    (hh.trans (.setHand f l v)).trans (.used _ _)⟩

theorem HoldsEntry.takeInHand (h : HoldsEntry s b e) (l : LaneId) (c : Nat) : HoldsEntry (s.takeInHand l c) b e := by
  by_cases hc : b = c
  · subst hc
    exact h.handUse l true
  · obtain ⟨f, hf, hh⟩ := h
    exact ⟨f, by rw [State.takeInHand, entry?_useEntry_of_ne (fun _ => setHand_borrower _ l true) hc, hf], hh⟩

end Entries

/-! ## The table as an entry goes out of hand (R29) -/

/-- From `s` to `t` the table has let the entry of the borrower of `x` out of hand, and no more. -/
structure TableKept (s t : State) (x : Option Txn) : Prop where
  entry : ∀ b e, HoldsEntry s b e → HoldsEntry t b e
  others : ∀ b, (∀ y, x = some y → y.borrower ≠ some b) → t.entry? b = s.entry? b
  unused : (∀ y b, x = some y → y.borrower = some b → s.entry? b = none) → t.standing = s.standing
  incomplete : t.standing.incomplete = s.standing.incomplete
  parked : t.standing.parked = s.standing.parked

section Dropped
variable {s : State} {l : LaneId} {b : Nat}

theorem TableKept.refl (s : State) (x : Option Txn) : TableKept s s x := ⟨fun _ _ => id, fun _ _ => rfl, fun _ => rfl, rfl, rfl⟩

theorem tableKept_outOfHand {x : Txn} (hb : x.borrower = some b) : TableKept s (s.outOfHand l b) (some x) := by
  obtain h | h := outOfHand_cases s l b
  · rw [h]
    exact .refl s _
  obtain ⟨hinc, hpark, -⟩ := useEntry_standing s b (·.setHand l false)
  rw [h]
  refine ⟨fun c e he => ?_, fun c hc => ?_, fun hn => ?_, hinc, hpark⟩
  · by_cases hcb : c = b
    · subst hcb
      exact he.handUse l false
    · obtain ⟨f, hf, hh⟩ := he
      exact ⟨f, by rw [entry?_useEntry_of_ne (fun _ => setHand_borrower _ l false) hcb, hf], hh⟩
  · refine entry?_useEntry_of_ne (fun _ => setHand_borrower _ l false) fun hcb => ?_
    exact hc x rfl (by rw [hb, hcb])
  · rw [useEntry_of_none (hn x b rfl hb)]

theorem tableKept_dropTxnEntry (x : Option Txn) : TableKept s (s.dropTxnEntry l x) x := by
  unfold State.dropTxnEntry
  split
  · split
    · exact .refl s _
    · split
      · next hb => exact tableKept_outOfHand hb
      · exact .refl s _
  · exact .refl s _

theorem dropTxnEntry_frame (s : State) (l : LaneId) (x : Option Txn) :
    s.dropTxnEntry l x = { s with standing := (s.dropTxnEntry l x).standing } := by
  unfold State.dropTxnEntry
  repeat' split
  · rfl
  · exact outOfHand_frame s l _
  all_goals rfl

theorem TableKept.of_standing {s' t t' : State} {x : Option Txn} (h : TableKept s t x) (hs : s'.standing = s.standing)
    (ht : t'.standing = t.standing) : TableKept s' t' x := by
  obtain ⟨he, ho, hu, hi, hp⟩ := h
  simp only [HoldsEntry, State.entry?, ← hs, ← ht] at he ho hu hi hp
  exact ⟨he, ho, hu, hi, hp⟩

end Dropped

/-! ## A result written (R44) -/

/-- A result has been written at a lane, from `s` to `t`, with no end of session pending. -/
structure Wrote (s t : State) (l : LaneId) (r : Result) : Prop where
  lane : ∃ timer, t.lane l = { s.lane l with
    state := .reporting, txn := none, result := r, unread := true, trapWait := none, blockWait := none
    idleTimer := timer }
  other : t.lane (otherLane l) = s.lane (otherLane l)
  rest : t = { s with
    laneA := t.laneA, laneB := t.laneB, standing := t.standing, wand0 := t.wand0, wand1 := t.wand1
    port := { s.port with pending := s.port.pending ||| causeBit (causeResult l) } }
  table : TableKept s t (s.lane l).txn

section Written
variable {s : State} {l : LaneId} {src : Source} {r : Result}

theorem reporting_frame (s : State) (l : LaneId) (src : Source) (r : Result) : s.reporting l src r = { s with
    laneA := (s.reporting l src r).laneA, laneB := (s.reporting l src r).laneB
    standing := (s.reporting l src r).standing
    wand0 := (s.reporting l src r).wand0, wand1 := (s.reporting l src r).wand1
    port := { s.port with pending := s.port.pending ||| causeBit (causeResult l) } } := by
  unfold State.reporting
  cases l <;> cases src with
  | wand w => cases w <;> cases r.cls <;> rfl
  | keyed => cases r.cls <;> rfl
  | port => cases r.cls <;> rfl

theorem reporting_standing (s : State) (l : LaneId) (src : Source) (r : Result) :
    (s.reporting l src r).standing = s.standing := by
  unfold State.reporting
  cases l <;> cases src with
  | wand w => cases w <;> cases r.cls <;> rfl
  | keyed => cases r.cls <;> rfl
  | port => cases r.cls <;> rfl

/-- What writing a result puts into its lane before the idle timer runs. -/
def writtenLane (r : Result) (c : LaneCtl) : LaneCtl :=
  { c with state := .reporting, txn := none, result := r, unread := true, trapWait := none, blockWait := none }

/-- A result as it is written: the entry goes out of hand, and the lane reports. -/
theorem reported_eq_reporting : reported s l src r = State.reporting { s with
    standing := ((s.mapLane l (writtenLane r)).dropTxnEntry l (s.lane l).txn).standing } l src r := by
  rw [reported, dropTxnEntry_frame, latch_of_ne (by cases l <;> decide)]
  simp only [State.reporting]
  cases l <;> cases src with
  | wand w => cases w <;> cases r.cls <;> rfl
  | keyed => cases r.cls <;> rfl
  | port => cases r.cls <;> rfl

theorem wrote_writeResult (hp : (s.lane l).endPending = false) (src : Source) (r : Result) :
    Wrote s (s.writeResult l src r) l r := by
  obtain ⟨timer, hl⟩ := idleTimer_reported s l src r
  have heq : s.writeResult l src r = reported s l src r := by rw [writeResult_eq, hl, if_neg (by simp [hp])]
  have hother : (reported s l src r).lane (otherLane l) = s.lane (otherLane l) := (LaneWork.of_reported s src r).other
  rw [heq]
  refine ⟨⟨timer, hl⟩, hother, ?_, ?_⟩
  · rw [reported_eq_reporting]
    exact reporting_frame _ l src r
  · refine (tableKept_dropTxnEntry (s := s.mapLane l (writtenLane r)) (l := l) (s.lane l).txn).of_standing
      (State.mapLane_standing s l _).symm ?_
    rw [reported_eq_reporting, reporting_standing]

end Written

namespace Wrote
variable {s t : State} {l : LaneId} {r : Result} (h : Wrote s t l r)
include h

theorem state : (t.lane l).state = .reporting := by obtain ⟨_, hl⟩ := h.lane; rw [hl]
theorem txn : (t.lane l).txn = none := by obtain ⟨_, hl⟩ := h.lane; rw [hl]
theorem unread : (t.lane l).unread = true := by obtain ⟨_, hl⟩ := h.lane; rw [hl]
theorem result : (t.lane l).result = r := by obtain ⟨_, hl⟩ := h.lane; rw [hl]
theorem session : (t.lane l).session = (s.lane l).session := by obtain ⟨_, hl⟩ := h.lane; rw [hl]
theorem reports : Reports t l r := ⟨h.state, h.result, h.txn, h.unread⟩
theorem trapWait : (t.lane l).trapWait = none := by obtain ⟨_, hl⟩ := h.lane; rw [hl]
theorem blockWait : (t.lane l).blockWait = none := by obtain ⟨_, hl⟩ := h.lane; rw [hl]
theorem memory : t.memory = s.memory := by rw [h.rest]
theorem line : t.line = s.line := by rw [h.rest]
theorem traps : t.traps = s.traps := by rw [h.rest]
theorem overlay : t.overlay = s.overlay := by rw [h.rest]
theorem attached : t.attached = s.attached := by rw [h.rest]
theorem slips : t.slips = s.slips := by rw [h.rest]
theorem port : t.port = { s.port with pending := s.port.pending ||| causeBit (causeResult l) } := by rw [h.rest]
theorem latched : t.port.pending.getLsbD (causeResult l - 1) = true := by
  rw [h.port]
  cases l <;> simp [causeResult, causeBit]

end Wrote

/-! ## What a transaction gives back at once (R43) -/

/-- What a transaction with no trap and no frame on the line gives back: its reservation, its room and its lookup. -/
def backAtOnce (s : State) (l : LaneId) (x : Txn) : State :=
  ((reservationBack s l x).giveBackRoom l).dropAsked (isLaneLookup l)

section Back
variable {s : State} {l : LaneId} {x : Txn} {b : Nat} {e : Entry}

theorem releaseReservation_cases (s : State) (l : LaneId) (b : Nat) :
    s.releaseReservation l b = s ∧ (∀ e, s.entry? b = some e → e.reserved l = false) ∨
      s.releaseReservation l b = s.reserve l b false := by
  unfold State.releaseReservation
  cases he : s.entry? b with
  | none => exact .inl ⟨rfl, fun _ h => nomatch h⟩
  | some e =>
    dsimp only
    split
    · exact .inr rfl
    · next hr => exact .inl ⟨rfl, fun f hf => by cases hf; simpa using hr⟩

theorem setReserved_of_reserved (e : Entry) (l : LaneId) : e.setReserved l (e.reserved l) = e := by cases l <;> rfl

theorem HoldsEntry.releaseReservation (h : HoldsEntry s b e) : HoldsEntry (s.releaseReservation l b) b (e.setReserved l false) := by
  obtain ⟨hs, hr⟩ | hs := releaseReservation_cases s l b <;> rw [hs]
  · obtain ⟨f, hf, hh⟩ := h
    have hfalse := hr f hf
    rw [hh.reserved] at hfalse
    rw [← hfalse, setReserved_of_reserved]
    exact ⟨f, hf, hh⟩
  · exact h.reserve l false

theorem reservationBack_frame (s : State) (l : LaneId) (x : Txn) :
    reservationBack s l x = { s with standing := (reservationBack s l x).standing } := by
  unfold reservationBack
  split
  · obtain ⟨hs, -⟩ | hs := releaseReservation_cases s l (x.borrower.getD 0) <;> rw [hs]
    exact useEntry_frame s _ _
  · rfl

theorem reservationBack_incomplete (s : State) (l : LaneId) (x : Txn) :
    (reservationBack s l x).standing.incomplete = s.standing.incomplete := by
  unfold reservationBack
  split
  · obtain ⟨hs, -⟩ | hs := releaseReservation_cases s l (x.borrower.getD 0) <;> rw [hs]
    exact (useEntry_standing s _ _).1
  · rfl

/-- Nothing but the table, the rooms and the memory port is touched. -/
theorem backAtOnce_frame (s : State) (l : LaneId) (x : Txn) : backAtOnce s l x = { s with
    standing := (reservationBack s l x).standing, overlay := s.overlay.setRoom l false
    memory := (s.dropAsked (isLaneLookup l)).memory } := by
  rw [backAtOnce, reservationBack_frame]
  rfl

theorem holdsEntry_reservationBack (h : HoldsEntry s b e) (hb : x.borrower = some b) :
    HoldsEntry (reservationBack s l x) b (if x.operation = .lend then e.setReserved l false else e) := by
  unfold reservationBack
  split
  · rw [hb]
    exact h.releaseReservation
  · exact h

theorem reservationBack_of_not_lend (h : x.operation ≠ .lend) : reservationBack s l x = s := if_neg h

/-- The awaiting own action of a transaction is of its borrower's entry alone, whoever has it in hand or reserves on it. -/
theorem awaitingOwn_reservationBack (y : Txn) (hb : y.borrower = x.borrower) :
    (reservationBack s l x).awaitingOwn y = s.awaitingOwn y := by
  unfold State.awaitingOwn
  rw [hb]
  cases hx : x.borrower with
  | none => rfl
  | some b =>
    simp only [Option.bind_some]
    by_cases hop : x.operation = .lend
    · have hback : reservationBack s l x = s.releaseReservation l b := by rw [reservationBack, if_pos hop, hx]; rfl
      obtain ⟨hs, -⟩ | hs := releaseReservation_cases s l b <;> rw [hback, hs]
      rw [State.reserve, entry?_useEntry s b _ fun e => setReserved_borrower e l false]
      cases s.entry? b with
      | none => rfl
      | some e => cases l <;> cases y.blockReason <;> rfl
    · rw [reservationBack_of_not_lend hop]

theorem awaitingOwn_of_standing {t : State} (h : t.standing = s.standing) (x : Txn) :
    t.awaitingOwn x = s.awaitingOwn x := by
  have he : t.entry? = s.entry? := by funext b; rw [State.entry?, h, State.entry?]
  rw [State.awaitingOwn, State.awaitingOwn, he]

theorem provisionalOf_of_traps {t : State} (h : t.traps = s.traps) (l : LaneId) : t.provisionalOf l = s.provisionalOf l := by
  rw [State.provisionalOf, h, State.provisionalOf]

theorem trapBack_of_ne (h : x.trap ≠ .trapped) : trapBack s x = s := by
  unfold trapBack
  split
  · next ht _ => exact absurd ht h
  · rfl

theorem noticeBack_of_ne (h : x.stage ≠ .awaitLine) : noticeBack s x = s := if_neg h

theorem actionBack_of_none (h : s.awaitingOwn x = false) : actionBack s x = s := if_neg (by simp [h])

theorem abandonTrap_of_none (h : s.provisionalOf l = none) : s.abandonTrap l = s := by
  simp only [State.abandonTrap, h]

theorem provisionalOf_backAtOnce (l : LaneId) (x : Txn) : (backAtOnce s l x).provisionalOf l = s.provisionalOf l :=
  provisionalOf_of_traps (by rw [backAtOnce_frame]) l

theorem awaitingOwn_backAtOnce (l : LaneId) (x : Txn) : (backAtOnce s l x).awaitingOwn x = s.awaitingOwn x :=
  (awaitingOwn_of_standing (s := reservationBack s l x) (by rw [backAtOnce_frame]) x).trans
    (awaitingOwn_reservationBack x rfl)

/-- A transaction with no trap, no frame on the line and no action awaiting gives back at once what it holds. -/
theorem giveBack_of_quiet (hprov : s.provisionalOf l = none) (ht : x.trap ≠ .trapped) (hs : x.stage ≠ .awaitLine)
    (ha : s.awaitingOwn x = false) : s.giveBack l x = backAtOnce s l x := by
  rw [giveBack_eq, ← backAtOnce, abandonTrap_of_none ((provisionalOf_backAtOnce l x).trans hprov), trapBack_of_ne ht,
    noticeBack_of_ne hs, actionBack_of_none ((awaitingOwn_backAtOnce l x).trans ha)]

/-- What a transaction gives back is of the tables, and of the lane's lookup. -/
theorem tablesOnly_giveBack (s : State) (l : LaneId) (x : Txn) :
    TablesOnly (s.dropAsked (isLaneLookup l)) (s.giveBack l x) := by
  have hback : TablesOnly (s.dropAsked (isLaneLookup l)) (backAtOnce s l x) := by rw [backAtOnce_frame]; rfl
  rw [giveBack_eq, ← backAtOnce]
  exact (((hback.trans (.abandonTrap _ l)).trans (.trapBack _ x)).trans (.noticeBack _ x)).trans (.actionBack _ x)

theorem lane_giveBack (s : State) (l m : LaneId) (x : Txn) : (s.giveBack l x).lane m = s.lane m := (NoLaneWork.giveBack s l x).lane m

/-- Work that ends otherwise than DONE: what it holds goes back, and its result is written. -/
theorem wrote_endTxn (hx : (s.lane l).txn = some x) (hp : (s.lane l).endPending = false) (c : ResultClass) (why : Reason) :
    Wrote (s.giveBack l x) (s.endTxn l c why) l ((s.giveBack l x).endedResult l x c why) := by
  simp only [State.endTxn, hx]
  exact wrote_writeResult (by rw [lane_giveBack, hp]) _ _

end Back

/-! ## A lane's item work that ends otherwise than DONE (R43, R44) -/

/-- From `s`, whose lookup or hold lookup has ended, the lane is at work with the context `y` in `u`. -/
structure AtWork (s u : State) (l : LaneId) (y : Txn) : Prop where
  rest : u = { s with
    laneA := u.laneA, laneB := u.laneB, standing := u.standing, memory := { s.memory with busy := none } }
  lane : ∃ w, u.lane l = { s.lane l with txn := some y, trapWait := w }
  other : u.lane (otherLane l) = s.lane (otherLane l)
  incomplete : u.standing.incomplete = s.standing.incomplete

/-- The context of item work that holds no trap and awaits no line. -/
structure ItemWork (y : Txn) : Prop where
  operation : y.operation ≠ .borrowerCheck
  trap : y.trap ≠ .trapped
  stage : y.stage ≠ .awaitLine

@[simp] theorem setReserved_count (e : Entry) (l : LaneId) (v : Bool) : (e.setReserved l v).count = e.count := by cases l <;> rfl

@[simp] theorem setReserved_balance (e : Entry) (l : LaneId) (v : Bool) : (e.setReserved l v).balance = e.balance := by
  cases l <;> rfl

@[simp] theorem setReserved_roll (e : Entry) (l : LaneId) (v : Bool) : (e.setReserved l v).roll = e.roll := by cases l <;> rfl

@[simp] theorem setReserved_blockSet (e : Entry) (l : LaneId) (v : Bool) (n : Nat) :
    (e.setReserved l v).blockSet n = e.blockSet n := by cases l <;> rfl

@[simp] theorem setReserved_record (e : Entry) (l : LaneId) (v : Bool) (why : BlockReason) :
    (e.setReserved l v).record why = e.record why := by cases l <;> cases why <;> rfl

section Ending
variable {s u : State} {l : LaneId} {y : Txn} {b : Nat} {e : Entry} {v : Bool}

theorem awaitingOwn_of_holds (h : HoldsEntry s b e) (hb : y.borrower = some b) :
    s.awaitingOwn y = ((e.record y.blockReason).awaits y.stamp).isSome := by
  obtain ⟨f, hf, hh⟩ := h
  simp only [State.awaitingOwn, hb, Option.bind_some, hf, hh.record]

theorem txnBlocks_of_holds (h : HoldsEntry s b e) (hb : y.borrower = some b) :
    s.txnBlocks y = e.blockSet s.clock.day := by
  obtain ⟨f, hf, hh⟩ := h
  simp only [State.txnBlocks, hb, Option.bind_some, hf, hh.blockSet]

theorem entryOf_of_entry (h : s.entry? b = some e) : s.entryOf b = e := by simp only [State.entryOf, h, Option.getD_some]

/-- The result of item work that ends otherwise than DONE. -/
theorem endedResult_of_holds (h : HoldsEntry s b e) (hb : y.borrower = some b) (hop : y.operation ≠ .borrowerCheck)
    (c : ResultClass) (why : Reason) : s.endedResult l y c why = { Result.blank l with
      operation := y.operation, cls := c, reason := why, mode := (s.lane l).mode, blocks := e.blockSet s.clock.day
      count := if why = .limit then some (e.count, s.limitInForce e.roll.category) else none
      flags := { ResultFlags.clear with warning := why == .limit && s.standing.incomplete } } := by
  have hblocks := txnBlocks_of_holds h hb
  obtain ⟨f, hf, hh⟩ := h
  unfold State.endedResult
  by_cases hwhy : why = .limit
  · subst hwhy
    simp only [if_true, hblocks, hb, Option.getD_some, entryOf_of_entry hf, hh.count, hh.roll, State.plainResult]
    simp [ResultFlags.clear]
  · have hlimit : (why == Reason.limit) = false := by simpa using hwhy
    have hcheck : (y.operation == Operation.borrowerCheck) = false := by simpa using hop
    simp only [if_neg hwhy, hblocks, State.plainResult, hlimit, hcheck, Bool.false_and]
    rfl

theorem dropAsked_of_quiet (hb : s.memory.busy = none) (hw : s.memory.waiting = []) (p : MemOp → Bool) :
    (s.dropAsked p).memory = s.memory := by
  simp only [State.dropAsked, State.setMemory, hb, hw, List.filter_nil, Option.map_none]
  rw [← hb, ← hw]

/-- From `s`, whose lookup has ended, to `t` nothing but the work of the lane, the standing table, the rooms and the tones
has changed. -/
structure Near (s t : State) (l : LaneId) : Prop where
  session : (t.lane l).session = (s.lane l).session
  memory : t.memory = { s.memory with busy := none }
  attached : t.attached = s.attached
  entries : t.overlay.entries = s.overlay.entries
  line : t.line = s.line
  traps : t.traps = s.traps
  other : t.lane (otherLane l) = s.lane (otherLane l)

theorem Near.wrote {t : State} {r : Result} (h : Near s u l) (hw : Wrote u t l r) : Near s t l where
  session := hw.session.trans h.session
  memory := hw.memory.trans h.memory
  attached := hw.attached.trans h.attached
  entries := by rw [hw.overlay, h.entries]
  line := hw.line.trans h.line
  traps := hw.traps.trans h.traps
  other := hw.other.trans h.other

theorem AtWork.near (h : AtWork s u l y) : Near s u l where
  session := by obtain ⟨w, hl⟩ := h.lane; rw [hl]
  memory := by rw [h.rest]
  attached := by rw [h.rest]
  entries := by rw [h.rest]
  line := by rw [h.rest]
  traps := by rw [h.rest]
  other := h.other

theorem Near.backAtOnce (h : Near s u l) (hw : s.memory.waiting = []) (x : Txn) : Near s (backAtOnce u l x) l := by
  have hlane : ∀ m, (Proofs.backAtOnce u l x).lane m = u.lane m := fun m => by rw [backAtOnce_frame]; cases m <;> rfl
  rw [backAtOnce_frame] at *
  refine ⟨by rw [hlane, h.session], ?_, h.attached, ?_, h.line, h.traps, by rw [hlane, h.other]⟩
  · exact (dropAsked_of_quiet (by rw [h.memory]) (by rw [h.memory]; exact hw) _).trans h.memory
  · refine Eq.trans ?_ h.entries
    cases l <;> rfl

/-- Work with no trap, no frame on the line and no action awaiting ends, and is reported. -/
theorem AtWork.ends (h : AtWork s u l y) (ht : y.trap ≠ .trapped) (hs : y.stage ≠ .awaitLine)
    (hw : s.memory.waiting = []) (hp : (s.lane l).endPending = false) (hprov : s.provisionalOf l = none)
    (ha : u.awaitingOwn y = false) (c : ResultClass) (why : Reason) :
    Wrote (backAtOnce u l y) (u.endTxn l c why) l ((backAtOnce u l y).endedResult l y c why) ∧
      Near s (u.endTxn l c why) l := by
  obtain ⟨w, hl⟩ := h.lane
  have hquiet : u.giveBack l y = backAtOnce u l y :=
    giveBack_of_quiet ((provisionalOf_of_traps (by rw [h.rest]) l).trans hprov) ht hs ha
  have hwrote := wrote_endTxn (x := y) (by rw [hl]) (by rw [hl]; exact hp) c why
  rw [hquiet] at hwrote
  exact ⟨hwrote, (h.near.backAtOnce hw y).wrote hwrote⟩

theorem AtWork.endsWork (h : AtWork s u l y) (hy : ItemWork y) (hw : s.memory.waiting = []) (hb : y.borrower = some b)
    (he : HoldsEntry u b (e.setReserved l v)) (hv : y.operation = .lend ∨ v = false)
    (hp : (s.lane l).endPending = false) (hprov : s.provisionalOf l = none)
    (ha : ((e.record y.blockReason).awaits y.stamp).isSome = false) (c : ResultClass) (why : Reason) :
    s.endsWork (u.endTxn l c why) l y.operation c b e why := by
  obtain ⟨w, hl⟩ := h.lane
  obtain ⟨hwrote, hnear⟩ := h.ends hy.trap hy.stage hw hp hprov
    (by rw [awaitingOwn_of_holds he hb, setReserved_record, ha]) c why
  have hholds : HoldsEntry (backAtOnce u l y) b (e.setReserved l false) := by
    have hback := holdsEntry_reservationBack (l := l) he hb
    refine HoldsEntry.of_standing (s := reservationBack u l y) ?_ (by rw [backAtOnce_frame])
    split at hback
    · rwa [setReserved_setReserved] at hback
    · next hop => obtain rfl := hv.resolve_left hop; exact hback
  have hmode : ((backAtOnce u l y).lane l).mode = (s.lane l).mode := by
    have hmode : (u.lane l).mode = (s.lane l).mode := by rw [hl]
    rw [backAtOnce_frame, ← hmode]
    cases l <;> rfl
  have hclock : (backAtOnce u l y).clock = s.clock := by rw [backAtOnce_frame, h.rest]
  have hinc : (backAtOnce u l y).standing.incomplete = s.standing.incomplete := by
    rw [backAtOnce_frame]
    exact (reservationBack_incomplete u l y).trans h.incomplete
  have hlimit : ∀ n, (backAtOnce u l y).limitInForce n = s.limitInForce n := fun n => by
    rw [State.limitInForce, State.limitInForce, hinc]
    rw [backAtOnce_frame, h.rest]
  refine ⟨hwrote.state, hwrote.txn, hwrote.unread, hnear.session, ?_, ?_, ?_, hnear.entries, hnear.memory, hnear.attached,
    hnear.line, hnear.traps, hnear.other⟩
  · rw [hwrote.result, endedResult_of_holds hholds hb hy.operation, hmode, hclock, hinc, hlimit, setReserved_blockSet,
      setReserved_count, setReserved_roll]
  · obtain ⟨f, hf, hh⟩ := hwrote.table.entry b _ hholds
    exact ⟨f, hf, by rw [hh.reserved, reserved_setReserved], by rw [hh.reserved, reserved_setReserved_other],
      by rw [hh.count, setReserved_count], by rw [hh.balance, setReserved_balance]⟩
  · rw [hwrote.overlay, backAtOnce_frame]
    cases l <;> rfl

end Ending

end Sys2Proof.Proofs

/-! The commit point: the record that is requested, and the room that is set aside for its item (R30, R89, R90, R110,
R137). -/

namespace Sys2Proof.Proofs
open Sys2Proof Sys2Proof.Machine

/-! ## Room for an item (R89, R90) -/

section Room
variable {s : State} {l : LaneId} {n : Nat} {left : List ItemEntry}

theorem reclaimable_iff {i : ItemEntry} : i.reclaimable = true ↔ i.basis = .today ∧ i.loan = none := by
  simp [ItemEntry.reclaimable]

theorem not_reclaimable_iff {i : ItemEntry} : i.reclaimable = false ↔ i.basis = .roll ∨ i.loan.isSome = true := by
  cases i with
  | mk item basis loan station stamp => cases basis <;> cases loan <;> simp [ItemEntry.reclaimable]

/-- The overlay with the room set aside. -/
def withRoom (s : State) (l : LaneId) (n : Nat) (left : List ItemEntry) : Overlay :=
  { (if (s.item? n).isSome then s.overlay else s.overlay.setRoom l true) with entries := left }

theorem withRoom_entries (s : State) (l : LaneId) (n : Nat) : withRoom s l n s.overlay.entries =
    if (s.item? n).isSome then s.overlay else s.overlay.setRoom l true := by
  unfold withRoom
  split
  · rfl
  · cases l <;> rfl

theorem setAsideRoom_of_leaves (hr : s.overlay.room l = false) (h : s.roomLeaves n left) :
    s.setAsideRoom l n = some (s.setOverlay (withRoom s l n left)) := by
  unfold State.setAsideRoom withRoom
  obtain ⟨hfree, rfl⟩ | ⟨hnone, hfull, before, i, after, hentries, hi, hbefore, rfl⟩ := h
  · cases hitem : s.item? n with
    | some e =>
      rw [if_pos (by rfl), if_pos (by rfl)]
      rfl
    | none =>
      have hused : s.overlay.used < Config.overlayCapacity := hfree.resolve_left (by simp [hitem])
      rw [if_neg (by simp [hr]), if_neg (by simp), Overlay.freeRoom, if_pos hused]
      cases l <;> rfl
  · have hany : s.overlay.entries.any ItemEntry.reclaimable = true :=
      List.any_eq_true.mpr ⟨i, by simp [hentries], reclaimable_iff.mpr hi⟩
    have herase : s.overlay.entries.eraseP ItemEntry.reclaimable = before ++ after := by
      rw [hentries, List.eraseP_append_right _ fun k hk => by simpa using not_reclaimable_iff.mpr (hbefore k hk),
        List.eraseP_cons_of_pos (reclaimable_iff.mpr hi)]
    rw [if_neg (by simp [hnone, hr]), Overlay.freeRoom, if_neg (Nat.not_lt.mpr (by exact hfull)), if_pos hany, herase, hnone]
    cases l <;> rfl

/-- With a place free, a room is set aside, or stands set aside. -/
theorem setAsideRoom_of_free (h : s.overlay.used < 8192) :
    s.setAsideRoom l n = some (s.setOverlay (if (s.item? n).isSome then s.overlay else s.overlay.setRoom l true)) := by
  cases hr : s.overlay.room l with
  | false => rw [setAsideRoom_of_leaves (left := s.overlay.entries) hr (.inl ⟨.inr h, rfl⟩), withRoom_entries]
  | true =>
    have hset : s.overlay.setRoom l true = s.overlay := by
      cases l <;> simp only [Overlay.room] at hr <;> simp only [Overlay.setRoom, ← hr]
    rw [hset, ite_self, State.setAsideRoom, if_pos (by simp [hr])]
    rfl

theorem setAsideRoom_of_noRoom (hr : s.overlay.room l = false) (h : s.noRoomFor n) : s.setAsideRoom l n = none := by
  obtain ⟨hnone, hfull, hkept⟩ := h
  have hany : s.overlay.entries.any ItemEntry.reclaimable = false :=
    List.any_eq_false.mpr fun k hk => by simpa using not_reclaimable_iff.mpr (hkept k hk)
  unfold State.setAsideRoom
  rw [if_neg (by simp [hnone, hr]), Overlay.freeRoom, if_neg (Nat.not_lt.mpr (by exact hfull)), hany]
  rfl

end Room

/-! ## The append requested (R30, R110, R137) -/

section Append
variable {s : State} {l : LaneId} {x : Txn}

theorem laneHeld_of_free (h : s.memory.busy = none) : s.laneHeld l = false := by simp only [State.laneHeld, h]

/-- What the request of its record makes of a transaction. -/
def committedAs (stamp : Nat) (x : Txn) : Txn := { x with stage := .commit, committed := true, stamp := stamp }

theorem recordFor_of_lane (t : State) (hc : t.memory.copies = s.memory.copies)
    (hr : t.memory.requested = s.memory.requested) (hk : t.clock = s.clock) (stamp : Nat) :
    t.recordFor l x stamp = s.recordFor l x stamp := by
  simp only [State.recordFor, State.edition, hc, hr, hk]

/-- A free memory port takes the append at once. -/
theorem requestAppend_of_free (hx : (s.lane l).txn = some x) (hb : s.memory.busy = none) (hw : s.memory.waiting = [])
    (hf : s.memory.faulted = false) : s.requestAppend l false =
      { s.mapTxn l (committedAs (s.line.stamps + 1)) with
        line := { s.line with stamps := s.line.stamps + 1 }
        memory := { s.memory with
          requested := s.memory.requested + 1
          busy := some ⟨.append (s.recordFor l x (s.line.stamps + 1)), false⟩ } } := by
  simp only [State.requestAppend, hx, laneHeld_of_free hb, Bool.false_eq_true, if_false]
  rw [if_neg (by rw [State.mapTxn_memory]; simpa [State.takeStamp] using hf)]
  refine (ask_of_free (by rw [State.setMemory_memory, State.mapTxn_memory]; exact hb)
    (by rw [State.setMemory_memory, State.mapTxn_memory]; exact hw) (by simp [MemOp.isLookup])).trans ?_
  cases l <;> rfl

/-- The same, of a record that carries the stamp of a notice already given. -/
theorem requestAppend_of_stamped (hx : (s.lane l).txn = some x) (hb : s.memory.busy = none) (hw : s.memory.waiting = [])
    (hf : s.memory.faulted = false) : s.requestAppend l true =
      { s.mapTxn l (committedAs x.stamp) with
        memory := { s.memory with
          requested := s.memory.requested + 1
          busy := some ⟨.append (s.recordFor l x x.stamp), false⟩ } } := by
  simp only [State.requestAppend, hx, laneHeld_of_free hb, Bool.false_eq_true, if_false, if_true]
  rw [if_neg (by rw [State.mapTxn_memory]; simpa using hf)]
  refine (ask_of_free (by rw [State.setMemory_memory, State.mapTxn_memory]; exact hb)
    (by rw [State.setMemory_memory, State.mapTxn_memory]; exact hw) (by simp [MemOp.isLookup])).trans ?_
  cases l <;> rfl

end Append

/-! ## COMMIT of item work -/

section Commit
variable {s u : State} {l : LaneId} {y : Txn} {b n : Nat} {left : List ItemEntry}

theorem commitItem_of_refusal {why : Reason} (h : u.commitRefusal = some why) :
    u.commitItem l n = u.endTxn l .refused why := by
  simp only [State.commitItem, h]

theorem commitItem_of_noRoom (h : u.commitRefusal = none) (hr : u.overlay.room l = false) (hn : u.noRoomFor n) :
    u.commitItem l n = u.endTxn l .refused .tableFull := by
  simp only [State.commitItem, h, setAsideRoom_of_noRoom hr hn]

theorem commitItem_of_room {o : Overlay} (h : u.commitRefusal = none) (ho : u.setAsideRoom l n = some (u.setOverlay o))
    (hy : (u.lane l).txn = some y) (hb : u.memory.busy = none) (hw : u.memory.waiting = []) (hf : u.memory.faulted = false) :
    u.commitItem l n = { u.mapTxn l (committedAs (u.line.stamps + 1)) with
        overlay := o
        line := { u.line with stamps := u.line.stamps + 1 }
        memory := { u.memory with
          requested := u.memory.requested + 1
          busy := some ⟨.append (u.recordFor l y (u.line.stamps + 1)), false⟩ } } := by
  have hlane : (u.setOverlay o).lane l = u.lane l := by cases l <;> rfl
  simp only [State.commitItem, h, ho]
  rw [requestAppend_of_free (x := y) (by rw [hlane, hy]) (by exact hb) (by exact hw) (by exact hf)]
  cases l <;> rfl

theorem journalFull_of_lt (h : s.memory.copies.head - s.memory.copies.tail + s.memory.requested < 16384) :
    s.journalFull = false := decide_eq_false (Nat.not_le.mpr (by exact h))

theorem stampsOut_of_lt (h : s.line.stamps < 65535) : s.stampsOut = false := decide_eq_false (Nat.not_le.mpr (by exact h))

theorem commitRefusal_of_full (h : 16384 ≤ s.memory.copies.head - s.memory.copies.tail + s.memory.requested) :
    s.commitRefusal = some .journalFull := if_pos (decide_eq_true (by exact h))

theorem commitRefusal_of_stamps (h : s.memory.copies.head - s.memory.copies.tail + s.memory.requested < 16384)
    (hs : 65535 ≤ s.line.stamps) : s.commitRefusal = some .stampsExhausted :=
  (if_neg (by simp [journalFull_of_lt h])).trans (if_pos (decide_eq_true (by exact hs)))

theorem commitRefusal_of_room (h : s.memory.copies.head - s.memory.copies.tail + s.memory.requested < 16384)
    (hs : s.line.stamps < 65535) : s.commitRefusal = none :=
  (if_neg (by simp [journalFull_of_lt h])).trans (if_neg (by simp [stampsOut_of_lt hs]))

namespace AtWork
variable (h : AtWork s u l y)
include h

theorem txn : (u.lane l).txn = some y := by obtain ⟨w, hl⟩ := h.lane; rw [hl]
theorem state : (u.lane l).state = (s.lane l).state := by obtain ⟨w, hl⟩ := h.lane; rw [hl]
theorem item (n : Nat) : u.item? n = s.item? n := by rw [State.item?, h.rest, State.item?]
theorem overlay : u.overlay = s.overlay := by rw [h.rest]
theorem clock : u.clock = s.clock := by rw [h.rest]
theorem rules : u.rules = s.rules := by rw [State.rules, h.rest, State.rules]
theorem line : u.line = s.line := by rw [h.rest]
theorem traps : u.traps = s.traps := by rw [h.rest]
theorem memory : u.memory = { s.memory with busy := none } := by rw [h.rest]

theorem commitRefusal : u.commitRefusal = s.commitRefusal := by
  have hfull : u.journalFull = s.journalFull := by rw [State.journalFull, State.content, h.memory]; rfl
  have hout : u.stampsOut = s.stampsOut := by rw [State.stampsOut, h.line]; rfl
  rw [State.commitRefusal, State.commitRefusal, hfull, hout]

theorem roomLeaves (hn : s.roomLeaves n left) : u.roomLeaves n left := by
  simpa only [State.roomLeaves, h.item, h.overlay] using hn

theorem noRoomFor (hn : s.noRoomFor n) : u.noRoomFor n := by
  simpa only [State.noRoomFor, h.item, h.overlay] using hn

/-- Item work that passes its tests is committed. -/
theorem commits (hr : s.overlay.room l = false) (hn : s.roomLeaves n left) (hc : s.commitRefusal = none)
    (hw : s.memory.waiting = []) (hf : s.memory.faulted = false) {kind : RecordKind} {due : Nat × Nat} {amount : Nat}
    (hrec : u.recordFor l y (s.line.stamps + 1) =
      { number := s.memory.copies.head + s.memory.requested, stamp := s.line.stamps + 1, kind := kind, lane := l
        day := s.clock.day, minute := s.clock.minute, borrower := b, item := n, dueDay := due.1, dueMinute := due.2
        holdBorrower := 0, amount := amount, outcome := if kind = .ret then y.trap.code else 0, edition := s.edition }) :
    s.commits (u.commitItem l n) l y kind b n due amount left ∧
      ((u.commitItem l n).lane l).state = (s.lane l).state ∧ (u.commitItem l n).standing = u.standing := by
  obtain ⟨w, hl⟩ := h.lane
  rw [commitItem_of_room (h.commitRefusal.trans hc)
    (setAsideRoom_of_leaves (by rw [h.overlay]; exact hr) (h.roomLeaves hn)) h.txn (by rw [h.memory]) (by rw [h.memory]; exact hw) (by rw [h.memory]; exact hf), h.line, hrec, h.memory]
  have hlane : ∀ m, State.lane { u.mapTxn l (committedAs (s.line.stamps + 1)) with
        overlay := withRoom u l n left
        line := { s.line with stamps := s.line.stamps + 1 }
        memory := { ({ s.memory with busy := none } : MemCtl) with
          requested := s.memory.requested + 1
          busy := some ⟨.append
            { number := s.memory.copies.head + s.memory.requested, stamp := s.line.stamps + 1, kind := kind, lane := l
              day := s.clock.day, minute := s.clock.minute, borrower := b, item := n, dueDay := due.1, dueMinute := due.2
              holdBorrower := 0, amount := amount, outcome := if kind = .ret then y.trap.code else 0
              edition := s.edition }, false⟩ } } m =
      (u.mapTxn l (committedAs (s.line.stamps + 1))).lane m := fun m => by cases m <;> rfl
  refine ⟨⟨rfl, rfl, ?_, ?_, ?_, ?_, ?_⟩, ?_, ?_⟩
  · rw [hlane, State.mapTxn, State.lane_mapLane, hl]
    rfl
  · simp only [withRoom, h.item, h.overlay]
  · rw [State.mapTxn_attached, h.rest]
  · rw [State.mapTxn_traps, h.traps]
  · rw [hlane, State.mapTxn, lane_mapLane_otherLane, h.other]
  · rw [hlane, State.mapTxn, State.lane_mapLane, hl]
  · rw [State.mapTxn_standing]

end AtWork

end Commit

/-! ## COMMIT of a return (R36, R88) -/

section Return
variable {s : State} {l : LaneId} {n : Nat} {y : Txn} {basis : Basis} {a q : LoanPart}

/-- The item is OUT on the loan `q`, as the overlay has it, or else LOOKUP, with the answer OUT on `a` (R88, R90). -/
def Out (s : State) (n : Nat) (basis : Basis) (a q : LoanPart) : Prop :=
  s.item? n = none ∧ basis = .roll ∧ q = a ∨ ∃ i, s.item? n = some i ∧ i.loan = some q

theorem itemNow_loan_iff : (s.itemNow n (some ⟨basis, some a⟩)).loan = some q ↔ Out s n basis a q := by
  unfold State.itemNow Out
  cases s.item? n with
  | some i => simp [ItemEntry.answer]
  | none => cases basis <;> simp [eq_comm]

/-- A return's context at COMMIT: the fine reckoned again where the day or the due date has changed. -/
def returnReckoned (s : State) (n : Nat) (y : Txn) (q : LoanPart) : Txn :=
  { y with
    fine := if s.clock.day = y.reckonDay ∧ y.due = (q.dueDay, q.dueMinute) then y.fine else s.fineNow n q
    due := (q.dueDay, q.dueMinute), reckonDay := s.clock.day, stage := .commit }

theorem itemNow_mapLane (f : LaneCtl → LaneCtl) (found : Option ItemAnswer) :
    (s.mapLane l f).itemNow n found = s.itemNow n found := by cases l <;> rfl

theorem commitReturn_of_out (hy : (s.lane l).txn = some y) (hn : y.item = some n) (hb : y.borrower = some q.borrower)
    (hq : (s.itemNow n y.found).loan = some q) : s.commitReturn l = (s.mapLane l fun c =>
      { c with trapWait := none, txn := some (returnReckoned s n y q) }).commitItem l n := by
  simp only [State.commitReturn, hy, hn, Option.getD_some, itemNow_mapLane, hq, hb]
  rw [if_neg (by simp), State.mapTxn, mapLane_mapLane]
  refine congrArg (fun t => State.commitItem t l n) ?_
  cases l with
  | a =>
    have htxn : s.laneA.txn = some y := hy
    simp only [State.mapLane, State.setLane, State.lane, Function.comp_apply, htxn, Option.map_some]
    rfl
  | b =>
    have htxn : s.laneB.txn = some y := hy
    simp only [State.mapLane, State.setLane, State.lane, Function.comp_apply, htxn, Option.map_some]
    rfl

theorem commitReturn_of_not_out (hy : (s.lane l).txn = some y) (hn : y.item = some n)
    (hq : ∀ q, (s.itemNow n y.found).loan = some q → y.borrower ≠ some q.borrower) :
    s.commitReturn l = (s.mapLane l fun c => { c with trapWait := none }).endTxn l .refused .notOnLoan := by
  simp only [State.commitReturn, hy, hn, Option.getD_some, itemNow_mapLane]
  cases hloan : (s.itemNow n y.found).loan with
  | none => rfl
  | some q => exact if_pos (Ne.symm (hq q hloan))

theorem recordFor_of_return {b : Nat} (hop : y.operation = .ret) (hn : y.item = some n) (hb : y.borrower = some b)
    (ht : y.trap ≠ .trapped) (stamp : Nat) : s.recordFor l y stamp =
      { number := s.memory.copies.head + s.memory.requested, stamp := stamp, kind := .ret, lane := l
        day := s.clock.day, minute := s.clock.minute, borrower := b, item := n, dueDay := 0, dueMinute := 0
        holdBorrower := 0, amount := y.fine, outcome := y.trap.code, edition := s.edition } := by
  simp only [State.recordFor, Txn.recordKind, Txn.carriesLoan, hop, hn, hb, Option.getD_some, ht, if_false]
  rfl

end Return

end Sys2Proof.Proofs

/-! Work given up: CANCEL, and the two waits of 2 s (R35, R41, R43, R98, R109). -/

namespace Sys2Proof.Proofs
open Sys2Proof Sys2Proof.Machine

/-! ## What is given back with a frame or a trap (R43, R98, R109) -/

section Abandon
variable {s : State} {l : LaneId} {x : Txn} {p : TrapRecord}

theorem actionBack_frame (s : State) (x : Txn) : actionBack s x = { s with standing := (actionBack s x).standing } := by
  unfold actionBack
  split
  · exact useEntry_frame s _ _
  · rfl

/-- A transaction with no trap changes nothing at the line, but that its BLOCK notice goes. -/
theorem giveBack_of_none (hprov : s.provisionalOf l = none) (ht : x.trap = .none)
    (hsend : x.stage = .awaitLine → s.line.sending = none) :
    (s.giveBack l x).line = { s.line with
      u := if x.stage = .awaitLine then s.line.u.filter (fun n => !isBlockNotice x.stamp n) else s.line.u } ∧
      (s.giveBack l x).traps = s.traps := by
  have hline : (backAtOnce s l x).line = s.line := by rw [backAtOnce_frame]
  have htraps : (backAtOnce s l x).traps = s.traps := by rw [backAtOnce_frame]
  rw [giveBack_eq, ← backAtOnce, abandonTrap_of_none ((provisionalOf_backAtOnce l x).trans hprov),
    trapBack_of_ne (by rw [ht]; decide), actionBack_frame]
  by_cases hstage : x.stage = .awaitLine
  · rw [noticeBack, if_pos hstage, withdraw_u (by rw [hline]; exact hsend hstage), hline, htraps, if_pos hstage]
    exact ⟨rfl, rfl⟩
  · rw [noticeBack_of_ne hstage, if_neg hstage]
    exact ⟨hline, htraps⟩

theorem abandonTrap_of_some (h : s.provisionalOf l = some p) : s.abandonTrap l =
    if s.sendingIs p.isNotice then (s.withdraw .u p.isNotice).putTrap { p with state := .provisional l true }
      else (s.withdraw .u p.isNotice).removeTrap p.title p.rank := by
  simp only [State.abandonTrap, h]

/-- A PROVISIONAL trap whose notice is queued goes, and its notice with it. -/
theorem abandonTrap_of_queued (h : s.provisionalOf l = some p) (hsend : s.line.sending = none) : s.abandonTrap l =
    { s with
      line := { s.line with u := s.line.u.filter fun n => !p.isNotice n }
      traps := s.traps.filter fun y => !y.isFor p.title p.rank } := by
  rw [abandonTrap_of_some h, if_neg (by simp [State.sendingIs, hsend]), withdraw_u hsend]
  rfl

theorem withdraw_u_of_sending {y : Sending} (h : s.line.sending = some y) (hy : p.isNotice y.notice = true) :
    ∃ q, s.withdraw .u p.isNotice = { s with line := { s.line with u := q, sending := some { y with withdrawn := true } } } := by
  refine ⟨s.purged .u p.isNotice, ?_⟩
  have hmark : (s.setQueueOf .u (s.purged .u p.isNotice)).markWithdrawn p.isNotice =
      { s with line := { s.line with u := s.purged .u p.isNotice, sending := some { y with withdrawn := true } } } := by
    simp only [State.markWithdrawn, State.setQueueOf, h, hy, if_true]
  rw [State.withdraw, hmark]
  exact ite_self _

theorem trap?_putTrap (s : State) (p : TrapRecord) : (s.putTrap p).trap? p.title p.rank = some p := by
  rw [State.trap?, State.putTrap, State.setTraps_traps, List.find?_append]
  have hnone : (s.traps.filter fun x => !x.isFor p.title p.rank).find? (·.isFor p.title p.rank) = none :=
    List.find?_eq_none.mpr fun y hy => by simpa using (List.mem_filter.mp hy).2
  rw [hnone]
  simp [TrapRecord.isFor]

/-- With its notice on the line both wait for the end of the transmission. -/
theorem abandonTrap_of_sending {y : Sending} (h : s.provisionalOf l = some p) (hsend : s.line.sending = some y)
    (hy : p.isNotice y.notice = true) : (s.abandonTrap l).line.sending = some { y with withdrawn := true } ∧
      (s.abandonTrap l).trap? p.title p.rank = some { p with state := .provisional l true } ∧
      (s.abandonTrap l).standing = s.standing := by
  obtain ⟨q, hq⟩ := withdraw_u_of_sending hsend hy
  rw [abandonTrap_of_some h, if_pos (by simp [State.sendingIs, hsend, hy]), hq]
  exact ⟨rfl, trap?_putTrap _ { p with state := .provisional l true }, rfl⟩

/-- A transaction in AWAIT_TRAP gives its trap up last. -/
theorem giveBack_of_awaitTrap (ht : x.trap = .none) (hs : x.stage = .awaitTrap) (ha : s.awaitingOwn x = false)
    (hst : ((backAtOnce s l x).abandonTrap l).standing = (backAtOnce s l x).standing) :
    s.giveBack l x = (backAtOnce s l x).abandonTrap l := by
  rw [giveBack_eq, ← backAtOnce, trapBack_of_ne (by rw [ht]; decide), noticeBack_of_ne (by rw [hs]; decide),
    actionBack_of_none ((awaitingOwn_of_standing hst x).trans ((awaitingOwn_backAtOnce l x).trans ha))]

end Abandon

/-! ## CANCEL (R43) -/

section Cancel
variable {s : State} {l : LaneId} {x : Txn}

theorem cancelTooLate_of_txn (hx : (s.lane l).txn = some x) : s.cancelTooLate l =
    (x.committed || s.awaitingOwn x || (x.stage == .awaitLine && s.sendingIs (isBlockNotice x.stamp))) := by
  simp only [State.cancelTooLate, hx]

theorem cancelTooLate_of_none (hx : (s.lane l).txn = none) : s.cancelTooLate l = false := by
  simp only [State.cancelTooLate, hx]

theorem cancelCommand_of_working (h : Working (s.lane l)) : cancelCommand l s =
    if s.cancelTooLate l then (s, turnedAway tooLate 0) else (s.cancelWork l, ok) := by
  unfold cancelCommand
  obtain h | h | h := h <;> rw [h]

theorem cancelCommand_of_free (h : (s.lane l).state = .idle ∨ (s.lane l).state = .session) :
    cancelCommand l s = (s, refused 11 0) := by
  unfold cancelCommand
  obtain h | h := h <;> rw [h]

/-- A CANCEL that comes too late leaves the state alone. -/
theorem cancel_tooLate (hs : s.serves = true) (hw : Working (s.lane l)) (hl : s.cancelTooLate l = true) :
    exec (.cancel (byteOf (laneCode l))) s = .next { s with port := s.portAfter [2#8] .none } := by
  refine congrArg Host.Outcome.next (take_answers hs (r := turnedAway tooLate 0) ?_)
  have hlate : s.commandStatus.cancelTooLate l = true := by
    rw [State.commandStatus_eq, State.cancelTooLate, lane_port]
    exact hl
  rw [withLane_laneCode, cancelCommand_of_working (by rw [State.commandStatus_lane]; exact hw), hlate]
  rfl

/-- The work of a lane has been cancelled, from `s` to `t`. -/
structure Cancelled (s t : State) (l : LaneId) (x : Txn) : Prop where
  state : (t.lane l).state = .reporting
  txn : (t.lane l).txn = none
  unread : (t.lane l).unread = true
  cls : (t.lane l).result.cls = .cancelled
  operation : (t.lane l).result.operation = x.operation
  session : (t.lane l).session = (s.lane l).session
  trapWait : (t.lane l).trapWait = none
  blockWait : (t.lane l).blockWait = none
  latched : t.port.pending.getLsbD (causeResult l - 1) = true
  answer : t.port.answer = [0#8]
  waiting : ∀ r ∈ t.memory.waiting, r.op.lookupLane ≠ some l
  busy : ∀ r, t.memory.busy = some r → r.op.lookupLane = some l → r.discard = true
  attached : t.attached = s.attached
  copies : t.memory.copies = s.memory.copies
  other : t.lane (otherLane l) = s.lane (otherLane l)

theorem dropAsked_waiting (s : State) (l : LaneId) :
    ∀ r ∈ (s.dropAsked (isLaneLookup l)).memory.waiting, r.op.lookupLane ≠ some l := by
  intro r hr
  have hfilter : r ∈ s.memory.waiting.filter fun r => !isLaneLookup l r.op := hr
  simpa [isLaneLookup] using (List.mem_filter.mp hfilter).2

theorem dropAsked_busy (s : State) (l : LaneId) (r : MemRequest)
    (hr : (s.dropAsked (isLaneLookup l)).memory.busy = some r) (hl : r.op.lookupLane = some l) : r.discard = true := by
  have hmap : s.memory.busy.map (fun r => if isLaneLookup l r.op then { r with discard := true } else r) = some r := hr
  obtain ⟨q, -, rfl⟩ := Option.map_eq_some_iff.mp hmap
  by_cases hq : isLaneLookup l q.op
  · rw [if_pos hq]
  · rw [if_neg hq] at hl
    exact absurd (by simpa [isLaneLookup] using hl) hq

/-- The end of work that CANCEL gives up: what is given back decides the line and the traps. -/
theorem cancel_ends (hs : s.serves = true) (hstate : (s.lane l).state = .working ∨ (s.lane l).state = .checking)
    (hx : (s.lane l).txn = some x) (hc : x.committed = false) (hp : (s.lane l).endPending = false)
    (ha : s.awaitingOwn x = false) (hsend : x.stage = .awaitLine → s.line.sending = none) :
    ∃ p t, exec (.cancel (byteOf (laneCode l))) s = .next t ∧ Cancelled s t l x ∧
      t.line = (State.giveBack { s with port := p } l x).line ∧
      t.traps = (State.giveBack { s with port := p } l x).traps := by
  obtain ⟨p, hpend, -, hport, htake⟩ := take_of_serves hs
  have hlane : ∀ m, State.lane { s with port := p } m = s.lane m := fun m => lane_port s m p
  have hbusy : Working (State.lane { s with port := p } l) := by
    rw [hlane]
    exact hstate.elim (fun h => .inr (.inl h)) .inl
  have hearly : State.cancelTooLate { s with port := p } l = false := by
    rw [cancelTooLate_of_txn (by rw [hlane, hx])]
    have hnone : (x.stage == .awaitLine && State.sendingIs { s with port := p } (isBlockNotice x.stamp)) = false := by
      cases hst : x.stage == .awaitLine with
      | false => rfl
      | true => simp [State.sendingIs, hsend (by simpa using hst)]
    rw [hc, hnone, Bool.or_false]
    exact ha
  have hwork : State.cancelWork { s with port := p } l = State.endTxn { s with port := p } l .cancelled .none := by
    refine if_neg ?_
    rw [hlane]
    obtain h | h := hstate <;> rw [h] <;> decide
  have hwrote := wrote_endTxn (s := { s with port := p }) (x := x) (by rw [hlane, hx]) (by rw [hlane, hp]) .cancelled .none
  have hback := tablesOnly_giveBack { s with port := p } l x
  have hmem : (State.giveBack { s with port := p } l x).memory = (s.dropAsked (isLaneLookup l)).memory := hback.memory
  obtain ⟨hcls, -, hop⟩ := endedResult_end (s := State.giveBack { s with port := p } l x) (l := l) x .cancelled .none
  refine ⟨p, _, congrArg Host.Outcome.next (htake _ _), ?_⟩
  rw [withLane_laneCode, cancelCommand_of_working hbusy, hearly, if_neg (by decide), hwork, State.answer_eq]
  generalize State.endTxn { s with port := p } l .cancelled .none = t at hwrote ⊢
  have hl : ∀ m, (t.replied (ok.code :: ok.bytes) ok.effect).lane m = t.lane m := fun m => by cases m <;> rfl
  refine ⟨⟨?_, ?_, ?_, ?_, ?_, ?_, ?_, ?_, hwrote.latched, rfl, ?_, ?_, ?_, ?_, ?_⟩, hwrote.line, hwrote.traps⟩
  · rw [hl, hwrote.state]
  · rw [hl, hwrote.txn]
  · rw [hl, hwrote.unread]
  · rw [hl, hwrote.result, hcls]
  · rw [hl, hwrote.result, hop]
  · rw [hl, hwrote.session, lane_giveBack, hlane]
  · rw [hl, hwrote.trapWait]
  · rw [hl, hwrote.blockWait]
  · have hw : (t.replied (ok.code :: ok.bytes) ok.effect).memory = (s.dropAsked (isLaneLookup l)).memory :=
      hwrote.memory.trans hmem
    rw [hw]
    exact dropAsked_waiting s l
  · have hw : (t.replied (ok.code :: ok.bytes) ok.effect).memory = (s.dropAsked (isLaneLookup l)).memory :=
      hwrote.memory.trans hmem
    rw [hw]
    exact dropAsked_busy s l
  · exact hwrote.attached.trans (by rw [hback]; rfl)
  · exact (congrArg MemCtl.copies (hwrote.memory.trans hmem)).trans rfl
  · rw [hl, hwrote.other, lane_giveBack, hlane]

end Cancel

/-- Settles O23: the stages, each by what it gives back. -/
theorem cancelEndsUncommittedWork : Obligations.CancelEndsUncommittedWork := by
  intro l s hs
  refine ⟨fun hrep hnone => congrArg Host.Outcome.next ?_, fun hfree => congrArg Host.Outcome.next ?_,
    fun x hstate hx hc => ?_, fun x y hstate hx hstage hsend hy => ?_, fun x hstate hx hc hp ht ha => ?_⟩
  · refine take_changes hs (t := s.mapLane l fun c => { c with slot := none }) (r := ok) fun p => ?_
    have hearly : State.cancelTooLate { s with port := p } l = false :=
      cancelTooLate_of_none (by rw [lane_port, hnone])
    rw [withLane_laneCode, cancelCommand_of_working (by rw [lane_port]; exact .inr (.inr hrep)), hearly,
      if_neg (by decide), State.cancelWork, if_pos (by rw [lane_port, hrep]), mapLane_port]
  · refine take_answers hs (r := refused 11 0) ?_
    rw [withLane_laneCode, cancelCommand_of_free (by rw [State.commandStatus_lane]; exact hfree)]
  · refine cancel_tooLate hs (hstate.elim (fun h => .inr (.inl h)) .inl) ?_
    rw [cancelTooLate_of_txn hx, hc]
    rfl
  · refine cancel_tooLate hs (.inr (.inl hstate)) ?_
    rw [cancelTooLate_of_txn hx, hstage, State.sendingIs, hsend]
    simp only [hy, beq_self_eq_true, Bool.and_self, Bool.or_true]
  · intro cancels
    have hends : ∀ {holds : State → Prop}, (x.stage = .awaitLine → s.line.sending = none) →
        (∀ p t, t.line = (State.giveBack { s with port := p } l x).line →
          t.traps = (State.giveBack { s with port := p } l x).traps → holds t) → cancels holds := by
      intro holds hsend hholds
      obtain ⟨p, t, hexec, h, hline, htraps⟩ := cancel_ends hs hstate hx hc hp ha hsend
      exact ⟨t, hexec, h.state, h.txn, h.unread, h.cls, h.operation, h.session, h.trapWait, h.blockWait, h.latched,
        h.answer, h.waiting, h.busy, h.attached, h.copies, h.other, hholds p t hline htraps⟩
    refine ⟨fun hstage hprov => ?_, fun hstage q hprov => ⟨fun hsend => ?_, fun y hsend hy => ?_⟩,
      fun hstage hsend hprov => ?_⟩
    · have hne : x.stage ≠ .awaitLine := by obtain h | h | h := hstage <;> rw [h] <;> decide
      refine hends (fun h => absurd h hne) fun p t hline htraps => ?_
      obtain ⟨hl, htr⟩ := giveBack_of_none (s := { s with port := p }) (l := l) hprov ht fun h => absurd h hne
      rw [hline, htraps, hl, htr, if_neg hne]
      exact ⟨rfl, rfl⟩
    · refine hends (fun h => by rw [hstage] at h; cases h) fun p t hline htraps => ?_
      have hprov' : (backAtOnce { s with port := p } l x).provisionalOf l = some q :=
        (provisionalOf_backAtOnce l x).trans hprov
      have habandon := abandonTrap_of_queued hprov' (by rw [backAtOnce_frame]; exact hsend)
      rw [hline, htraps, giveBack_of_awaitTrap (s := { s with port := p }) ht hstage ha (by rw [habandon]), habandon, backAtOnce_frame]
      exact ⟨rfl, rfl⟩
    · refine hends (fun h => by rw [hstage] at h; cases h) fun p t hline htraps => ?_
      have hprov' : (backAtOnce { s with port := p } l x).provisionalOf l = some q :=
        (provisionalOf_backAtOnce l x).trans hprov
      obtain ⟨hsending, htrap, hst⟩ := abandonTrap_of_sending hprov' (by rw [backAtOnce_frame]; exact hsend) hy
      rw [hline, giveBack_of_awaitTrap (s := { s with port := p }) ht hstage ha hst]
      refine ⟨hsending, ?_⟩
      rw [State.trap?, htraps, giveBack_of_awaitTrap (s := { s with port := p }) ht hstage ha hst]
      exact htrap
    · refine hends (fun _ => hsend) fun p t hline htraps => ?_
      obtain ⟨hl, htr⟩ := giveBack_of_none (s := { s with port := p }) (l := l) hprov ht fun _ => hsend
      rw [hline, htraps, hl, htr, if_pos hstage]
      exact ⟨rfl, rfl⟩

/-! ## The waits expire (R35, R41) -/

section Waits
variable {s : State} {l : LaneId} {x : Txn} {p : TrapRecord} {k : Nat}

/-- With the frame on the line the wait takes effect at the end of its transmission. -/
theorem blockWaitExpired_of_sending {y : Sending} (hx : (s.lane l).txn = some x) (hk : (s.lane l).blockWait = some k)
    (hsend : s.line.sending = some y) (hy : isBlockNotice x.stamp y.notice = true) : s.blockWaitExpired l =
      { s.mapLane l fun c => { c with blockWait := none, txn := some { x with waitExpired := true } } with
        line := { s.line with sending := some { y with withdrawn := true } } } := by
  simp only [State.blockWaitExpired, hk, hx]
  rw [if_pos (by rw [State.sendingIs, State.mapLane_line, hsend]; exact hy)]
  simp only [State.markWithdrawn, State.mapLane_line, hsend, hy, if_true]
  cases l with
  | a =>
    have htxn : s.laneA.txn = some x := hx
    simp only [State.mapTxn, State.mapLane, State.setLane, State.lane, htxn, Option.map_some]
  | b =>
    have htxn : s.laneB.txn = some x := hx
    simp only [State.mapTxn, State.mapLane, State.setLane, State.lane, htxn, Option.map_some]

theorem blockWaitExpired_of_idle (hx : (s.lane l).txn = some x) (hk : (s.lane l).blockWait = some k)
    (hsend : s.line.sending = none) : s.blockWaitExpired l =
      (s.mapLane l fun c => { c with blockWait := none }).endTxn l .failed .lineBusy := by
  simp only [State.blockWaitExpired, hk, hx]
  exact if_neg (by rw [State.sendingIs, State.mapLane_line, hsend]; exact Bool.false_ne_true)

theorem trapWaitExpired_of_sending {y : Sending} (hx : (s.lane l).txn = some x) (hk : (s.lane l).trapWait = some k)
    (hp : s.provisionalOf l = some p) (hsend : s.line.sending = some y) (hy : p.isNotice y.notice = true) :
    s.trapWaitExpired l =
      { s.mapLane l fun c => { c with trapWait := none, txn := some { x with waitExpired := true } } with
        line := { s.line with sending := some { y with withdrawn := true } } } := by
  simp only [State.trapWaitExpired, hk, hp]
  rw [if_pos (by rw [State.sendingIs, State.mapLane_line, hsend]; exact hy)]
  simp only [State.markWithdrawn, State.mapLane_line, hsend, hy, if_true]
  cases l with
  | a =>
    have htxn : s.laneA.txn = some x := hx
    simp only [State.mapTxn, State.mapLane, State.setLane, State.lane, htxn, Option.map_some]
  | b =>
    have htxn : s.laneB.txn = some x := hx
    simp only [State.mapTxn, State.mapLane, State.setLane, State.lane, htxn, Option.map_some]

/-- The state at which a return goes on with its trap given up. -/
def trapGivenUp (s : State) (l : LaneId) (p : TrapRecord) : State :=
  { s.mapLane l fun c => { c with trapWait := none } with
    line := { s.line with u := s.line.u.filter fun n => !p.isNotice n }
    traps := s.traps.filter fun y => !y.isFor p.title p.rank }

theorem trapWaitExpired_of_idle (hk : (s.lane l).trapWait = some k) (hp : s.provisionalOf l = some p)
    (hsend : s.line.sending = none) : s.trapWaitExpired l = (trapGivenUp s l p).returnOn l .unconfirmed := by
  simp only [State.trapWaitExpired, hk, hp]
  rw [if_neg (by rw [State.sendingIs, State.mapLane_line, hsend]; exact Bool.false_ne_true),
    abandonTrap_of_queued ((provisionalOf_of_traps (State.mapLane_traps s l _) l).trans hp)
      (by rw [State.mapLane_line, hsend]), State.mapLane_line, State.mapLane_traps]
  rfl

/-- The context of a return at COMMIT with a trap outcome. -/
def outcomeAs (o : TrapOutcome) (x : Txn) : Txn :=
  { x with trap := o, waitExpired := false, hold := if o = .trapped then x.hold else none, stage := .commit }

/-- A return goes on with its trap's outcome, and is committed at once. -/
theorem returnOn_of_out {n : Nat} {basis : Basis} {a : LoanPart} (o : TrapOutcome) (hx : (s.lane l).txn = some x)
    (hn : x.item = some n) (hb : x.borrower = some a.borrower) (hfound : x.found = some ⟨basis, some a⟩)
    (hdue : x.due = (a.dueDay, a.dueMinute)) (hday : x.reckonDay = s.clock.day)
    (hout : Out s n basis a a) (hc : s.commitRefusal = none) (hused : s.overlay.used < 8192)
    (hf : s.memory.faulted = false) (hbusy : s.memory.busy = none) (hw : s.memory.waiting = []) :
    s.returnOn l o =
      { s.mapLane l fun c => { c with trapWait := none, txn := some (committedAs (s.line.stamps + 1) (outcomeAs o x)) } with
        line := { s.line with stamps := s.line.stamps + 1 }
        overlay := if (s.item? n).isSome then s.overlay else s.overlay.setRoom l true
        memory := { s.memory with
          requested := s.memory.requested + 1
          busy := some ⟨.append (s.recordFor l (outcomeAs o x) (s.line.stamps + 1)), false⟩ } } := by
  let f : Txn → Txn := fun x => { x with trap := o, waitExpired := false, hold := if o = .trapped then x.hold else none }
  let u := s.mapTxn l f
  have hu : s.returnOn l o = u.commitReturn l := rfl
  have hlane : (u.lane l).txn = some (f x) := by
    simp only [u, State.mapTxn, State.lane_mapLane, hx, Option.map_some]
  have hnow : (u.itemNow n x.found).loan = some a := by
    rw [hfound]
    exact (congrArg ItemAnswer.loan (itemNow_mapLane _ _)).trans (itemNow_loan_iff.mpr hout)
  have hreckoned : returnReckoned u n (f x) a = outcomeAs o x := by
    have hclock : u.clock = s.clock := State.mapTxn_clock s l _
    simp only [f, returnReckoned, hclock, hday, hdue, and_self, if_true]
    rw [← hday, ← hdue]
    rfl
  rw [hu, commitReturn_of_out hlane hn hb hnow, hreckoned]
  refine (congrArg (fun t => State.commitItem t l n) (mapLane_mapLane s l _ _)).trans ((commitItem_of_room (y := outcomeAs o x)
    (o := if (s.item? n).isSome then s.overlay else s.overlay.setRoom l true) ?_ ?_ ?_ ?_ ?_ ?_).trans ?_)
  · cases l <;> exact hc
  · refine (setAsideRoom_of_free (by rw [State.mapLane_overlay]; exact hused)).trans ?_
    cases l <;> rfl
  · simp only [State.lane_mapLane, Function.comp_apply]
  · rw [State.mapLane_memory, hbusy]
  · rw [State.mapLane_memory, hw]
  · rw [State.mapLane_memory, hf]
  · cases l <;> rfl

/-- The context of a return whose trap is not confirmed in time, as it is committed. -/
def unconfirmed (x : Txn) (stamp : Nat) : Txn :=
  { x with
    trap := .unconfirmed, hold := none, waitExpired := false, stage := .commit, committed := true, stamp := stamp }

/-- A return goes on with its trap unconfirmed, and is committed at once. -/
theorem returnOn_unconfirmed {n b : Nat} {basis : Basis} {a : LoanPart} (hx : (s.lane l).txn = some x)
    (hop : x.operation = .ret) (hn : x.item = some n) (hb : x.borrower = some b) (hfound : x.found = some ⟨basis, some a⟩)
    (hab : a.borrower = b) (hdue : x.due = (a.dueDay, a.dueMinute)) (hday : x.reckonDay = s.clock.day)
    (hout : Out s n basis a a) (hc : s.commitRefusal = none) (hused : s.overlay.used < 8192)
    (hf : s.memory.faulted = false) (hbusy : s.memory.busy = none) (hw : s.memory.waiting = []) :
    s.returnOn l .unconfirmed =
      { s.mapLane l fun c => { c with trapWait := none, txn := some (unconfirmed x (s.line.stamps + 1)) } with
        line := { s.line with stamps := s.line.stamps + 1 }
        overlay := if (s.item? n).isSome then s.overlay else s.overlay.setRoom l true
        memory := { s.memory with
          requested := s.memory.requested + 1
          busy := some ⟨.append
            { number := s.memory.copies.head + s.memory.requested, stamp := s.line.stamps + 1, kind := .ret
              lane := l, day := s.clock.day, minute := s.clock.minute, borrower := b, item := n, dueDay := 0
              dueMinute := 0, holdBorrower := 0, amount := x.fine, outcome := 2, edition := s.edition }, false⟩ } } := by
  subst hab
  rw [returnOn_of_out .unconfirmed hx hn hb hfound hdue hday hout hc hused hf hbusy hw,
    recordFor_of_return (y := outcomeAs .unconfirmed x) hop hn hb (fun h => nomatch h)]
  cases l <;> rfl

end Waits

/-- Settles O25: each wait with its frame on the line, and with its notice only queued. -/
theorem lineWaitsExpire : Obligations.LineWaitsExpire := by
  intro l x k s hx
  refine ⟨fun hk hstage => ⟨fun y hsend hy => congrArg Host.Outcome.next (blockWaitExpired_of_sending hx hk hsend hy),
    fun hsend hp hprov ht => ?_⟩, fun hk p hprov => ⟨fun y hsend hy =>
      congrArg Host.Outcome.next (trapWaitExpired_of_sending hx hk hprov hsend hy),
    fun hsend => congrArg Host.Outcome.next (trapWaitExpired_of_idle hk hprov hsend),
    fun n b basis a hsend hop hn hb hfound hab hdue hday hout hc hused hf hbusy hw => congrArg Host.Outcome.next ?_⟩⟩
  · refine ⟨_, congrArg Host.Outcome.next (blockWaitExpired_of_idle hx hk hsend), ?_⟩
    generalize hu : (s.mapLane l fun c => { c with blockWait := none }) = u
    have hline : u.line = s.line := by rw [← hu, State.mapLane_line]
    have hlane : (u.lane l).txn = some x ∧ (u.lane l).endPending = false := by
      rw [← hu, State.lane_mapLane]
      exact ⟨hx, hp⟩
    have hother : u.lane (otherLane l) = s.lane (otherLane l) := by rw [← hu, lane_mapLane_otherLane]
    have hwrote := wrote_endTxn hlane.1 hlane.2 .failed .lineBusy
    obtain ⟨hcls, hwhy, -⟩ := endedResult_end (s := u.giveBack l x) (l := l) x .failed .lineBusy
    have hprov' : u.provisionalOf l = none := by rw [← hu]; cases l <;> exact hprov
    obtain ⟨hl, -⟩ := giveBack_of_none hprov' ht fun _ => by rw [hline, hsend]
    refine ⟨hwrote.state, hwrote.txn, hwrote.blockWait, by rw [hwrote.result, hcls], by rw [hwrote.result, hwhy], ?_, ?_, ?_⟩
    · rw [hwrote.line, hl, if_pos hstage, hline]
    · rw [hwrote.attached, tablesOnly_giveBack]
      rw [← hu]
      exact State.mapLane_attached s l _
    · rw [hwrote.other, lane_giveBack, hother]
  · refine (trapWaitExpired_of_idle hk hprov hsend).trans ?_
    refine (returnOn_unconfirmed (s := trapGivenUp s l p) (x := x) (by cases l <;> exact hx) hop hn hb hfound hab hdue
      (by cases l <;> exact hday) (by cases l <;> exact hout.imp (fun ⟨hnone, hroll⟩ => ⟨hnone, hroll, rfl⟩) id) (by cases l <;> exact hc) (by cases l <;> exact hused)
      (by cases l <;> exact hf) (by cases l <;> exact hbusy) (by cases l <;> exact hw)).trans ?_
    cases l <;> rfl

end Sys2Proof.Proofs

/-! The loans-list lookup at the lanes, and how it judges an item (R31, R34, R39, R88). -/

namespace Sys2Proof.Proofs
open Sys2Proof Sys2Proof.Machine

/-! ## A lookup that ends at its lane (R131, R132) -/

section Lookups
variable {s u : State} {l : LaneId} {x y : Txn} {n b : Nat} {e : Entry}

theorem atWork_freePort (hx : (s.lane l).txn = some x) : AtWork s s.freePort l x where
  rest := rfl
  lane := ⟨(s.lane l).trapWait, by rw [← hx]; cases l <;> rfl⟩
  other := by cases l <;> rfl
  incomplete := rfl

theorem loansLookupDone_lane (h : s.memory.busy = some ⟨.loansLookup (.lane l) n, false⟩) :
    s.loansLookupDone = (s.freePort.laneLoan l (s.lookupLoan n)).grant := by
  simp only [State.loansLookupDone, h]
  rfl

theorem loansLookupDone_discarded {k : Nat} (h : s.memory.busy = some ⟨.loansLookup (.lane l) k, true⟩) :
    s.loansLookupDone = (s.freePort.resumeLane l).grant := by
  simp only [State.loansLookupDone, h, if_true]

theorem holdLookupDone_lane {title : Nat} (h : s.memory.busy = some ⟨.holdLookup (.lane l) title, false⟩) :
    s.holdLookupDone = (s.freePort.laneHolds l (s.lookupHolds title)).grant := by
  simp only [State.holdLookupDone, h]
  rfl

theorem exec_loansListLookup {t : State} (h : s.memory.busy = some ⟨.loansLookup (.lane l) n, false⟩)
    (ht : s.freePort.laneLoan l (s.lookupLoan n) = t) : exec .loansListLookupComplete s = .next t.grant :=
  congrArg Host.Outcome.next ((loansLookupDone_lane h).trans (congrArg State.grant ht))

theorem exec_holdLookup {t : State} {title : Nat} (h : s.memory.busy = some ⟨.holdLookup (.lane l) title, false⟩)
    (ht : s.freePort.laneHolds l (s.lookupHolds title) = t) : exec .holdLookupComplete s = .next t.grant :=
  congrArg Host.Outcome.next ((holdLookupDone_lane h).trans (congrArg State.grant ht))

theorem laneLoan_of_found (hx : (s.lane l).txn = some x) (a : ItemAnswer) :
    s.laneLoan l (.found a) = s.itemFound l x a := by simp only [State.laneLoan, hx]

theorem laneLoan_of_missing (hx : (s.lane l).txn = some x) (hop : x.operation ≠ .inquire) :
    s.laneLoan l .missing = s.itemFound l x ⟨.today, none⟩ := by simp only [State.laneLoan, hx, if_neg hop]

theorem laneLoan_of_fault (hx : (s.lane l).txn = some x) : s.laneLoan l .fault = s.endTxn l .failed .lookupFault := by
  simp only [State.laneLoan, hx]

theorem Near.grant (h : Near s u l) (hw : s.memory.waiting = []) : u.grant = u :=
  grant_of_no_waiting (by rw [h.memory]; exact hw)

theorem lendFound_of_out {a : ItemAnswer} {loan : LoanPart} (ha : a.loan = some loan) :
    s.lendFound l x a = s.endTxn l .refused (if loan.borrower = x.borrower.getD 0 then .onLoanSame else .onLoan) := by
  simp only [State.lendFound, ha]

theorem returnFound_of_in {a : ItemAnswer} (ha : a.loan = none) : s.returnFound l x a = s.endTxn l .refused .notOnLoan := by
  simp only [State.returnFound, ha]

end Lookups

/-- Settles O30: the answer by its operation, each ending in a result. -/
theorem loansLookupJudgesTheItem : Obligations.LoansLookupJudgesTheItem := by
  intro l n x s hb hw hx hn hstage ht hp hprov hown reports
  have hwork := atWork_freePort hx
  have hx' : (s.freePort.lane l).txn = some x := hwork.txn
  have hp' : (s.freePort.lane l).endPending = false := by cases l <;> exact hp
  have hreports : ∀ {t r}, Near s t l → Reports t l r → reports t := fun hnear hr =>
    ⟨hr.state, hr.txn, hr.unread, hnear.session, hnear.memory, hnear.attached, hnear.entries, hnear.traps, hnear.line,
      hnear.other⟩
  have hwrites : ∀ src r, s.loansLookupDone = (s.freePort.writeResult l src r).grant →
      ∃ t, exec .loansListLookupComplete s = .next t ∧ reports t ∧ (t.lane l).result = r := fun src r hdone => by
    have hwrote := wrote_writeResult hp' src r
    have hnear := hwork.near.wrote hwrote
    rw [hnear.grant hw] at hdone
    exact ⟨_, congrArg Host.Outcome.next hdone, hreports hnear hwrote.reports, hwrote.result⟩
  have hends : ∀ c why, s.loansLookupDone = (s.freePort.endTxn l c why).grant →
      ∃ t, exec .loansListLookupComplete s = .next t ∧ reports t ∧ (t.lane l).result.cls = c ∧
        (t.lane l).result.reason = why := fun c why hdone => by
    obtain ⟨hwrote, hnear⟩ := hwork.ends (by rw [ht]; decide) (by rw [hstage]; decide) hw hp hprov hown c why
    obtain ⟨hcls, hwhy, -⟩ := endedResult_end (s := backAtOnce s.freePort l x) (l := l) x c why
    rw [hnear.grant hw] at hdone
    exact ⟨_, congrArg Host.Outcome.next hdone, hreports hnear hwrote.reports, by rw [hwrote.result, hcls],
      by rw [hwrote.result, hwhy]⟩
  have hmode : (s.freePort.lane l).mode = (s.lane l).mode := by cases l <;> rfl
  refine ⟨fun hop a ha => ?_, fun hop ha => ?_, fun hop b a hborrower ha => ?_, fun hop ha => ?_, fun ha => ?_⟩
  · obtain ⟨t, ht, hr, hres⟩ := hwrites x.source _ (by
      rw [loansLookupDone_lane hb, ha, laneLoan_of_found hx', State.itemFound, hop, State.inquireItemFound])
    refine ⟨t, ht, hr, hres.trans ?_⟩
    rw [State.plainResult, hmode, hn]
    rfl
  · obtain ⟨t, ht, hr, hres⟩ := hwrites x.source _ (by
      rw [loansLookupDone_lane hb, ha, State.laneLoan, hx']
      simp only [hop, if_true, State.inquireItemFound]
      rfl)
    refine ⟨t, ht, hr, hres.trans ?_⟩
    rw [State.plainResult, hmode, hn]
    rfl
  · refine hends .refused _ ?_
    rw [loansLookupDone_lane hb, ha, laneLoan_of_found hx', State.itemFound, hop]
    refine congrArg State.grant ((lendFound_of_out rfl).trans ?_)
    rw [hborrower]
    rfl
  · refine hends .refused _ ?_
    rw [loansLookupDone_lane hb, ha, laneLoan_of_missing hx' (by rw [hop]; decide), State.itemFound, hop]
    exact congrArg State.grant (returnFound_of_in rfl)
  · refine hends .failed _ ?_
    rw [loansLookupDone_lane hb, ha, laneLoan_of_fault hx']

end Sys2Proof.Proofs

/-! A hold lookup's answer at a return: the trap it makes, or the COMMIT it goes to (R35, R36, R88, R95, R97). -/

namespace Sys2Proof.Proofs
open Sys2Proof Sys2Proof.Machine

/-! ## The lane at work, step by step -/

section Steps
variable {s u : State} {l : LaneId} {x y : Txn} {n b : Nat} {e : Entry}

theorem AtWork.mapLane (h : AtWork s u l y) {f : LaneCtl → LaneCtl} {z : Txn} {w : Timer}
    (hf : f (u.lane l) = { s.lane l with txn := some z, trapWait := w }) : AtWork s (u.mapLane l f) l z where
  rest := by
    refine (mapLane_frame u l f).trans ?_
    rw [h.rest]
    cases l <;> rfl
  lane := ⟨w, by rw [State.lane_mapLane, hf]⟩
  other := by rw [lane_mapLane_otherLane, h.other]
  incomplete := by rw [State.mapLane_standing, h.incomplete]

theorem AtWork.mapTxn (h : AtWork s u l y) (g : Txn → Txn) : AtWork s (u.mapTxn l g) l (g y) := by
  obtain ⟨w, hl⟩ := h.lane
  exact h.mapLane (w := w) (by rw [hl]; rfl)

theorem AtWork.recordFor (h : AtWork s u l y) (z : Txn) (stamp : Nat) : u.recordFor l z stamp = s.recordFor l z stamp :=
  recordFor_of_lane u (by rw [h.memory]) (by rw [h.memory]) h.clock stamp

theorem HoldsEntry.mapLane (h : HoldsEntry u b e) (m : LaneId) (f : LaneCtl → LaneCtl) : HoldsEntry (u.mapLane m f) b e :=
  h.of_standing (by rw [State.mapLane_standing])

theorem AtWork.fineNow (h : AtWork s u l y) (n : Nat) (q : LoanPart) : u.fineNow n q = s.fineNow n q := by
  simp only [State.fineNow, h.rules, h.clock]

theorem AtWork.itemNow (h : AtWork s u l y) (n : Nat) (found : Option ItemAnswer) :
    u.itemNow n found = s.itemNow n found := by
  simp only [State.itemNow, h.item]

theorem AtWork.returnReckoned (h : AtWork s u l y) (z : Txn) (q : LoanPart) :
    returnReckoned u n z q = returnReckoned s n z q := by
  simp only [Proofs.returnReckoned, h.clock, h.fineNow]

end Steps

/-! ## A return goes to COMMIT (R36) -/

/-- No end of session is pending at the lane, no trap waits for it, and no own action of its work awaits an append. -/
def Undisturbed (s : State) (l : LaneId) (x : Txn) : Prop :=
  (s.lane l).endPending = false ∧ s.provisionalOf l = none ∧ s.awaitingOwn x = false

/-- A context at COMMIT with no trap. -/
def untrappedAs (o : TrapOutcome) (x : Txn) : Txn := { x with trap := o, waitExpired := false, hold := none }

section Return
variable {s u : State} {l : LaneId} {x y : Txn} {n b : Nat} {e : Entry} {o : TrapOutcome} {basis : Basis} {a : LoanPart}
  {cmd : Instr} {v : Bool} {op : Operation}

/-- A test of item work that fails ends it, REFUSED or FAILED, at the lookup's completion. -/
theorem AtWork.refuses (h : AtWork s u l y) (hy : ItemWork y) (hw : s.memory.waiting = []) (hb : y.borrower = some b)
    (hop : y.operation = op) (he : HoldsEntry u b (e.setReserved l v)) (hv : op = .lend ∨ v = false)
    (hown : s.awaitingOwn x = ((e.record y.blockReason).awaits y.stamp).isSome) {c : ResultClass} {why : Reason}
    (hcmd : exec cmd s = .next (u.endTxn l c why).grant) (hq : Undisturbed s l x) :
    ∃ t, exec cmd s = .next t ∧ s.endsWork t l op c b e why := by
  subst hop
  obtain ⟨hp, hprov, ha⟩ := hq
  have hends := h.endsWork hy hw hb he hv hp hprov (hown.symm.trans ha) c why
  have hmem : (u.endTxn l c why).memory = { s.memory with busy := none } := hends.2.2.2.2.2.2.2.2.1
  rw [grant_of_no_waiting (by rw [hmem]; exact hw)] at hcmd
  exact ⟨_, hcmd, hends⟩

/-- Item work that passes its tests is committed at the lookup's completion. -/
theorem AtWork.accepts (h : AtWork s u l y) (hr : s.overlay.room l = false) {left : List ItemEntry}
    (hn : s.roomLeaves n left) (hc : s.commitRefusal = none) (hw : s.memory.waiting = []) (hf : s.memory.faulted = false)
    {kind : RecordKind} {due : Nat × Nat} {amount : Nat} (hrec : s.recordFor l y (s.line.stamps + 1) =
      { number := s.memory.copies.head + s.memory.requested, stamp := s.line.stamps + 1, kind := kind, lane := l
        day := s.clock.day, minute := s.clock.minute, borrower := b, item := n, dueDay := due.1, dueMinute := due.2
        holdBorrower := 0, amount := amount, outcome := if kind = .ret then y.trap.code else 0, edition := s.edition })
    (hcmd : exec cmd s = .next (u.commitItem l n).grant) : ∃ t, exec cmd s = .next t ∧
      s.commits t l y kind b n due amount left ∧ (t.lane l).state = (s.lane l).state ∧ t.standing = u.standing := by
  obtain ⟨hcommits, hstate, hstanding⟩ := h.commits hr hn hc hw hf ((h.recordFor y _).trans hrec)
  rw [grant_busy (by rw [hcommits.2.1])] at hcmd
  exact ⟨_, hcmd, hcommits, hstate, hstanding⟩

/-- COMMIT's last tests of item work, and the record it requests (R30, R89, R137). -/
theorem AtWork.goesOn (h : AtWork s u l y) (hy : ItemWork y) (hw : s.memory.waiting = []) (hb : y.borrower = some b)
    (hop : y.operation = op) (he : HoldsEntry u b (e.setReserved l v)) (hv : op = .lend ∨ v = false)
    (hown : s.awaitingOwn x = ((e.record y.blockReason).awaits y.stamp).isSome) (hr : s.overlay.room l = false)
    {kind : RecordKind} {due : Nat × Nat} {amount : Nat} (hrec : s.recordFor l y (s.line.stamps + 1) =
      { number := s.memory.copies.head + s.memory.requested, stamp := s.line.stamps + 1, kind := kind, lane := l
        day := s.clock.day, minute := s.clock.minute, borrower := b, item := n, dueDay := due.1, dueMinute := due.2
        holdBorrower := 0, amount := amount, outcome := if kind = .ret then y.trap.code else 0, edition := s.edition })
    (hcmd : exec cmd s = .next (u.commitItem l n).grant) :
    let records := s.memory.copies.head - s.memory.copies.tail + s.memory.requested
    let refused := fun why => Undisturbed s l x → ∃ t, exec cmd s = .next t ∧ s.endsWork t l op .refused b e why
    (16384 ≤ records → refused .journalFull) ∧
    (records < 16384 → 65535 ≤ s.line.stamps → refused .stampsExhausted) ∧
    (records < 16384 → s.line.stamps < 65535 →
      (s.noRoomFor n → refused .tableFull) ∧
      (∀ left, s.roomLeaves n left → s.memory.faulted = false → ∃ t, exec cmd s = .next t ∧
        s.commits t l y kind b n due amount left ∧ (t.lane l).state = (s.lane l).state ∧ t.standing = u.standing)) := by
  intro records refused
  have hrefused : ∀ why, u.commitItem l n = u.endTxn l .refused why → refused why := fun why heq =>
    h.refuses hy hw hb hop he hv hown (hcmd.trans (by rw [heq]))
  refine ⟨fun hfull => hrefused _ ?_, fun hroom hst => hrefused _ ?_, fun hroom hst => ⟨fun hnone => hrefused _ ?_,
    fun left hleft hf => h.accepts hr hleft (commitRefusal_of_room hroom hst) hw hf hrec hcmd⟩⟩
  · exact commitItem_of_refusal (h.commitRefusal.trans (commitRefusal_of_full hfull))
  · exact commitItem_of_refusal (h.commitRefusal.trans (commitRefusal_of_stamps hroom hst))
  · exact commitItem_of_noRoom (h.commitRefusal.trans (commitRefusal_of_room hroom hst)) (by rw [h.overlay]; exact hr)
      (h.noRoomFor hnone)

/-- COMMIT's tests of a return that has no trap, and the record it requests (R36). -/
theorem returnOn_commits (ho : o ≠ .trapped) (h : AtWork s u l y) (hop : y.operation = .ret) (hi : y.item = some n)
    (hb : y.borrower = some b) (hfound : y.found = some ⟨basis, some a⟩) (hstage : y.stage = .hold)
    (he : s.entry? b = some e) (hres : e.reserved l = false) (hr : s.overlay.room l = false)
    (hw : s.memory.waiting = []) (hst : u.standing = s.standing) (hown : s.awaitingOwn x = s.awaitingOwn y)
    (hcmd : exec cmd s = .next (u.returnOn l o).grant) :
    ((∀ q, Out s n basis a q → q.borrower ≠ b) → Undisturbed s l x →
      ∃ t, exec cmd s = .next t ∧ s.endsWork t l .ret .refused b e .notOnLoan) ∧
    (∀ q, Out s n basis a q → q.borrower = b →
      let records := s.memory.copies.head - s.memory.copies.tail + s.memory.requested
      let z := returnReckoned s n (untrappedAs o y) q
      let refused := fun why => Undisturbed s l x → ∃ t, exec cmd s = .next t ∧ s.endsWork t l .ret .refused b e why
      (16384 ≤ records → refused .journalFull) ∧
      (records < 16384 → 65535 ≤ s.line.stamps → refused .stampsExhausted) ∧
      (records < 16384 → s.line.stamps < 65535 →
        (s.noRoomFor n → refused .tableFull) ∧
        (∀ left, s.roomLeaves n left → s.memory.faulted = false → ∃ t, exec cmd s = .next t ∧
          s.commits t l z .ret b n (0, 0) z.fine left ∧ (t.lane l).state = (s.lane l).state ∧
          t.standing = s.standing))) := by
  have hreturn : u.returnOn l o = (u.mapTxn l (untrappedAs o)).commitReturn l := by
    simp only [State.returnOn, if_neg ho]
    rfl
  have hat := h.mapTxn (untrappedAs o)
  have hholds : HoldsEntry u b (e.setReserved l false) := by
    rw [← hres, setReserved_of_reserved]
    exact (HoldsEntry.of_entry he).of_standing (by rw [hst])
  have hown' : s.awaitingOwn x = ((e.record y.blockReason).awaits y.stamp).isSome :=
    hown.trans (awaitingOwn_of_holds (.of_entry he) hb)
  rw [hreturn] at hcmd
  have hitem : ∀ z : Txn, z.operation = .ret → z.trap = o → z.stage ≠ .awaitLine → ItemWork z := fun z hz ht hs =>
    ⟨by rw [hz]; decide, by rw [ht]; exact ho, hs⟩
  refine ⟨fun hno => ?_, fun q hq hqb => ?_⟩
  · rw [commitReturn_of_not_out hat.txn hi fun q hq => ?_] at hcmd
    · have hlast := hat.mapLane (f := fun c => { c with trapWait := none }) (z := untrappedAs o y) (w := none) (by
        obtain ⟨w, hl⟩ := hat.lane
        rw [hl])
      exact hlast.refuses (hitem _ hop rfl (by rw [untrappedAs, hstage]; decide)) hw hb hop
        ((hholds.mapLane l _).mapLane l _) (.inr rfl) hown' hcmd
    · rw [hat.itemNow, untrappedAs, hfound] at hq
      exact fun hborrower => hno q (itemNow_loan_iff.mp hq) (by rw [untrappedAs, hb] at hborrower; simpa using hborrower.symm)
  · intro records z refused
    rw [commitReturn_of_out hat.txn hi (by rw [untrappedAs, hb, hqb])
      (by rw [hat.itemNow, untrappedAs, hfound]; exact itemNow_loan_iff.mpr hq), hat.returnReckoned] at hcmd
    have hlast : AtWork s ((u.mapTxn l (untrappedAs o)).mapLane l fun c => { c with trapWait := none, txn := some z }) l z :=
      hat.mapLane (w := none) (by
        obtain ⟨w, hl⟩ := hat.lane
        rw [hl])
    have hgoes := hlast.goesOn (hitem z hop rfl (by simp [z, returnReckoned])) hw hb (op := .ret) hop
      ((hholds.mapLane l _).mapLane l _) (.inr rfl) hown' hr (n := n) (kind := .ret) (due := (0, 0)) (amount := z.fine)
      (recordFor_of_return (y := z) hop hi hb (by exact ho) _) hcmd
    rwa [State.mapLane_standing, State.mapTxn_standing, hst] at hgoes

end Return

/-! ## The trap (R95, R97) -/

section Trap
variable {s : State} {l : LaneId} {n : Nat} {h : Hold}

/-- A PROVISIONAL record that a return makes, and its TRAP notice. -/
def provisionalTrap (s : State) (l : LaneId) (n : Nat) (h : Hold) : TrapRecord :=
  ⟨itemTitle n, h.rank, h.borrower, n, s.number, .provisional l false, s.line.stamps + 1⟩

def trappedNotice (s : State) (n : Nat) (h : Hold) : Notice :=
  ⟨s.line.stamps + 1, toAll, .trap ⟨itemTitle n, h.rank, h.borrower, n⟩ s.number .trapped⟩

theorem handStamped_of_room {body : Body} {c : TxClass} (hc : kindClass body = c)
    (hroom : (s.queueOf c).length < depthOf c) (hs : s.line.stamps < 65535) :
    s.handStamped body = (s.takeStamp.setQueueOf c (s.queueOf c ++ [⟨s.line.stamps + 1, toAll, body⟩]),
      some (s.line.stamps + 1)) := by
  subst hc
  unfold State.handStamped
  rw [if_pos (by simp [State.room, hroom, stampsOut_of_lt hs])]
  cases kindClass body <;> rfl

theorem makeTrap_of_room (hnone : s.trap? (itemTitle n) h.rank = none) (hlen : s.traps.length < 512)
    (hu : s.line.u.length < 8) (hs : s.line.stamps < 65535) : s.makeTrap l n h = some { s with
      line := { s.line with stamps := s.line.stamps + 1, u := s.line.u ++ [trappedNotice s n h] }
      traps := s.traps ++ [provisionalTrap s l n h] } := by
  have hroom : s.trapRoom (itemTitle n) h.rank = some s := if_pos (by
    rw [hnone]
    exact decide_eq_true hlen)
  have hkeep : s.traps.filter (fun x => !x.isFor (itemTitle n) h.rank) = s.traps :=
    List.filter_eq_self.mpr fun y hy => by simpa using List.find?_eq_none.mp hnone y hy
  simp only [State.makeTrap, hroom]
  rw [handStamped_of_room (c := .u) rfl (by exact hu) hs]
  refine congrArg some ?_
  simp only [State.putTrap, State.setTraps, State.setQueueOf, State.takeStamp, hkeep]
  rfl

variable {x : Txn} {hs : List Hold}

theorem tryTrap_of_none (hx : (s.lane l).txn = some x) (hi : x.item = some n)
    (hf : s.firstUntrapped (itemTitle n) x.holds = none) : s.tryTrap l = s.returnOn l .none := by
  simp only [State.tryTrap, hx, hi, Option.getD_some, hf]

theorem tryTrap_of_some {t : State} (hx : (s.lane l).txn = some x) (hi : x.item = some n)
    (hf : s.firstUntrapped (itemTitle n) x.holds = some h) (ht : s.makeTrap l n h = some t) : s.tryTrap l =
      (t.mapTxn l fun x => { x with stage := .awaitTrap, hold := some h }).mapLane l fun c =>
        { c with trapWait := c.trapWait.or (some Config.trapWaitMs) } := by
  simp only [State.tryTrap, hx, hi, Option.getD_some, hf, ht]

theorem laneHolds_of_return (hx : (s.lane l).txn = some x) (hop : x.operation = .ret) :
    s.laneHolds l (.found hs) = (s.mapTxn l fun x => { x with holds := hs }).tryTrap l := by
  simp only [State.laneHolds, hx, hop, if_true]

theorem laneHolds_fault_of_return (hx : (s.lane l).txn = some x) (hop : x.operation = .ret) :
    s.laneHolds l .fault = s.returnOn l .notChecked := by
  simp only [State.laneHolds, hx, hop, if_true]

theorem firstUntrapped_of_traps {t : State} (ht : t.traps = s.traps) (title : Nat) (hs : List Hold) :
    t.firstUntrapped title hs = s.firstUntrapped title hs := by
  have huntrapped : t.untrapped title = s.untrapped title := by
    funext h
    rw [State.untrapped, State.trap?, ht]
    rfl
  rw [State.firstUntrapped, huntrapped, State.firstUntrapped]

end Trap

/-- Settles O33: the holds of the title, and then COMMIT or the trap. -/
theorem holdLookupTrapsOrCommitsAReturn : Obligations.HoldLookupTrapsOrCommitsAReturn := by
  intro l n b basis a x e s hbusy hw hx hop hi hb hstage hfound htrap he hres hroom out records quiet refused commits
  have hwork := atWork_freePort hx
  refine ⟨fun hs hlook hnone => ?_, fun hlook => ?_, fun hs h hlook hfirst htrap hlen hu hst hwait => ?_⟩
  · have hat := hwork.mapTxn fun x => { x with holds := hs }
    have hnone : s.firstUntrapped (itemTitle n) hs = none :=
      List.find?_eq_none.mpr fun h hh => by rw [hnone h hh]; exact Bool.false_ne_true
    refine returnOn_commits (o := .none) (by decide) hat hop hi hb hfound hstage he hres hroom hw ?_ ?_
      (exec_holdLookup hbusy ?_)
    · rw [State.mapTxn_standing]
      rfl
    · rfl
    · rw [hlook, laneHolds_of_return hwork.txn hop]
      exact tryTrap_of_none hat.txn hi ((firstUntrapped_of_traps (by rw [State.mapTxn_traps]; rfl) _ _).trans hnone)
  · exact returnOn_commits (o := .notChecked) (by decide) hwork hop hi hb hfound hstage he hres hroom hw rfl rfl
      (exec_holdLookup hbusy (by rw [hlook, laneHolds_fault_of_return hwork.txn hop]))
  · have hat := hwork.mapTxn fun x => { x with holds := hs }
    have hmake := makeTrap_of_room (s := s.freePort.mapTxn l fun x => { x with holds := hs }) (l := l) (n := n) (h := h)
      (by cases l <;> exact htrap) (by cases l <;> exact hlen) (by cases l <;> exact hu) (by cases l <;> exact hst)
    have htry := tryTrap_of_some hat.txn hi
      ((firstUntrapped_of_traps (by rw [State.mapTxn_traps]; rfl) _ _).trans hfirst) hmake
    refine (exec_holdLookup hbusy (by rw [hlook, laneHolds_of_return hwork.txn hop, htry])).trans
      (congrArg Host.Outcome.next ((grant_of_no_waiting (by cases l <;> exact hw)).trans ?_))
    cases l with
    | a =>
      have htxn : s.laneA.txn = some x := hx
      have hnone : s.laneA.trapWait = none := hwait
      simp only [State.mapTxn, State.mapLane, State.setLane, State.lane, State.freePort, State.setMemory, htxn, hnone,
        Option.map_some]
      rfl
    | b =>
      have htxn : s.laneB.txn = some x := hx
      have hnone : s.laneB.trapWait = none := hwait
      simp only [State.mapTxn, State.mapLane, State.setLane, State.lane, State.freePort, State.setMemory, htxn, hnone,
        Option.map_some]
      rfl

end Sys2Proof.Proofs

/-! Renewing: the tests at LOOKUP, the holds, and COMMIT (R37, R38, R88). -/

namespace Sys2Proof.Proofs
open Sys2Proof Sys2Proof.Machine

/-! ## LOOKUP (R37) -/

section Lookup
variable {s : State} {l : LaneId} {x : Txn} {n b : Nat} {e : Entry} {q : LoanPart}

theorem renewCheck_of_in {a : ItemAnswer} (ha : a.loan = none) : s.renewCheck x a = some .notOnLoan := by
  simp only [State.renewCheck, ha]

theorem renewCheck_of_out {a : ItemAnswer} (hn : x.item = some n) (hb : x.borrower = some b) (ha : a.loan = some q) :
    s.renewCheck x a =
      if q.borrower ≠ b then some .notBorrowers
      else if (s.rules.classRule (itemClass n)).unit = .none then some .notForLoan
      else if (s.entryOf q.borrower).roll.expiry < s.clock.day then some .cardExpired
      else if (s.rules.classRule (itemClass n)).renewLimit ≤ q.renewCount then some .renewLimit
      else none := by
  simp only [State.renewCheck, ha, hn, hb, Option.getD_some, ne_eq, Option.some.injEq]

theorem renewFound_of_refusal {a : ItemAnswer} {why : Reason} (h : s.renewCheck x a = some why) :
    s.renewFound l x a = s.endTxn l .refused why := by
  simp only [State.renewFound, h]

theorem renewFound_of_pass {a : ItemAnswer} (h : s.renewCheck x a = none) :
    s.renewFound l x a = (s.mapTxn l fun x => { x with found := some a, stage := .hold }).askLane l := by
  simp only [State.renewFound, h]

theorem laneLoan_of_renewal (hx : (s.lane l).txn = some x) (hop : x.operation = .renew) (a : ItemAnswer) :
    s.laneLoan l (.found a) = s.renewFound l x a := by
  rw [laneLoan_of_found hx, State.itemFound, hop]

theorem laneLoan_missing_of_renewal (hx : (s.lane l).txn = some x) (hop : x.operation = .renew) :
    s.laneLoan l .missing = s.renewFound l x ⟨.today, none⟩ := by
  rw [laneLoan_of_missing hx (by rw [hop]; decide), State.itemFound, hop]

/-- A lane whose port is free asks for the lookup of its stage at once. -/
theorem askLane_of_free {op : MemOp} (hx : (s.lane l).txn = some x) (ho : x.lookup l = some op) (hb : s.memory.busy = none)
    (hw : s.memory.waiting = []) (hl : op.isLookup = true → s.memory.load.loading = false) : s.askLane l =
      { s with memory := { s.memory with busy := some ⟨op, false⟩, lastLane := op.lookupLane.or s.memory.lastLane } } := by
  simp only [State.askLane, hx, Option.bind_some, ho, laneHeld_of_free hb, Bool.false_eq_true, if_false]
  exact ask_of_free hb hw hl

end Lookup

/-! ## The holds, RECKON and COMMIT (R37, R38) -/

section Commit
variable {s u : State} {l : LaneId} {x z : Txn} {n b : Nat} {e : Entry} {basis : Basis} {a q : LoanPart} {hs : List Hold}
  {due : Nat × Nat}

theorem untrapped_eq_all (s : State) (title : Nat) (h : Hold) :
    s.untrapped title h = (s.trap? title h.rank).all (·.state == .released) := by
  rw [State.untrapped]
  cases s.trap? title h.rank <;> rfl

theorem laneHolds_of_renewal (hx : (s.lane l).txn = some x) (hop : x.operation = .renew) :
    s.laneHolds l (.found hs) = s.renewHolds l x hs := by
  simp only [State.laneHolds, hx, hop, reduceCtorEq, if_false]

theorem laneHolds_fault_of_renewal (hx : (s.lane l).txn = some x) (hop : x.operation = .renew) :
    s.laneHolds l .fault = s.endTxn l .failed .lookupFault := by
  simp only [State.laneHolds, hx, hop, reduceCtorEq, if_false]

theorem renewHolds_of_hold (hn : x.item = some n) (h : (s.firstUntrapped (itemTitle n) hs).isSome = true) :
    s.renewHolds l x hs = s.endTxn l .refused .onHold := by
  simp only [State.renewHolds, hn, Option.getD_some, h, if_true]

theorem renewHolds_of_error {why : Reason} (hn : x.item = some n) (hb : x.borrower = some b)
    (h : s.firstUntrapped (itemTitle n) hs = none) (hdue : s.dueNow n (s.entryOf b) = .error why) :
    s.renewHolds l x hs = s.endTxn l .refused why := by
  simp only [State.renewHolds, hn, hb, Option.getD_some, h, hdue, Option.isSome_none, Bool.false_eq_true, if_false]

/-- A renewal's context as RECKON leaves it. -/
def renewReckoned (s : State) (n : Nat) (x : Txn) (a : LoanPart) (due : Nat × Nat) : Txn :=
  { x with fine := s.fineNow n a, due := due, reckonDay := s.clock.day, stage := .commit }

theorem renewHolds_of_due (hn : x.item = some n) (hb : x.borrower = some b) (hfound : x.found = some ⟨basis, some a⟩)
    (h : s.firstUntrapped (itemTitle n) hs = none) (hdue : s.dueNow n (s.entryOf b) = .ok due) :
    s.renewHolds l x hs =
      (s.mapTxn l fun _ => renewReckoned s n x a due).commitRenew l (renewReckoned s n x a due) := by
  simp only [State.renewHolds, hn, hb, Option.getD_some, h, hdue, Option.isSome_none, Bool.false_eq_true, if_false, hfound,
    Option.bind_some, renewReckoned]

theorem dueAtCommit_of_day (hday : u.clock.day = z.reckonDay) (e : Entry) : u.dueAtCommit z e = .ok z.due := if_pos hday

theorem commitRenew_of_in (hn : z.item = some n) (hday : u.clock.day = z.reckonDay)
    (h : (u.itemNow n z.found).loan = none) : u.commitRenew l z = u.endTxn l .refused .notOnLoan := by
  simp only [State.commitRenew, dueAtCommit_of_day hday, hn, Option.getD_some, h]

/-- What COMMIT writes into a renewal's context: the fine against the due date as it now stands. -/
def renewCommitted (u : State) (n : Nat) (z : Txn) (q : LoanPart) (y : Txn) : Txn :=
  { y with due := z.due, fine := u.fineNow n q, reckonDay := u.clock.day, renewRead := q.renewCount, stage := .commit }

/-- A renewal's context as COMMIT leaves it, on the loan `q` as it stands there. -/
def renewed (s : State) (n : Nat) (x : Txn) (q : LoanPart) (due : Nat × Nat) : Txn :=
  { x with fine := s.fineNow n q, due := due, reckonDay := s.clock.day, renewRead := q.renewCount, stage := .commit }

theorem commitRenew_of_out (hn : z.item = some n) (hb : z.borrower = some b) (hday : u.clock.day = z.reckonDay)
    (hfound : z.found = some ⟨basis, some a⟩) (hfine : z.fine = u.fineNow n a)
    (h : (u.itemNow n z.found).loan = some q) : u.commitRenew l z =
      if q.borrower ≠ b then u.endTxn l .refused .notBorrowers
      else if (u.rules.classRule (itemClass n)).renewLimit ≤ q.renewCount then u.endTxn l .refused .renewLimit
      else (u.mapTxn l (renewCommitted u n z q)).commitItem l n := by
  have hsame : (if u.clock.day = z.reckonDay ∧ q.dueDay = a.dueDay ∧ q.dueMinute = a.dueMinute then z.fine
      else u.fineNow n q) = u.fineNow n q := by
    split
    · next hdue => rw [hfine, State.fineNow, State.fineNow, hdue.2.1, hdue.2.2]
    · rfl
  rw [hfound] at h
  simp only [State.commitRenew, dueAtCommit_of_day hday, hn, hb, hfound, Option.getD_some, Option.bind_some, h, hsame]
  rfl

theorem recordFor_of_renewal (hop : x.operation = .renew) (hn : x.item = some n) (hb : x.borrower = some b)
    (ht : x.trap = .none) (stamp : Nat) : s.recordFor l x stamp =
      { number := s.memory.copies.head + s.memory.requested, stamp := stamp, kind := .renew, lane := l
        day := s.clock.day, minute := s.clock.minute, borrower := b, item := n, dueDay := x.due.1, dueMinute := x.due.2
        holdBorrower := 0, amount := x.fine, outcome := 0, edition := s.edition } := by
  simp only [State.recordFor, Txn.recordKind, Txn.carriesLoan, hop, hn, hb, ht, Option.getD_some]
  rfl

end Commit

/-- Settles O32: the tests of LOOKUP, then the holds, RECKON and COMMIT. -/
theorem renewalsAreCheckedAndCommitted : Obligations.RenewalsAreCheckedAndCommitted := by
  intro l n b x e s hw hx hop hi hb htrap he hroom hres rule quiet ends
  have hwork := atWork_freePort hx
  have hown : s.awaitingOwn x = ((e.record x.blockReason).awaits x.stamp).isSome :=
    awaitingOwn_of_holds (.of_entry he) hb
  have hentry : s.freePort.entryOf b = e := entryOf_of_entry he
  have hholds : HoldsEntry s.freePort b (e.setReserved l false) := by
    rw [← hres, setReserved_of_reserved]
    exact .of_entry he
  have hitem : ∀ z : Txn, z.operation = .renew → z.trap = .none → z.stage ≠ .awaitLine → ItemWork z := fun z hz ht hs =>
    ⟨by rw [hz]; decide, by rw [ht]; decide, hs⟩
  refine ⟨fun hbusy hstage => ?_, fun basis a hbusy hstage hfound hab => ?_⟩
  · intro refused
    have hrefused : ∀ why, s.freePort.laneLoan l (s.lookupLoan n) = s.freePort.endTxn l .refused why → refused why :=
      fun why hlook => by
        exact hwork.refuses (hitem x hop htrap (by rw [hstage]; decide)) hw hb hop hholds (.inr rfl) hown
          (exec_loansListLookup hbusy hlook)
    refine ⟨fun hlook => hrefused _ ?_, fun a hlook => ?_⟩
    · rw [hlook, laneLoan_missing_of_renewal hwork.txn hop, renewFound_of_refusal (renewCheck_of_in rfl)]
    have hcheck := renewCheck_of_out (s := s.freePort) (a := ⟨.roll, some a⟩) hi hb rfl
    have hrefused' : ∀ why, s.freePort.renewCheck x ⟨.roll, some a⟩ = some why → refused why := fun why hwhy =>
      hrefused why (by rw [hlook, laneLoan_of_renewal hwork.txn hop, renewFound_of_refusal hwhy])
    refine ⟨fun hne => hrefused' _ ?_, fun heq hunit => hrefused' _ ?_, fun heq hunit hexp => hrefused' _ ?_,
      fun heq hunit hexp hlim => hrefused' _ ?_, fun heq hunit hexp hlim hload => ?_⟩
    · rw [hcheck, if_pos hne]
    · rw [hcheck, if_neg (not_not_intro heq), if_pos (by exact hunit)]
    · rw [hcheck, heq, hentry, if_neg (by simp), if_neg (by exact hunit), if_pos (by exact hexp)]
    · rw [hcheck, heq, hentry, if_neg (by simp), if_neg (by exact hunit), if_neg (Nat.not_lt.mpr (by exact hexp)),
        if_pos (by exact hlim)]
    · have hpass : s.freePort.renewCheck x ⟨.roll, some a⟩ = none := by
        rw [hcheck, heq, hentry, if_neg (by simp), if_neg (by exact hunit), if_neg (Nat.not_lt.mpr (by exact hexp)),
          if_neg (Nat.not_le.mpr (by exact hlim))]
      have hat := hwork.mapTxn fun x => { x with found := some ⟨.roll, some a⟩, stage := .hold }
      have hask := askLane_of_free (l := l) hat.txn (op := .holdLookup (.lane l) (itemTitle n)) (by simp [Txn.lookup, hi])
        (by rw [State.mapTxn_memory]; rfl) (by rw [State.mapTxn_memory]; exact hw)
        fun _ => by rw [State.mapTxn_memory]; exact hload
      have hlook' := (congrArg (s.freePort.laneLoan l) hlook).trans
        ((laneLoan_of_renewal hwork.txn hop _).trans ((renewFound_of_pass hpass).trans hask))
      refine (exec_loansListLookup hbusy hlook').trans (congrArg Host.Outcome.next ?_)
      rw [grant_busy rfl]
      cases l with
      | a =>
        have htxn : s.laneA.txn = some x := hx
        simp only [State.mapTxn, State.mapLane, State.setLane, State.lane, State.freePort, State.setMemory, htxn,
          Option.map_some]
        rfl
      | b =>
        have htxn : s.laneB.txn = some x := hx
        simp only [State.mapTxn, State.mapLane, State.setLane, State.lane, State.freePort, State.setMemory, htxn,
          Option.map_some]
        rfl
  · intro refused waits clear reckoned records
    have hends : ∀ c why, s.freePort.laneHolds l (s.lookupHolds (itemTitle n)) = s.freePort.endTxn l c why →
        ends .holdLookupComplete c why := fun c why hlook => by
      exact hwork.refuses (hitem x hop htrap (by rw [hstage]; decide)) hw hb hop hholds (.inr rfl) hown
        (exec_holdLookup hbusy hlook)
    have hfirst : ∀ hs, (∀ h ∈ hs, ¬ waits h) → s.firstUntrapped (itemTitle n) hs = none := fun hs hnone =>
      List.find?_eq_none.mpr fun h hh => by
        rw [untrapped_eq_all]
        exact hnone h hh
    refine ⟨fun hlook => hends _ _ ?_, fun hs h hlook hh hwaits => hends _ _ ?_, fun ⟨hs, hlook, hclear⟩ why hdue =>
      hends _ _ ?_, fun ⟨hs, hlook, hclear⟩ due hdue => ?_⟩
    · rw [hlook, laneHolds_fault_of_renewal hwork.txn hop]
    · rw [hlook, laneHolds_of_renewal hwork.txn hop]
      refine renewHolds_of_hold hi (List.find?_isSome.mpr ⟨h, hh, ?_⟩)
      exact (untrapped_eq_all s _ h).trans hwaits
    · rw [hlook, laneHolds_of_renewal hwork.txn hop]
      exact renewHolds_of_error hi hb (hfirst hs hclear) (by rw [hentry]; exact hdue)
    · have hat := hwork.mapTxn fun _ => renewReckoned s.freePort n x a due
      have hday : (s.freePort.mapTxn l fun _ => renewReckoned s.freePort n x a due).clock.day =
          (renewReckoned s.freePort n x a due).reckonDay := by rw [hat.clock]; rfl
      have hcommit : s.freePort.laneHolds l (s.lookupHolds (itemTitle n)) =
          (s.freePort.mapTxn l fun _ => renewReckoned s.freePort n x a due).commitRenew l
            (renewReckoned s.freePort n x a due) := by
        rw [hlook, laneHolds_of_renewal hwork.txn hop]
        exact renewHolds_of_due hi hb hfound (hfirst hs hclear) (by rw [hentry]; exact hdue)
      have hrefused : ∀ why, (s.freePort.mapTxn l fun _ => renewReckoned s.freePort n x a due).commitRenew l
          (renewReckoned s.freePort n x a due) =
            (s.freePort.mapTxn l fun _ => renewReckoned s.freePort n x a due).endTxn l .refused why → refused why :=
        fun why heq => by
          exact hat.refuses (hitem _ hop htrap (by simp [renewReckoned])) hw hb hop (hholds.mapLane l _) (.inr rfl) hown
            (exec_holdLookup hbusy (hcommit.trans heq))
      have hin : (s.itemNow n (some ⟨basis, some a⟩)).loan = none → refused .notOnLoan := fun hnone => by
        refine hrefused _ (commitRenew_of_in hi hday ?_)
        rw [hat.itemNow, renewReckoned, hfound]
        exact hnone
      refine ⟨fun i hitem hloan => hin ?_, fun hitem hbasis => hin ?_, fun q hq => ?_⟩
      · simp only [State.itemNow, hitem, ItemEntry.answer, hloan]
      · simp only [State.itemNow, hitem, hbasis]
      · intro fine passes
        have hout := commitRenew_of_out (l := l) (q := q) (z := renewReckoned s.freePort n x a due) hi hb hday hfound (hat.fineNow n a).symm
          (by rw [hat.itemNow, renewReckoned, hfound]; exact itemNow_loan_iff.mpr hq)
        rw [hat.rules] at hout
        refine ⟨fun hne => hrefused _ ?_, fun heq hlim => hrefused _ ?_, ?_⟩
        · rw [hout, if_pos hne]
        · rw [hout, if_neg (not_not_intro heq), if_pos (by exact hlim)]
        have hpass : passes → s.freePort.laneHolds l (s.lookupHolds (itemTitle n)) =
            ((s.freePort.mapTxn l fun _ => renewReckoned s.freePort n x a due).mapTxn l
              (renewCommitted (s.freePort.mapTxn l fun _ => renewReckoned s.freePort n x a due) n
                (renewReckoned s.freePort n x a due) q)).commitItem l n := fun ⟨hqb, hlim⟩ => by
          rw [hcommit, hout, if_neg (not_not_intro hqb), if_neg (Nat.not_le.mpr (by exact hlim))]
        have hlast := hat.mapTxn (renewCommitted (s.freePort.mapTxn l fun _ => renewReckoned s.freePort n x a due) n
          (renewReckoned s.freePort n x a due) q)
        generalize hu : ((s.freePort.mapTxn l fun _ => renewReckoned s.freePort n x a due).mapTxn l
          (renewCommitted (s.freePort.mapTxn l fun _ => renewReckoned s.freePort n x a due) n
            (renewReckoned s.freePort n x a due) q)) = u at hpass hlast
        have hlastHolds : HoldsEntry u b (e.setReserved l false) := by
          rw [← hu]
          exact (hholds.mapLane l _).mapLane l _
        have hstanding : u.standing = s.standing := by rw [← hu, State.mapTxn_standing, State.mapTxn_standing]; rfl
        have hcontext : renewCommitted (s.freePort.mapTxn l fun _ => renewReckoned s.freePort n x a due) n
            (renewReckoned s.freePort n x a due) q (renewReckoned s.freePort n x a due) = renewed s n x q due := by
          simp only [renewCommitted, hat.fineNow, hat.clock]
          rfl
        rw [hcontext] at hlast
        have hgoes := fun hp => hlast.goesOn (hitem _ hop htrap (by simp [renewed])) hw hb (op := .renew) hop hlastHolds
          (.inr rfl) hown hroom (n := n) (kind := .renew) (due := due) (amount := fine)
          (recordFor_of_renewal (x := renewed s n x q due) hop hi hb htrap _) (exec_holdLookup hbusy (hpass hp))
        rw [hstanding] at hgoes
        exact ⟨fun hp => (hgoes hp).1, fun hp => (hgoes hp).2.1, fun hp => (hgoes hp).2.2⟩

end Sys2Proof.Proofs

/-! Lending: the tests at CHECK, the reservation, RECKON and COMMIT (R29 to R32, R63, R64). -/

namespace Sys2Proof.Proofs
open Sys2Proof Sys2Proof.Machine

/-! ## COMMIT of a lend (R32) -/

section Commit
variable {s u : State} {l : LaneId} {x z : Txn} {n b : Nat} {e : Entry} {v : Bool} {basis : Basis} {due : Nat × Nat}
  {cmd : Instr}

theorem AtWork.limitInForce (h : AtWork s u l z) (c : Nat) : u.limitInForce c = s.limitInForce c := by
  have hr : u.reckoner = s.reckoner := by rw [h.rest]
  have hs : u.settings = s.settings := by rw [h.rest]
  rw [State.limitInForce, State.limitInForce, h.incomplete, hr, hs]

theorem AtWork.dueNow (h : AtWork s u l z) (n : Nat) (f : Entry) :
    u.dueNow n f = s.rules.due (itemClass n) f.roll.expiry s.clock.day s.clock.minute := by
  rw [State.dueNow, h.rules, h.clock]

@[simp] theorem setReserved_blocked (e : Entry) (l : LaneId) (v : Bool) : (e.setReserved l v).blocked = e.blocked := by
  cases l <;> rfl

/-- What COMMIT writes into a lend's context. -/
def lendCommitted (u : State) (due : Nat × Nat) (y : Txn) : Txn :=
  { y with due := due, reckonDay := u.clock.day, stage := .commit }

theorem commitLend_of_error {why : Reason} (hb : z.borrower = some b) (hd : u.dueAtCommit z (u.entryOf b) = .error why) :
    u.commitLend l z = u.endTxn l .refused why := by
  simp only [State.commitLend, hb, Option.getD_some, hd]

theorem commitLend_of_out {q : LoanPart} (hn : z.item = some n) (hb : z.borrower = some b)
    (hd : u.dueAtCommit z (u.entryOf b) = .ok due) (h : (u.itemNow n z.found).loan = some q) : u.commitLend l z =
      (u.mapTxn l (lendCommitted u due)).endTxn l .refused (if q.borrower = b then .onLoanSame else .onLoan) := by
  have hnow : (State.itemNow (u.mapTxn l (lendCommitted u due)) n z.found).loan = some q := by
    rw [State.mapTxn, itemNow_mapLane, h]
  unfold lendCommitted at hnow ⊢
  simp only [State.commitLend, hn, hb, Option.getD_some, hd, hnow]

theorem commitLend_of_in (hn : z.item = some n) (hb : z.borrower = some b) (hd : u.dueAtCommit z (u.entryOf b) = .ok due)
    (h : (u.itemNow n z.found).loan = none) : u.commitLend l z =
      if (u.entryOf b).blocked then (u.mapTxn l (lendCommitted u due)).endTxn l .refused .blocked
      else if !(u.mapTxn l (lendCommitted u due)).limitAtCommit (u.entryOf b) then
        (u.mapTxn l (lendCommitted u due)).endTxn l .refused .limit
      else (u.mapTxn l (lendCommitted u due)).commitItem l n := by
  have hnow : (State.itemNow (u.mapTxn l (lendCommitted u due)) n z.found).loan = none := by
    rw [State.mapTxn, itemNow_mapLane, h]
  unfold lendCommitted at hnow ⊢
  simp only [State.commitLend, hn, hb, Option.getD_some, hd, hnow]

theorem recordFor_of_lend (hop : x.operation = .lend) (hn : x.item = some n) (hb : x.borrower = some b)
    (ht : x.trap = .none) (stamp : Nat) : s.recordFor l x stamp =
      { number := s.memory.copies.head + s.memory.requested, stamp := stamp, kind := .loan, lane := l
        day := s.clock.day, minute := s.clock.minute, borrower := b, item := n, dueDay := x.due.1, dueMinute := x.due.2
        holdBorrower := 0, amount := 0, outcome := 0, edition := s.edition } := by
  simp only [State.recordFor, Txn.recordKind, Txn.carriesLoan, hop, hn, hb, ht, Option.getD_some]
  rfl

theorem itemNow_loan_of_in (h : ∀ i, s.item? n = some i → i.loan = none) :
    (s.itemNow n (some ⟨basis, none⟩)).loan = none := by
  unfold State.itemNow
  cases hi : s.item? n with
  | some i => exact h i hi
  | none => cases basis <;> rfl

theorem itemNow_loan_of_entry {i : ItemEntry} (hi : s.item? n = some i) (found : Option ItemAnswer) :
    (s.itemNow n found).loan = i.loan := by
  simp only [State.itemNow, hi, ItemEntry.answer]

/-- COMMIT's tests of a lend with its due date, in order (R32, R64). -/
theorem AtWork.lends (h : AtWork s u l z) (hop : z.operation = .lend) (hn : z.item = some n) (hb : z.borrower = some b)
    (hfound : z.found = some ⟨basis, none⟩) (htrap : z.trap = .none) (he : HoldsEntry u b (e.setReserved l v))
    (hw : s.memory.waiting = []) (hr : s.overlay.room l = false)
    (hown : s.awaitingOwn x = ((e.record z.blockReason).awaits z.stamp).isSome)
    (hd : u.dueAtCommit z (u.entryOf b) = .ok due) (hcmd : exec cmd s = .next (u.commitLend l z).grant) :
    let records := s.memory.copies.head - s.memory.copies.tail + s.memory.requested
    let limit : Int := s.limitInForce e.roll.category
    let taken := e.count + (e.setReserved l v).reservations
    let refused := fun why => Undisturbed s l x → ∃ t, exec cmd s = .next t ∧ s.endsWork t l .lend .refused b e why
    (∀ i a, s.item? n = some i → i.loan = some a → refused (if a.borrower = b then .onLoanSame else .onLoan)) ∧
    ((∀ i, s.item? n = some i → i.loan = none) →
      (e.blocked = true → refused .blocked) ∧
      (e.blocked = false → limit < taken → refused .limit) ∧
      (e.blocked = false → taken ≤ limit →
        (16384 ≤ records → refused .journalFull) ∧
        (records < 16384 → 65535 ≤ s.line.stamps → refused .stampsExhausted) ∧
        (records < 16384 → s.line.stamps < 65535 →
          (s.noRoomFor n → refused .tableFull) ∧
          (∀ left, s.roomLeaves n left → s.memory.faulted = false → ∃ t, exec cmd s = .next t ∧
            s.commits t l { z with due := due, reckonDay := s.clock.day } .loan b n due 0 left ∧
            (t.lane l).state = (s.lane l).state ∧
            ∃ e', t.entry? b = some e' ∧ e'.count = e.count ∧
              e'.reservations = (e.setReserved l v).reservations)))) := by
  intro records limit taken refused
  have hlast := h.mapTxn (lendCommitted u due)
  have hlastHolds := he.mapLane l fun c => { c with txn := c.txn.map (lendCommitted u due) }
  have hitem : ItemWork (lendCommitted u due z) :=
    ⟨by rw [lendCommitted, hop]; decide, by rw [lendCommitted, htrap]; decide, by simp [lendCommitted]⟩
  have hrefused : ∀ why, u.commitLend l z = (u.mapTxn l (lendCommitted u due)).endTxn l .refused why → refused why :=
    fun why heq => hlast.refuses hitem hw hb hop hlastHolds (.inl rfl) hown (hcmd.trans (by rw [heq]))
  obtain ⟨f, hf, hh⟩ := he
  have hentry : u.entryOf b = f := entryOf_of_entry hf
  have hblocked : f.blocked = e.blocked := by rw [hh.blocked, setReserved_blocked]
  have hlimit : (u.mapTxn l (lendCommitted u due)).limitAtCommit f = decide (taken ≤ limit) := by
    rw [State.limitAtCommit, hlast.limitInForce, hh.count, hh.reservations, hh.roll, setReserved_count, setReserved_roll]
  refine ⟨fun i a hi ha => hrefused _ ?_, fun hin => ?_⟩
  · rw [commitLend_of_out hn hb hd (by rw [h.itemNow, itemNow_loan_of_entry hi, ha])]
  have hcommit := commitLend_of_in (l := l) hn hb hd (by rw [h.itemNow, hfound]; exact itemNow_loan_of_in hin)
  rw [hentry, hblocked, hlimit] at hcommit
  refine ⟨fun hbl => hrefused _ ?_, fun hbl hlim => hrefused _ ?_, fun hbl hlim => ?_⟩
  · rw [hcommit, if_pos hbl]
  · rw [hcommit, hbl, if_neg Bool.false_ne_true, if_pos (by simpa using hlim)]
  rw [hbl, if_neg Bool.false_ne_true, if_neg (by simpa using hlim)] at hcommit
  obtain ⟨hfull, hstamps, hroom⟩ := hlast.goesOn hitem hw hb (op := .lend) hop hlastHolds (.inl rfl) hown hr (n := n)
    (kind := .loan) (due := due) (amount := 0) (recordFor_of_lend (x := lendCommitted u due z) hop hn hb htrap _)
    (hcmd.trans (by rw [hcommit]))
  refine ⟨hfull, hstamps, fun hrec hst => ⟨(hroom hrec hst).1, fun left hleft hfault => ?_⟩⟩
  obtain ⟨t, ht, hc, hstate, hstanding⟩ := (hroom hrec hst).2 left hleft hfault
  rw [lendCommitted, h.clock] at hc
  refine ⟨t, ht, hc, hstate, f, ?_, ?_, hh.reservations⟩
  · rw [State.entry?, hstanding, State.mapTxn_standing]
    exact hf
  · rw [hh.count, setReserved_count]

end Commit

/-! ## CHECK and RECKON (R29, R31) -/

section Check
variable {s u : State} {l : LaneId} {x : Txn} {n b : Nat} {e : Entry}

theorem lendFound_of_refusal {a : ItemAnswer} {why : Reason} (ha : a.loan = none) (hn : x.item = some n)
    (hb : x.borrower = some b) (h : s.lendCheck (s.entryOf b) n = some why) :
    s.lendFound l x a = s.endTxn l .refused why := by
  simp only [State.lendFound, ha, hn, hb, Option.getD_some, h]

theorem lendFound_of_error {a : ItemAnswer} {why : Reason} (ha : a.loan = none) (hn : x.item = some n)
    (hb : x.borrower = some b) (h : s.lendCheck (s.entryOf b) n = none)
    (hd : (s.reserve l b true).dueNow n ((s.reserve l b true).entryOf b) = .error why) :
    s.lendFound l x a = (s.reserve l b true).endTxn l .refused why := by
  simp only [State.lendFound, ha, hn, hb, Option.getD_some, h, hd]

/-- A lend's context as RECKON leaves it. -/
def lendReckoned (s : State) (x : Txn) (a : ItemAnswer) (due : Nat × Nat) : Txn :=
  { x with found := some a, due := due, reckonDay := s.clock.day, stage := .commit }

theorem lendFound_of_due {a : ItemAnswer} {due : Nat × Nat} (ha : a.loan = none) (hn : x.item = some n)
    (hb : x.borrower = some b) (h : s.lendCheck (s.entryOf b) n = none)
    (hd : (s.reserve l b true).dueNow n ((s.reserve l b true).entryOf b) = .ok due) : s.lendFound l x a =
      ((s.reserve l b true).mapTxn l fun _ => lendReckoned (s.reserve l b true) x a due).commitLend l
        (lendReckoned (s.reserve l b true) x a due) := by
  simp only [State.lendFound, ha, hn, hb, Option.getD_some, h, hd, lendReckoned]

theorem AtWork.reserve (h : AtWork s u l x) (b : Nat) (v : Bool) : AtWork s (u.reserve l b v) l x where
  rest := by
    rw [State.reserve, useEntry_frame, h.rest]
  lane := by
    obtain ⟨w, hl⟩ := h.lane
    refine ⟨w, Eq.trans ?_ hl⟩
    rw [State.reserve, useEntry_frame]
    cases l <;> rfl
  other := by
    refine Eq.trans ?_ h.other
    rw [State.reserve, useEntry_frame]
    cases l <;> rfl
  incomplete := (useEntry_standing u b _).1.trans h.incomplete

theorem reservations_setReserved (h : e.reserved l = false) : (e.setReserved l true).reservations = e.reservations + 1 := by
  cases l
  · have ha : e.reservedA = false := h
    simp only [Entry.reservations, Entry.setReserved, ha, Bool.toNat_true, Bool.toNat_false]
    omega
  · have hb : e.reservedB = false := h
    simp only [Entry.reservations, Entry.setReserved, hb, Bool.toNat_true, Bool.toNat_false]

theorem resumeLane_of_deferred (hx : (s.lane l).txn = some x) (hd : x.deferred = true) (hs : x.stage = .commit)
    (hop : x.operation = .lend) : s.resumeLane l =
      (s.mapTxn l fun _ => { x with deferred := false }).commitLend l { x with deferred := false } := by
  simp only [State.resumeLane, hx, hd, hs, hop, if_true, State.recommit]

end Check

/-- Settles O31: CHECK, RECKON and COMMIT in order, and COMMIT alone where the lane had to wait. -/
theorem lendIsCheckedReckonedAndCommitted : Obligations.LendIsCheckedReckonedAndCommitted := by
  intro l n b x e s hw hx hop hi hb htrap he hroom lookupEnds rule limit effective blocked reckoned records quiet refused
    goesOn
  have hwork := atWork_freePort hx
  have hown : s.awaitingOwn x = ((e.record x.blockReason).awaits x.stamp).isSome :=
    awaitingOwn_of_holds (.of_entry he) hb
  have hentry : s.freePort.entryOf b = e := entryOf_of_entry he
  have hitem : ∀ z : Txn, z.operation = .lend → z.trap = .none → z.stage ≠ .awaitLine → ItemWork z := fun z hz ht hs =>
    ⟨by rw [hz]; decide, by rw [ht]; decide, hs⟩
  have hheld : HoldsEntry s.freePort b (e.setReserved l (e.reserved l)) := by
    rw [setReserved_of_reserved]
    exact .of_entry he
  have hnotBlocked : ¬ blocked → e.blocked = false := fun h => Bool.eq_false_iff.mpr h
  refine ⟨fun hbusy hlook hstage hres => ?_, fun k basis hbusy hstage hdef hfound => ?_⟩
  · intro free allowed
    have hlook' : s.freePort.laneLoan l (s.lookupLoan n) = s.freePort.lendFound l x ⟨.today, none⟩ := by
      rw [hlook, laneLoan_of_missing hwork.txn (by rw [hop]; decide), State.itemFound, hop]
    have hrefused : ∀ why, s.freePort.lendCheck e n = some why → refused why := fun why hwhy =>
      hwork.refuses (hitem x hop htrap (by rw [hstage]; decide)) hw hb hop hheld (.inl rfl) hown
        (exec_loansListLookup hbusy (hlook'.trans (lendFound_of_refusal rfl hi hb (by rw [hentry]; exact hwhy))))
    have hcheck : s.freePort.lendCheck e n =
        if rule.unit = .none then some .notForLoan
        else if !(s.rules.categoryRule e.roll.category).mask.getLsbD (itemClass n) then some .classNotAllowed
        else if e.blocked then some .blocked
        else if e.roll.expiry < s.clock.day then some .cardExpired
        else if !decide (e.count + e.reservations + 1 ≤ limit) then some .limit
        else none := rfl
    have hpass : allowed → s.freePort.lendCheck e n = none := fun ⟨⟨hunit, hmask⟩, hbl, hexp, hlim⟩ => by
      rw [hcheck, if_neg hunit, hmask, hnotBlocked hbl, if_neg (by decide), if_neg (by decide),
        if_neg (Nat.not_lt.mpr hexp), if_neg (by simpa using hlim)]
    refine ⟨fun hunit => hrefused _ ?_, fun hunit hmask => hrefused _ ?_, fun ⟨hunit, hmask⟩ hbl => hrefused _ ?_,
      fun ⟨hunit, hmask⟩ hbl hexp => hrefused _ ?_, fun ⟨hunit, hmask⟩ hbl hexp hlim => hrefused _ ?_, ?_⟩
    · rw [hcheck, if_pos hunit]
    · rw [hcheck, if_neg hunit, hmask, if_pos (by decide)]
    · rw [hcheck, if_neg hunit, hmask, if_neg (by decide), if_pos (by exact hbl)]
    · rw [hcheck, if_neg hunit, hmask, hnotBlocked hbl, if_neg (by decide), if_neg (by decide), if_pos hexp]
    · rw [hcheck, if_neg hunit, hmask, hnotBlocked hbl, if_neg (by decide), if_neg (by decide),
        if_neg (Nat.not_lt.mpr hexp), if_pos (by simpa using hlim)]
    have hreserved := hwork.reserve b true
    have hholds : HoldsEntry (s.freePort.reserve l b true) b (e.setReserved l true) :=
      (HoldsEntry.of_entry (s := s.freePort) he).reserve l true
    have hdue : (s.freePort.reserve l b true).dueNow n ((s.freePort.reserve l b true).entryOf b) = reckoned := by
      obtain ⟨f, hf, hh⟩ := hholds
      rw [entryOf_of_entry hf, hreserved.dueNow, hh.roll, setReserved_roll]
    have hcheck' : allowed → s.freePort.lendCheck (s.freePort.entryOf b) n = none := fun h => by rw [hentry, hpass h]
    refine ⟨fun hallowed why hwhy => ?_, fun hallowed due hd => ?_⟩
    · exact hreserved.refuses (hitem x hop htrap (by rw [hstage]; decide)) hw hb hop hholds (.inl rfl) hown
        (exec_loansListLookup hbusy (hlook'.trans (lendFound_of_error rfl hi hb (hcheck' hallowed) (hdue.trans hwhy))))
    · have hlend := hreserved.mapTxn fun _ => lendReckoned (s.freePort.reserve l b true) x ⟨.today, none⟩ due
      have hjudged := hlend.lends (x := x) (e := e) (v := true) (due := due) hop hi hb rfl htrap (hholds.mapLane l _) hw hroom
        hown (if_pos (by rw [hlend.clock, lendReckoned, hreserved.clock]))
        (exec_loansListLookup hbusy (hlook'.trans (lendFound_of_due rfl hi hb (hcheck' hallowed) (hdue.trans hd))))
      obtain ⟨hout, hin⟩ := hjudged
      have hres' := reservations_setReserved hres
      refine ⟨hout, fun hnone => ?_⟩
      obtain ⟨-, -, hgoes⟩ := hin hnone
      rw [hres'] at hgoes
      exact hgoes (hnotBlocked hallowed.2.1) (by have := hallowed.2.2.2; push_cast; omega)
  · have hat := hwork.mapTxn fun _ => { x with deferred := false }
    have hcmd : exec .loansListLookupComplete s = .next (State.grant
        ((s.freePort.mapTxn l fun _ => { x with deferred := false }).commitLend l { x with deferred := false })) :=
      congrArg Host.Outcome.next ((loansLookupDone_discarded hbusy).trans
        (congrArg State.grant (resumeLane_of_deferred hwork.txn hdef hstage hop)))
    have hdueAt : (s.freePort.mapTxn l fun _ => { x with deferred := false }).dueAtCommit { x with deferred := false }
        (State.entryOf (s.freePort.mapTxn l fun _ => { x with deferred := false }) b) =
          if s.clock.day = x.reckonDay then .ok x.due else reckoned := by
      have hentry' : State.entryOf (s.freePort.mapTxn l fun _ => { x with deferred := false }) b = e := by
        cases l <;> exact hentry
      rw [hentry', State.dueAtCommit, hat.clock, hat.dueNow, hi]
      rfl
    refine ⟨fun hday why hwhy => ?_, fun due hdue => ?_⟩
    · refine hat.refuses (hitem _ hop htrap (by simp [hstage])) hw hb hop (hheld.mapLane l _) (.inl rfl) hown
        (hcmd.trans (by rw [commitLend_of_error (by exact hb) (hdueAt.trans ((if_neg (Ne.symm hday)).trans hwhy))]))
    · have hd := hdueAt
      have hok : (if s.clock.day = x.reckonDay then .ok x.due else reckoned) = Except.ok (ε := Reason) due := by
        obtain ⟨hday, rfl⟩ | ⟨hday, hok⟩ := hdue
        · exact if_pos hday.symm
        · exact (if_neg (Ne.symm hday)).trans hok
      have hjudged := hat.lends (x := x) (e := e) (v := e.reserved l) hop hi hb hfound htrap (hheld.mapLane l _) hw hroom hown
        (hdueAt.trans hok) hcmd
      rw [setReserved_of_reserved] at hjudged
      obtain ⟨hout, hin⟩ := hjudged
      refine ⟨hout, fun hnone => ?_⟩
      obtain ⟨hbl, hlim, hgoes⟩ := hin hnone
      exact ⟨hbl, fun h => hlim (hnotBlocked h), fun h => hgoes (hnotBlocked h)⟩

end Sys2Proof.Proofs

/-! The roll lookup: a borrower check that it ends, the table's own lookup, and a lane that waits for a discarded one
(R26, R67, R73, R131). -/

namespace Sys2Proof.Proofs
open Sys2Proof Sys2Proof.Machine

/-! ## An entry made from the roll (R67) -/

section Created
variable {s : State} {b : Nat} {roll : RollFields}

/-- The table with a new entry, the borrower's parked records taken out of the buffer. -/
def entryMade (s : State) (b : Nat) (roll : RollFields) : State :=
  s.setStanding { s.standing with
    entries := s.standing.entries ++ [newEntry b roll s.reckoner.active (s.standing.uses + 1)]
    uses := s.standing.uses + 1
    parked := s.standing.parked.filter (·.borrower != b) }

theorem createEntry_of_room (hnone : s.entry? b = none) (hroom : s.standing.entries.length < 4096) :
    s.createEntry b roll =
      ((s.standing.parked.filter (·.borrower == b)).foldl State.applyOffer (entryMade s b roll), true) := by
  have hfree : s.roomForEntry = some s := if_pos (by exact hroom)
  simp only [State.createEntry, hnone, hfree]
  rfl

theorem entry?_entryMade (hnone : s.entry? b = none) :
    (entryMade s b roll).entry? b = some (newEntry b roll s.reckoner.active (s.standing.uses + 1)) := by
  have hfind : s.standing.entries.find? (·.borrower == b) = none := hnone
  rw [State.entry?, entryMade, State.setStanding_standing, List.find?_append, hfind, Option.none_or]
  exact List.find?_cons_of_pos (by simp [newEntry])

theorem entry?_entryMade_of_ne {c : Nat} (h : c ≠ b) : (entryMade s b roll).entry? c = s.entry? c := by
  have hnew : [newEntry b roll s.reckoner.active (s.standing.uses + 1)].find? (·.borrower == c) = none :=
    List.find?_eq_none.mpr fun e he => by
      obtain rfl := List.mem_singleton.mp he
      simpa [newEntry] using Ne.symm h
  rw [State.entry?, entryMade, State.setStanding_standing, List.find?_append, hnew, Option.or_none, State.entry?]

end Created

theorem entry?_of_standing {s t : State} (h : t.standing = s.standing) (b : Nat) : t.entry? b = s.entry? b := by
  rw [State.entry?, h, State.entry?]

/-! ## Work on one entry -/

/-- From `s` to `t` nothing but the entry of borrower `b` and the uses change; the entry keeps its roll fields, and the
tallies, if these are kept. -/
structure EntryWork (s t : State) (b : Nat) : Prop where
  frame : t = { s with standing := t.standing }
  others : ∀ c, c ≠ b → t.entry? c = s.entry? c
  incomplete : t.standing.incomplete = s.standing.incomplete
  parked : t.standing.parked = s.standing.parked
  lookup : t.standing.lookup = s.standing.lookup

namespace EntryWork

theorem refl (s : State) (b : Nat) : EntryWork s s b := ⟨rfl, fun _ _ => rfl, rfl, rfl, rfl⟩

theorem trans {s t u : State} {b : Nat} (h : EntryWork s t b) (h' : EntryWork t u b) : EntryWork s u b where
  frame := by rw [h'.frame, h.frame]
  others c hc := (h'.others c hc).trans (h.others c hc)
  incomplete := h'.incomplete.trans h.incomplete
  parked := h'.parked.trans h.parked
  lookup := h'.lookup.trans h.lookup

theorem useEntry (s : State) {b : Nat} {f : Entry → Entry} (hf : ∀ e, (f e).borrower = e.borrower) :
    EntryWork s (s.useEntry b f) b := by
  obtain ⟨hinc, hpark, hlook⟩ := useEntry_standing s b f
  exact ⟨useEntry_frame s b f, fun c hc => entry?_useEntry_of_ne hf hc, hinc, hpark, hlook⟩

end EntryWork

@[simp] theorem setRecord_borrower (e : Entry) (why : BlockReason) (r : BlockRecord) :
    (e.setRecord why r).borrower = e.borrower := by cases why <;> rfl

/-- The same entry, but for its block records, hands and uses. -/
def SameTallies (e e' : Entry) : Prop := e'.roll = e.roll ∧ e'.own = e.own ∧ e'.peers = e.peers

theorem sameTallies_setRecord (e : Entry) (why : BlockReason) (r : BlockRecord) : SameTallies e (e.setRecord why r) := by
  cases why <;> exact ⟨rfl, rfl, rfl⟩

section Actions
variable {s : State} {live : Bool} {b station : Nat} {why : BlockReason}

theorem useEntry_congr {f g : Entry → Entry} (h : ∀ e, e.borrower = b → f e = g e) : s.useEntry b f = s.useEntry b g := by
  cases hb : s.entry? b with
  | none => rw [useEntry_of_none hb, useEntry_of_none hb]
  | some e =>
    have hmap : (fun e : Entry => if e.borrower = b then { f e with lastUse := s.standing.uses + 1 } else e) =
        fun e => if e.borrower = b then { g e with lastUse := s.standing.uses + 1 } else e := by
      funext e
      split
      · next he => rw [h e he]
      · rfl
    rw [useEntry_of_some hb, useEntry_of_some hb, State.mapEntry, State.mapEntry, hmap]

/-- A block action changes nothing, or one record of its borrower's entry. -/
theorem optBlockAction_cases (a : Option StampedAction) : s.optBlockAction live b station why a = s ∨
    ∃ r, s.optBlockAction live b station why a = s.useEntry b (·.setRecord why r) := by
  cases a with
  | none => exact .inl rfl
  | some a =>
    unfold State.optBlockAction State.blockAction
    dsimp only
    split
    · exact .inl rfl
    · split
      · split
        · exact .inl rfl
        · exact .inr ⟨_, rfl⟩
      · split
        · exact .inr ⟨_, rfl⟩
        · exact .inl rfl

theorem entryWork_optBlockAction (a : Option StampedAction) : EntryWork s (s.optBlockAction live b station why a) b := by
  obtain h | ⟨r, h⟩ := optBlockAction_cases (s := s) (live := live) (b := b) (station := station) (why := why) a <;> rw [h]
  · exact .refl s b
  · exact .useEntry s fun _ => setRecord_borrower _ why r

theorem entry?_optBlockAction {e : Entry} (he : s.entry? b = some e) (a : Option StampedAction) :
    ∃ e', (s.optBlockAction live b station why a).entry? b = some e' ∧ SameTallies e e' := by
  obtain h | ⟨r, h⟩ := optBlockAction_cases (s := s) (live := live) (b := b) (station := station) (why := why) a <;> rw [h]
  · exact ⟨e, he, rfl, rfl, rfl⟩
  · refine ⟨_, by rw [entry?_useEntry s b _ fun _ => setRecord_borrower _ why r, he]; rfl, ?_⟩
    exact sameTallies_setRecord e why r

/-- The first offer of a peer at an entry with no tally of it. -/
theorem applyOffer_of_first {p : Parked} {e : Entry} (he : s.entry? p.borrower = some e) (hp : e.peers = []) :
    EntryWork s (s.applyOffer p) p.borrower ∧ ∃ e', (s.applyOffer p).entry? p.borrower = some e' ∧ e'.roll = e.roll ∧
      e'.own = e.own ∧ e'.peers = [⟨p.station, p.tally⟩] := by
  have hoffer : e.offer s.reckoner.active p.station p.tally =
      some (Entry.evaluate { e with peers := [⟨p.station, p.tally⟩] } s.reckoner.active) := by
    simp only [Entry.offer, hp, List.find?_nil, putTally]
  generalize hg : Entry.evaluate { e with peers := [⟨p.station, p.tally⟩] } s.reckoner.active = g at hoffer
  have hgb : g.borrower = p.borrower := by
    have hb : e.borrower = p.borrower := entry?_borrower he
    rw [← hg]
    exact hb
  have htallies : g.roll = e.roll ∧ g.own = e.own ∧ g.peers = [⟨p.station, p.tally⟩] := by
    rw [← hg]
    exact ⟨rfl, rfl, rfl⟩
  have huse : s.useEntry p.borrower (fun _ => g) = s.useEntry p.borrower fun x => if x.borrower = p.borrower then g else x :=
    useEntry_congr fun x hx => (if_pos hx).symm
  have hkeep : ∀ x : Entry, (if x.borrower = p.borrower then g else x).borrower = x.borrower := fun x => by
    split
    · next hx => rw [hgb, hx]
    · rfl
  have happly : s.applyOffer p = State.optBlockAction (State.optBlockAction
      (s.useEntry p.borrower fun x => if x.borrower = p.borrower then g else x)
      p.live p.borrower p.station .lost p.lost) p.live p.borrower p.station .staff p.staff := by
    rw [← huse]
    simp only [State.applyOffer, he, hoffer]
  rw [happly]
  refine ⟨((EntryWork.useEntry s hkeep).trans (entryWork_optBlockAction _)).trans (entryWork_optBlockAction _), ?_⟩
  have hentry := entry?_useEntry s p.borrower (fun x => if x.borrower = p.borrower then g else x) hkeep
  rw [he, Option.map_some, if_pos (entry?_borrower he)] at hentry
  obtain ⟨e1, he1, hr1, ho1, hp1⟩ := entry?_optBlockAction (live := p.live) (station := p.station) (why := .lost) hentry p.lost
  obtain ⟨e2, he2, hr2, ho2, hp2⟩ := entry?_optBlockAction (live := p.live) (station := p.station) (why := .staff) he1 p.staff
  exact ⟨e2, he2, by rw [hr2, hr1, htallies.1], by rw [ho2, ho1, htallies.2.1], by rw [hp2, hp1, htallies.2.2]⟩

end Actions

/-! ## The table's own lookup (R73) -/

section Own
variable {s : State} {p : Parked}

theorem nextParked_of_empty (h : s.standing.parked = []) : s.nextParked = s := by
  unfold State.nextParked
  rw [h]
  cases s.standing.lookup <;> rfl

/-- The table as its lookup ends. -/
def lookupEnded (s : State) : State := s.setStanding { s.standing with lookup := none }

theorem parkedLookupDone_of_found {roll : RollFields} (h : s.standing.lookup = some ⟨p.borrower, false⟩)
    (hp : s.standing.parked = [p]) (hnone : s.entry? p.borrower = none) (hroom : s.standing.entries.length < 4096) :
    s.parkedLookupDone p.borrower (.found roll) =
      ((entryMade (lookupEnded s) p.borrower roll).applyOffer p).nextParked := by
  have hcreate := createEntry_of_room (s := lookupEnded s) (roll := roll) hnone hroom
  have hmine : (lookupEnded s).standing.parked.filter (·.borrower == p.borrower) = [p] := by
    have hpark : (lookupEnded s).standing.parked = [p] := hp
    rw [hpark]
    exact List.filter_cons_of_pos (by simp)
  rw [hmine, List.foldl_cons, List.foldl_nil] at hcreate
  unfold lookupEnded at hcreate ⊢
  simp only [State.parkedLookupDone, h, Bool.false_eq_true, if_false, hcreate]

theorem parkedLookupDone_of_dropped {answer : Lookup RollFields} (h : s.standing.lookup = some ⟨p.borrower, false⟩)
    (hp : s.standing.parked = [p]) (ha : answer = .missing ∨ answer = .fault) : s.parkedLookupDone p.borrower answer =
      s.setStanding { s.standing with parked := [], lookup := none, incomplete := true } := by
  have hdrop : (lookupEnded s).dropParked p.borrower =
      s.setStanding { s.standing with parked := [], lookup := none, incomplete := true } := by
    have hpark : (lookupEnded s).standing.parked = [p] := hp
    rw [State.dropParked, hpark, if_pos (by simp), List.filter_cons_of_neg (by simp)]
    rfl
  unfold lookupEnded at hdrop
  obtain rfl | rfl := ha
  all_goals
    simp only [State.parkedLookupDone, h, Bool.false_eq_true, if_false, hdrop]
    exact nextParked_of_empty (by rfl)

theorem rollLookupDone_standing {b : Nat} (h : s.memory.busy = some ⟨.rollLookup .standing b, false⟩) :
    s.rollLookupDone = (s.freePort.parkedLookupDone b (s.lookupRoll b)).grant := by
  simp only [State.rollLookupDone, h]

end Own

/-! ## A borrower check (R26) -/

section BorrowerCheck
variable {s : State} {l : LaneId} {x : Txn} {b : Nat} {ss : Session} {src : Source} {r : Result}

theorem rollLookupDone_lane (h : s.memory.busy = some ⟨.rollLookup (.lane l) b, false⟩) :
    s.rollLookupDone = (s.freePort.laneRoll l (s.lookupRoll b)).grant := by
  simp only [State.rollLookupDone, h]
  rfl

/-- An entry that the session needs stays in hand as the result is written. -/
theorem standing_writeResult_of_session (hp : (s.lane l).endPending = false) (hss : (s.lane l).session = some ss)
    (hx : ∀ x b, (s.lane l).txn = some x → x.borrower = some b → b = ss.borrower) :
    (s.writeResult l src r).standing = s.standing := by
  obtain ⟨timer, hl⟩ := idleTimer_reported s l src r
  have heq : s.writeResult l src r = reported s l src r := by rw [writeResult_eq, hl, if_neg (by simp [hp])]
  rw [heq, reported_eq_reporting, reporting_standing]
  unfold State.dropTxnEntry
  split
  · next x hxx =>
    split
    · exact State.mapLane_standing s l _
    · split
      · next b hb =>
        obtain rfl := hx x b hxx hb
        unfold State.outOfHand
        dsimp only
        rw [State.lane_mapLane]
        split
        · exact State.mapLane_standing s l _
        · rw [if_pos (by simp [writtenLane, hss])]
          exact State.mapLane_standing s l _
      · exact State.mapLane_standing s l _
  · exact State.mapLane_standing s l _

/-- The entry of a borrower check, as it is made and put in hand. -/
def checkedEntry (s : State) (l : LaneId) (b : Nat) (roll : RollFields) : Entry :=
  { (newEntry b roll s.rules (s.standing.uses + 1)).setHand l true with lastUse := s.standing.uses + 1 + 1 }

theorem checkedEntry_fields (s : State) (l : LaneId) (b : Nat) (roll : RollFields) :
    (checkedEntry s l b roll).roll = roll ∧ (checkedEntry s l b roll).own = ⟨0, 0, 0⟩ ∧
      (checkedEntry s l b roll).peers = [] ∧ (checkedEntry s l b roll).inHand l = true ∧
      (checkedEntry s l b roll).fines = decide ((s.rules.blocking : Int) ≤ clampInt (-99999) 999999 roll.balance) := by
  cases l <;> exact ⟨rfl, rfl, rfl, rfl, rfl⟩

theorem checkedEntry_count (s : State) (l : LaneId) (b : Nat) (roll : RollFields) :
    (checkedEntry s l b roll).count = roll.loans := by
  obtain ⟨hr, ho, hp, -⟩ := checkedEntry_fields s l b roll
  simp [Entry.count, hr, ho, hp]

theorem checkedEntry_balance (s : State) (l : LaneId) (b : Nat) (roll : RollFields) :
    (checkedEntry s l b roll).balance = clampInt (-99999) 999999 roll.balance := by
  obtain ⟨hr, ho, hp, -⟩ := checkedEntry_fields s l b roll
  simp [Entry.balance, Entry.exactBalance, hr, ho, hp, minBalance, maxBalance]

/-- The state at which a borrower check is reported: the entry in hand, the session open. -/
def sessionOpened (s : State) (l : LaneId) (b : Nat) : State :=
  (s.takeInHand l b).mapLane l fun c => { c with session := some ⟨b, none⟩ }

/-- The result of a borrower check that ends DONE. -/
def checkResult (s : State) (l : LaneId) (b : Nat) : Result :=
  { s.plainResult l .borrowerCheck .done .none with
    borrower := some b
    blocks := (s.entryOf b).blockSet s.clock.day
    count := some ((s.entryOf b).count, s.limitInForce (s.entryOf b).roll.category)
    balance := some (s.entryOf b).balance
    flags := { ResultFlags.clear with warning := s.warningFor (s.entryOf b).balance } }

theorem checkDone_eq (hb : x.borrower = some b) : s.checkDone l x =
    ((sessionOpened s l b).writeResult l x.source (checkResult (sessionOpened s l b) l b)).settlePrinter := by
  simp only [State.checkDone, hb, Option.getD_some]
  rfl

/-- A borrower check done has its session open, the entry in hand, and count, limit and balance reported. -/
theorem checkDone_of_entry (hx : (s.lane l).txn = some x) (hb : x.borrower = some b)
    (hp : (s.lane l).endPending = false) : ∃ w, Wrote (sessionOpened s l b) w l (checkResult (sessionOpened s l b) l b) ∧
      w.standing = (s.takeInHand l b).standing ∧ SlipsOnly w (s.checkDone l x) := by
  have hlane : (sessionOpened s l b).lane l = { s.lane l with session := some ⟨b, none⟩ } := by
    have htake : (s.takeInHand l b).lane l = s.lane l := by
      rw [State.takeInHand, useEntry_frame]
      cases l <;> rfl
    rw [sessionOpened, State.lane_mapLane, htake]
  have hpend : ((sessionOpened s l b).lane l).endPending = false := by rw [hlane, hp]
  refine ⟨_, wrote_writeResult hpend x.source _, ?_, by rw [checkDone_eq hb]; exact settlePrinter_slipsOnly _⟩
  refine (standing_writeResult_of_session (ss := ⟨b, none⟩) hpend (by rw [hlane]) fun y c hy hc => ?_).trans
    (State.mapLane_standing _ _ _)
  rw [hlane] at hy
  obtain rfl : x = y := Option.some.inj (hx.symm.trans hy)
  exact Option.some.inj (hc.symm.trans hb)

theorem laneRoll_of_found {roll : RollFields} {t : State} (hx : (s.lane l).txn = some x) (hb : x.borrower = some b)
    (hop : x.operation = .borrowerCheck) (hc : s.createEntry b roll = (t, true)) :
    s.laneRoll l (.found roll) = t.checkDone l x := by
  simp only [State.laneRoll, hx, hb, Option.getD_some, hc, hop]

theorem laneRoll_of_missing (hx : (s.lane l).txn = some x) :
    s.laneRoll l .missing = s.endTxn l .refused .unknownBorrower := by
  simp only [State.laneRoll, hx]

theorem laneRoll_of_fault (hx : (s.lane l).txn = some x) :
    s.laneRoll l .fault = s.endTxn l .failed .lookupFault := by
  simp only [State.laneRoll, hx]

/-- The result of a borrower check that finds no entry. -/
theorem endedResult_of_check (hb : x.borrower = some b) (hn : s.entry? b = none) (hop : x.operation = .borrowerCheck)
    {c : ResultClass} {why : Reason} (hw : why ≠ .limit) : s.endedResult l x c why = { Result.blank l with
      operation := .borrowerCheck, cls := c, reason := why, mode := (s.lane l).mode
      flags := { ResultFlags.clear with warning := s.standing.incomplete } } := by
  have hblocks : s.txnBlocks x = .empty := by simp only [State.txnBlocks, hb, Option.bind_some, hn]
  simp only [State.endedResult, if_neg hw, hblocks, State.plainResult, hop]
  rfl

end BorrowerCheck

/-! ## A lane that waits for a discarded lookup (R131) -/

section Waiting
variable {s : State} {l : LaneId} {x : Txn} {b n : Nat}

theorem rollLookupDone_discarded (h : s.memory.busy = some ⟨.rollLookup (.lane l) b, true⟩) :
    s.rollLookupDone = ((s.freePort.strayRoll b (s.lookupRoll b)).resumeLane l).grant := by
  simp only [State.rollLookupDone, h, if_true]

theorem askLane_of_held {op : MemOp} (hx : (s.lane l).txn = some x) (ho : x.lookup l = some op) (hh : s.laneHeld l = true) :
    s.askLane l = s.mapTxn l fun x => { x with deferred := true } := by
  simp only [State.askLane, hx, Option.bind_some, ho, hh, if_true]

theorem resumeLane_of_lookup (hx : (s.lane l).txn = some x) (hd : x.deferred = true) (hs : x.stage ≠ .commit) :
    s.resumeLane l = (s.mapTxn l fun _ => { x with deferred := false }).askLane l := by
  simp only [State.resumeLane, hx, hd, if_true, if_neg hs]

theorem mapTxn_eq_mapLane (hx : (s.lane l).txn = some x) (f : Txn → Txn) :
    s.mapTxn l f = s.mapLane l fun c => { c with txn := some (f x) } := by
  cases l with
  | a =>
    have htxn : s.laneA.txn = some x := hx
    simp only [State.mapTxn, State.mapLane, State.lane, htxn, Option.map_some]
  | b =>
    have htxn : s.laneB.txn = some x := hx
    simp only [State.mapTxn, State.mapLane, State.lane, htxn, Option.map_some]

end Waiting

/-- Settles O29: the lane's lookup, the table's, and the discarded one. -/
theorem rollLookupsAreAnswered : Obligations.RollLookupsAreAnswered := by
  refine ⟨fun l b x s hbusy hw hx hop hb hstage htrap hss hp hnone hprov => ?_, fun p s hbusy hw hlook hpark hnone => ?_,
    fun l b n x s hbusy hw hx hi hstage => ⟨fun hd => ?_, fun hd hmiss hload => ?_⟩⟩
  · intro ended
    have hwork := atWork_freePort hx
    have hended : ∀ c why, why ≠ .limit → s.freePort.laneRoll l (s.lookupRoll b) = s.freePort.endTxn l c why →
        ended c why := fun c why hlimit heq => by
      obtain ⟨hwrote, hnear⟩ := hwork.ends (by rw [htrap]; decide) (by rw [hstage]; decide) hw hp hprov
        (by simp only [State.awaitingOwn, hb, Option.bind_some, show s.freePort.entry? b = none from hnone]) c why
      have hstanding : (backAtOnce s.freePort l x).standing = s.standing := by
        rw [backAtOnce_frame, reservationBack_of_not_lend (by rw [hop]; decide)]
        rfl
      have hentry : (backAtOnce s.freePort l x).entry? b = none := by rw [State.entry?, hstanding]; exact hnone
      have hmode : ((backAtOnce s.freePort l x).lane l).mode = (s.lane l).mode := by
        rw [backAtOnce_frame]
        cases l <;> rfl
      refine ⟨_, congrArg Host.Outcome.next ((rollLookupDone_lane hbusy).trans
        ((congrArg State.grant heq).trans (hnear.grant hw))), hwrote.state, hwrote.txn, hwrote.unread,
        hnear.session.trans hss, ?_, hnear.memory, ?_, hnear.attached, hnear.line, hnear.traps, hnear.other⟩
      · rw [hwrote.result, endedResult_of_check hb hentry hop hlimit, hmode, hstanding]
      · refine congrArg Standing.entries ((hwrote.table.unused fun y c hy hc => ?_).trans hstanding)
        have hlane : (backAtOnce s.freePort l x).lane l = s.freePort.lane l := by rw [backAtOnce_frame]; cases l <;> rfl
        rw [hlane, hwork.txn] at hy
        obtain rfl : x = y := Option.some.inj hy
        obtain rfl : c = b := Option.some.inj (hc.symm.trans hb)
        exact hentry
    refine ⟨fun hmiss => hended _ _ (by decide) (by rw [hmiss, laneRoll_of_missing hwork.txn]),
      fun hfault => hended _ _ (by decide) (by rw [hfault, laneRoll_of_fault hwork.txn]), fun roll hfound hroom hpark => ?_⟩
    have hmine : s.freePort.standing.parked.filter (·.borrower == b) = [] :=
      List.filter_eq_nil_iff.mpr fun q hq => by
        have := List.any_eq_false.mp hpark q hq
        exact this
    have hcreate := createEntry_of_room (s := s.freePort) (roll := roll) hnone hroom
    rw [hmine, List.foldl_nil] at hcreate
    generalize hu : entryMade s.freePort b roll = u at hcreate
    have hx' : (u.lane l).txn = some x := by rw [← hu]; cases l <;> exact hx
    have hp' : (u.lane l).endPending = false := by rw [← hu]; cases l <;> exact hp
    obtain ⟨w, hwrote, hstanding, hslips⟩ := checkDone_of_entry hx' hb hp'
    have hdone : s.rollLookupDone = (u.checkDone l x).grant :=
      (rollLookupDone_lane hbusy).trans (congrArg State.grant (by rw [hfound, laneRoll_of_found hwork.txn hb hop hcreate]))
    have hopened : sessionOpened u l b = { s with
        laneA := (sessionOpened u l b).laneA, laneB := (sessionOpened u l b).laneB
        standing := (u.takeInHand l b).standing, memory := { s.memory with busy := none } } := by
      rw [sessionOpened, State.takeInHand, useEntry_frame, ← hu]
      cases l <;> rfl
    have hentry : (u.takeInHand l b).entry? b = some (checkedEntry s l b roll) := by
      rw [State.takeInHand, entry?_useEntry u b _ fun _ => setHand_borrower _ l true, ← hu, entry?_entryMade (s := s.freePort) hnone]
      rfl
    have hentry' : (sessionOpened u l b).entry? b = some (checkedEntry s l b roll) := by
      rw [State.entry?, hopened]
      exact hentry
    have hlane : ∀ m, (u.checkDone l x).lane m = w.lane m := hslips.lane
    have hmem : (u.checkDone l x).memory = { s.memory with busy := none } := by
      rw [hslips]
      exact hwrote.memory.trans (by rw [hopened])
    have hst : (u.checkDone l x).standing = (u.takeInHand l b).standing := by
      rw [hslips]
      exact hstanding
    rw [grant_of_no_waiting (by rw [hmem]; exact hw)] at hdone
    obtain ⟨hroll, hown, hpeers, hhand, hfines⟩ := checkedEntry_fields s l b roll
    have hsession : ((sessionOpened u l b).lane l).session = some ⟨b, none⟩ := by rw [sessionOpened, State.lane_mapLane]
    have hresult : (w.lane l).result = _ := hwrote.result
    have hlimit : (sessionOpened u l b).limitInForce roll.category = s.limitInForce roll.category := by
      have hinc : (sessionOpened u l b).standing.incomplete = s.standing.incomplete := by
        rw [hopened, State.takeInHand]
        exact (useEntry_standing u b _).1.trans (by rw [← hu]; rfl)
      rw [State.limitInForce, hinc, hopened]
      rfl
    refine ⟨_, congrArg Host.Outcome.next hdone, ?_, ?_, ?_, ?_, ?_, ?_, ?_, ?_, ?_,
      ⟨checkedEntry s l b roll, ?_, hroll, hown, hpeers, ?_, hfines⟩, fun c hc => ?_, hmem, ?_, ?_, ?_⟩
    · rw [hlane, hwrote.state]
    · rw [hlane, hwrote.txn]
    · rw [hlane, hwrote.unread]
    · rw [hlane, hwrote.session, hsession]
    · rw [hlane, hresult]
      rfl
    · rw [hlane, hresult]
      rfl
    · rw [hlane, hresult]
      rfl
    · rw [hlane, hresult, checkResult, entryOf_of_entry hentry', checkedEntry_count, hroll, hlimit]
    · rw [hlane, hresult, checkResult, entryOf_of_entry hentry', checkedEntry_balance]
    · exact (entry?_of_standing hst b).trans hentry
    · cases l <;> exact hhand
    · refine (entry?_of_standing hst c).trans ?_
      refine (entry?_useEntry_of_ne (fun _ => setHand_borrower _ l true) hc).trans ?_
      rw [← hu, entry?_entryMade_of_ne (s := s.freePort) hc]
      rfl
    · rw [hslips]
      exact hwrote.attached.trans (by rw [hopened])
    · rw [hslips]
      exact hwrote.line.trans (by rw [hopened])
    · rw [hlane, hwrote.other, sessionOpened, lane_mapLane_otherLane, State.takeInHand, useEntry_frame, ← hu]
      cases l <;> rfl
  · refine ⟨fun roll hfound hroom => ?_, fun hanswer => ?_⟩
    · have hmade := entry?_entryMade (s := lookupEnded s.freePort) (b := p.borrower) (roll := roll) hnone
      obtain ⟨hwork, e, he, hroll, hown, hpeers⟩ := applyOffer_of_first hmade rfl
      have hparked : (entryMade (lookupEnded s.freePort) p.borrower roll).standing.parked = [] := by
        have hpark' : (lookupEnded s.freePort).standing.parked = [p] := hpark
        simp [entryMade, hpark']
      have hdone : s.rollLookupDone = (entryMade (lookupEnded s.freePort) p.borrower roll).applyOffer p := by
        rw [rollLookupDone_standing hbusy, hfound, parkedLookupDone_of_found (s := s.freePort) hlook hpark hnone hroom,
          nextParked_of_empty (hwork.parked.trans hparked)]
        exact grant_of_no_waiting (by rw [hwork.frame]; exact hw)
      refine ⟨_, congrArg Host.Outcome.next hdone, hwork.parked.trans hparked, hwork.lookup, hwork.incomplete,
        ⟨e, he, hroll, hown, hpeers⟩, fun c hc => ?_, ?_⟩
      · rw [hwork.others c hc, entry?_entryMade_of_ne hc]
        rfl
      · refine hwork.frame.trans ?_
        rfl
    · refine congrArg Host.Outcome.next ?_
      rw [rollLookupDone_standing hbusy, parkedLookupDone_of_dropped (s := s.freePort) hlook hpark hanswer]
      exact grant_of_no_waiting hw
  · rw [askLane_of_held hx (op := .loansLookup (.lane l) n) (by simp only [Txn.lookup, hstage, hi, Option.map_some])
      (by simp [State.laneHeld, hbusy, isLaneLookup, MemOp.lookupLane]), mapTxn_eq_mapLane hx]
  · refine congrArg Host.Outcome.next ?_
    have hx' : (s.freePort.lane l).txn = some x := (atWork_freePort hx).txn
    have hat := (atWork_freePort hx).mapTxn fun _ => { x with deferred := false }
    rw [rollLookupDone_discarded hbusy, hmiss]
    refine (congrArg State.grant ((resumeLane_of_lookup hx' hd (by rw [hstage]; decide)).trans
      (askLane_of_free hat.txn (op := .loansLookup (.lane l) n) (by simp only [Txn.lookup, hstage, hi, Option.map_some])
        (by rw [State.mapTxn_memory]; rfl) (by rw [State.mapTxn_memory]; exact hw)
        fun _ => by rw [State.mapTxn_memory]; exact hload))).trans ?_
    rw [grant_busy rfl, mapTxn_eq_mapLane hx']
    cases l <;> rfl

end Sys2Proof.Proofs

/-! BLOCK, LIFT and PAYMENT: the lane they take, and how they go on to the line or the journal (R40 to R42). -/

namespace Sys2Proof.Proofs
open Sys2Proof Sys2Proof.Machine

/-! ## The tests of a borrower operation (R40) -/

/-- The context with which a borrower operation begins. -/
def opTxn (op : Operation) (why : BlockReason) (amount b : Nat) : Txn :=
  { Txn.start op .borrower .port with borrower := some b, blockReason := why, amount := amount }

/-- The command is a borrower operation that begins with the context `y`. -/
def Operates (c : Instr) (y : Txn) : Prop :=
  ∀ s, exec c s = .next (s.take 0 fun s => s.operationCommand y)

section Tests
variable {s : State} {l : LaneId} {x : BitVec 48} {b : Nat} {y : Txn} {c : Instr}

theorem withNumber_of_packed (hx : packedNumber x = some b) (n : Nat) (f : Nat → State → State × Reply) :
    withNumber x n f = f b := by
  funext s
  simp only [withNumber, hx]

theorem blockCommand_of_reason {r : Byte} {why : BlockReason} (hr : reasonOfByte r = some why) (op : Operation) :
    blockCommand op r b = fun s => s.operationCommand (opTxn op why 0 b) := by
  funext s
  simp only [blockCommand, hr]
  rfl

theorem operates_block (hx : packedNumber x = some b) {r : Byte} {why : BlockReason} (hr : reasonOfByte r = some why) :
    Operates (.block x r) (opTxn .block why 0 b) := fun s => by
  rw [← blockCommand_of_reason hr, ← withNumber_of_packed hx 0 (blockCommand .block r)]
  rfl

theorem operates_lift (hx : packedNumber x = some b) {r : Byte} {why : BlockReason} (hr : reasonOfByte r = some why) :
    Operates (.lift x r) (opTxn .lift why 0 b) := fun s => by
  rw [← blockCommand_of_reason hr, ← withNumber_of_packed hx 0 (blockCommand .lift r)]
  rfl

theorem operates_payment (hx : packedNumber x = some b) {a : BitVec 24} (h1 : 1 ≤ a.toNat) (h2 : a.toNat ≤ 99999) :
    Operates (.payment x a) (opTxn .payment .lost a.toNat b) := fun s => by
  have hpay : paymentCommand a.toNat b = fun s => s.operationCommand (opTxn .payment .lost a.toNat b) := by
    funext s
    simp only [paymentCommand, if_neg (show ¬ (a.toNat < 1 ∨ 99999 < a.toNat) by omega)]
    rfl
  rw [← hpay, ← withNumber_of_packed hx 0 (paymentCommand a.toNat)]
  rfl

theorem blockCommand_of_bad {r : Byte} (h1 : r ≠ 1) (h2 : r ≠ 2) (op : Operation) :
    blockCommand op r b s = (s, refused 9 0) := by
  simp only [blockCommand, reasonOfByte, if_neg h1, if_neg h2]

theorem paymentCommand_of_bad {a : Nat} (h : a = 0 ∨ 99999 < a) : paymentCommand a b s = (s, refused 10 0) :=
  if_pos (h.imp (fun h => by omega) id)

/-- An operation that a test turns away. -/
theorem Operates.answers (h : Operates c y) (hs : s.serves = true) {r : Reply}
    (hr : s.commandStatus.operationCommand y = (s.commandStatus, r)) :
    exec c s = .next { s with port := s.portAfter (r.code :: r.bytes) r.effect } :=
  (h s).trans (congrArg Host.Outcome.next (take_answers hs hr))

theorem stationRefusal_commandStatus (s : State) (t : Tests) : s.commandStatus.stationRefusal t = s.stationRefusal t := by
  rw [State.commandStatus_eq]
  rfl

theorem operationCommand_of_refusal {why : Reason} (h : s.stationRefusal ⟨true, true⟩ = some why) :
    s.operationCommand y = (s, refused (stationReason why) 0) := by
  simp only [State.operationCommand, h]

theorem operationCommand_of_busy (h : s.stationRefusal ⟨true, true⟩ = none) (ha : s.laneA.free = false)
    (hb : s.laneB.free = false) : s.operationCommand y = (s, busyReply 0) := by
  simp only [State.operationCommand, h, State.operationLane, ha, hb, Bool.false_eq_true, if_false]

/-- The lane that an operation takes: A where it is free, else B (R40). -/
def Takes (s : State) (l : LaneId) : Prop := l = .a ∧ s.laneA.free = true ∨ l = .b ∧ s.laneA.free = false ∧ s.laneB.free = true

theorem operationCommand_of_lane (h : s.stationRefusal ⟨true, true⟩ = none) (hl : Takes s l) :
    s.operationCommand y = (s.startOperation l y, ok) := by
  have hlane : s.operationLane = some l := by
    obtain ⟨rfl, ha⟩ | ⟨rfl, ha, hb⟩ := hl
    · simp only [State.operationLane, ha, if_true]
    · simp only [State.operationLane, ha, hb, Bool.false_eq_true, if_false, if_true]
  simp only [State.operationCommand, h, hlane]

theorem stationRefusal_of_faulted (h : s.memory.faulted = true) (t : Tests) : s.stationRefusal t = some .fault := if_pos h

theorem stationRefusal_of_station (h : s.memory.faulted = false) (hst : s.station ≠ .ready) (t : Tests) :
    s.stationRefusal t = some .notReady := (if_neg (by simp [h])).trans (if_pos (by simpa using hst))

/-- A station that allows the work has a controller at work, a journal with room and stamps. -/
theorem allows_of_stationRefusal (h : s.stationRefusal ⟨true, true⟩ = none) :
    s.memory.faulted = false ∧ s.journalFull = false ∧ s.stampsOut = false := by
  unfold State.stationRefusal at h
  repeat' split at h
  all_goals simp_all

theorem commitRefusal_of_allowed (h : s.stationRefusal ⟨true, true⟩ = none) : s.commitRefusal = none := by
  obtain ⟨-, hfull, hout⟩ := allows_of_stationRefusal h
  rw [State.commitRefusal, hfull, hout]
  rfl

end Tests

/-! ## Begun (R40) -/

section Begun
variable {s : State} {l : LaneId} {b : Nat} {e : Entry} {y : Txn}

/-- With no entry of the borrower, the roll record is asked for. -/
theorem startOperation_of_none (hb : y.borrower = some b) (hs : y.stage = .borrower) (hop : y.operation ≠ .inquire)
    (hnone : s.entry? b = none) (hbusy : s.memory.busy = none) (hw : s.memory.waiting = [])
    (hl : s.memory.load.loading = false) : s.startOperation l y =
      { s.begin l .working y with
        memory := { s.memory with busy := some ⟨.rollLookup (.lane l) b, false⟩, lastLane := some l } } := by
  have hno : ((s.begin l .working y).entry? b).isSome = false := by
    rw [State.entry?, State.begin, State.mapLane_standing]
    exact Option.isSome_eq_false_iff.mpr (by rw [show s.standing.entries.find? (·.borrower == b) = none from hnone]; rfl)
  have htxn : ((s.begin l .working y).lane l).txn = some y := by rw [State.begin, State.lane_mapLane]
  have hmem : (s.begin l .working y).memory = s.memory := by rw [State.begin, State.mapLane_memory]
  simp only [State.startOperation, hb, Option.getD_some, hno, Bool.false_eq_true, if_false]
  refine (askLane_of_free htxn (op := .rollLookup (.lane l) b) (by simp only [Txn.lookup, hs, hb, Option.map_some, if_neg hop])
    (by rw [hmem, hbusy]) (by rw [hmem, hw]) fun _ => by rw [hmem, hl]).trans ?_
  rw [hmem]
  rfl

/-- From `s` to `t` the operation has begun, with its borrower's entry in hand. -/
structure OpBegun (s t : State) (l : LaneId) (y : Txn) (b : Nat) (e : Entry) : Prop where
  frame : t = { s with laneA := t.laneA, laneB := t.laneB, standing := t.standing }
  lane : t.lane l = { s.lane l with state := .working, txn := some y, idleTimer := none }
  other : t.lane (otherLane l) = s.lane (otherLane l)
  entry : HoldsEntry t b e

/-- The state in which an operation goes on. -/
def opBegun (s : State) (l : LaneId) (y : Txn) (b : Nat) : State := (s.begin l .working y).takeInHand l b

theorem opBegun_begun (he : s.entry? b = some e) : OpBegun s (opBegun s l y b) l y b e where
  frame := by
    rw [opBegun, State.takeInHand, useEntry_frame, State.begin]
    cases l <;> rfl
  lane := by
    rw [opBegun, State.takeInHand, useEntry_frame, State.begin]
    cases l <;> rfl
  other := by
    rw [opBegun, State.takeInHand, useEntry_frame, State.begin]
    cases l <;> rfl
  entry := ((HoldsEntry.of_entry he).mapLane l _).takeInHand l b

theorem startOperation_of_entry (hb : y.borrower = some b) (he : s.entry? b = some e) :
    s.startOperation l y = if y.operation = .payment then (opBegun s l y b).commitOperation l .refused false
      else (opBegun s l y b).blockOn l y := by
  have hsome : ((s.begin l .working y).entry? b).isSome = true := by
    rw [State.entry?, State.begin, State.mapLane_standing]
    exact Option.isSome_iff_exists.mpr ⟨e, he⟩
  simp only [State.startOperation, State.operationOn, hb, Option.getD_some, hsome, if_true]
  rfl

variable {t : State}

theorem OpBegun.refusal (h : OpBegun s t l y b e) (hr : s.stationRefusal ⟨true, true⟩ = none) : t.commitRefusal = none := by
  rw [h.frame]
  exact commitRefusal_of_allowed hr

/-- Its record is requested at once. -/
theorem OpBegun.commits (h : OpBegun s t l y b e) (hr : s.stationRefusal ⟨true, true⟩ = none) (hbusy : s.memory.busy = none)
    (hw : s.memory.waiting = []) (c : ResultClass) : t.commitOperation l c false =
      { t.mapTxn l (committedAs (s.line.stamps + 1)) with
        line := { s.line with stamps := s.line.stamps + 1 }
        memory := { s.memory with
          requested := s.memory.requested + 1
          busy := some ⟨.append (s.recordFor l y (s.line.stamps + 1)), false⟩ } } := by
  have hmem : t.memory = s.memory := by rw [h.frame]
  have hline : t.line = s.line := by rw [h.frame]
  have hrec : t.recordFor l y (s.line.stamps + 1) = s.recordFor l y (s.line.stamps + 1) :=
    recordFor_of_lane t (by rw [hmem]) (by rw [hmem]) (by rw [h.frame]) _
  simp only [State.commitOperation, h.refusal hr]
  rw [requestAppend_of_free (x := y) (by rw [h.lane]) (by rw [hmem, hbusy]) (by rw [hmem, hw])
    (by rw [hmem]; exact (allows_of_stationRefusal hr).1), hline, hmem, hrec]

/-- A block or lift with the line open hands its notice, and waits. -/
theorem OpBegun.waits (h : OpBegun s t l y b e) (hb : y.borrower = some b) (hr : s.stationRefusal ⟨true, true⟩ = none)
    (hopen : s.line.listenOnly = false) (hu : s.line.u.length < 8) : t.blockOn l y =
      { (t.mapTxn l fun x => { x with stage := .awaitLine, stamp := s.line.stamps + 1 }).mapLane l fun c =>
          { c with blockWait := some 2000 } with
        line := { s.line with
          stamps := s.line.stamps + 1
          u := s.line.u ++ [⟨s.line.stamps + 1, 255, .block ⟨b, e.own.loans, e.own.balance⟩
            (BlockAction.ofOperation y.operation) y.blockReason⟩] } } := by
  have hline : t.line = s.line := by rw [h.frame]
  obtain ⟨f, hf, hh⟩ := h.entry
  have htally : (t.entryOf b).tallyPart = ⟨b, e.own.loans, e.own.balance⟩ := by
    rw [entryOf_of_entry hf, Entry.tallyPart, hh.own, entry?_borrower hf]
  have hstamps : t.line.stamps < 65535 := by
    rw [hline]
    have hout := (allows_of_stationRefusal hr).2.2
    exact Nat.not_le.mp fun hle => by rw [State.stampsOut, decide_eq_true (by exact hle)] at hout; cases hout
  have hhand := handStamped_of_room (s := t)
    (body := .block ⟨b, e.own.loans, e.own.balance⟩ (BlockAction.ofOperation y.operation) y.blockReason) (c := .u) rfl
    (by rw [State.queueOf, hline]; exact hu) hstamps
  rw [State.blockOn, if_neg (by rw [hline, hopen]; exact Bool.false_ne_true)]
  simp only [hb, Option.getD_some, htally, hhand]
  simp only [State.setQueueOf, State.takeStamp, State.queueOf, hline]
  cases l <;> rfl

theorem blockOn_of_listenOnly (h : s.line.listenOnly = true) (y : Txn) :
    s.blockOn l y = s.commitOperation l .refused false := by
  simp only [State.blockOn, h, if_true]

theorem recordFor_opTxn (op : Operation) (why : BlockReason) (amount stamp : Nat)
    (hop : op = .block ∨ op = .lift ∨ op = .payment) : s.recordFor l (opTxn op why amount b) stamp =
      { number := s.memory.copies.head + s.memory.requested, stamp := stamp, kind := (opTxn op why amount b).recordKind
        lane := l, day := s.clock.day, minute := s.clock.minute, borrower := b, item := 0, dueDay := 0, dueMinute := 0
        holdBorrower := 0, amount := if op = .payment then amount else 0
        outcome := if op = .payment then 0 else blockReasonCode why, edition := s.edition } := by
  obtain rfl | rfl | rfl := hop <;> rfl

end Begun

/-! ## The commands (R40, R41, R42) -/

section Commands
variable {s : State} {l : LaneId} {b : Nat} {e : Entry} {op : Operation} {why : BlockReason} {amount : Nat} {c : Instr}

theorem free_port (s : State) (p : Port) (h : Takes s l) : Takes { s with port := p } l := h

/-- An operation whose borrower has no entry takes its lane and asks for the roll record. -/
theorem Operates.begins (h : Operates c (opTxn op why amount b)) (hs : s.serves = true) (hop : op ≠ .inquire)
    (hr : s.stationRefusal ⟨true, true⟩ = none) (hnone : s.entry? b = none) (hbusy : s.memory.busy = none)
    (hw : s.memory.waiting = []) (hload : s.memory.load.loading = false) (hl : Takes s l) :
    exec c s = .next
      { s.mapLane l fun c => { c with state := .working, txn := some (opTxn op why amount b), idleTimer := none } with
        memory := { s.memory with busy := some ⟨.rollLookup (.lane l) b, false⟩, lastLane := some l }
        port := s.portAfter [0#8] .none } := by
  refine (h s).trans (congrArg Host.Outcome.next (take_changes hs (r := ok)
    (t := { s.begin l .working (opTxn op why amount b) with
      memory := { s.memory with busy := some ⟨.rollLookup (.lane l) b, false⟩, lastLane := some l } }) fun p => ?_))
  rw [operationCommand_of_lane (by exact hr) (free_port s p hl),
    startOperation_of_none (s := { s with port := p }) rfl rfl hop hnone hbusy hw hload, State.begin, mapLane_port]
  rfl

/-- An operation whose borrower has an entry takes its lane and goes on at once. -/
theorem Operates.goesOn (h : Operates c (opTxn op why amount b)) (hs : s.serves = true)
    (hr : s.stationRefusal ⟨true, true⟩ = none) (he : s.entry? b = some e) (hl : Takes s l) :
    ∃ (p : Port) (t : State), OpBegun { s with port := p } t l (opTxn op why amount b) b e ∧
      exec c s = .next ((if op = .payment then t.commitOperation l .refused false
        else t.blockOn l (opTxn op why amount b)).answer ok) := by
  obtain ⟨p, -, -, -, htake⟩ := take_of_serves hs
  refine ⟨p, opBegun { s with port := p } l (opTxn op why amount b) b, opBegun_begun he, (h s).trans ?_⟩
  rw [htake, operationCommand_of_lane (by exact hr) (free_port s p hl),
    startOperation_of_entry (s := { s with port := p }) rfl he]
  rfl

/-- The operation's record with the next stamp is requested, and the lane committed. -/
def CommitsRecord (s : State) (l : LaneId) (b : Nat) (t : State) (kind : RecordKind) (amount outcome : Nat) : Prop :=
  (t.lane l).state = .working ∧ t.line = { s.line with stamps := s.line.stamps + 1 } ∧
    t.memory.requested = s.memory.requested + 1 ∧ t.port.answer = [0#8] ∧
    t.lane (otherLane l) = s.lane (otherLane l) ∧ t.attached = s.attached ∧
    (∃ y, (t.lane l).txn = some y ∧ y.committed = true ∧ y.stage = .commit ∧ y.stamp = s.line.stamps + 1) ∧
    t.memory.busy = some ⟨.append
      { number := s.memory.copies.head + s.memory.requested, stamp := s.line.stamps + 1, kind := kind, lane := l
        day := s.clock.day, minute := s.clock.minute, borrower := b, item := 0, dueDay := 0, dueMinute := 0
        holdBorrower := 0, amount := amount, outcome := outcome, edition := s.edition }, false⟩

theorem OpBegun.answers_commits {p : Port} {t : State}
    (h : OpBegun { s with port := p } t l (opTxn op why amount b) b e)
    (hop : op = .block ∨ op = .lift ∨ op = .payment) (hr : s.stationRefusal ⟨true, true⟩ = none)
    (hbusy : s.memory.busy = none) (hw : s.memory.waiting = []) (cls : ResultClass) :
    CommitsRecord s l b ((t.commitOperation l cls false).answer ok) (opTxn op why amount b).recordKind
      (if op = .payment then amount else 0) (if op = .payment then 0 else blockReasonCode why) := by
  have hx : (t.lane l).txn = some (opTxn op why amount b) := by rw [h.lane]
  have hmap : (t.mapTxn l (committedAs (s.line.stamps + 1))) = t.mapLane l fun c => { c with
      txn := some (committedAs (s.line.stamps + 1) (opTxn op why amount b)) } := mapTxn_eq_mapLane hx _
  have hlane : ((t.mapTxn l (committedAs (s.line.stamps + 1))).lane l).txn =
      some (committedAs (s.line.stamps + 1) (opTxn op why amount b)) := by
    rw [hmap, State.lane_mapLane]
  have hstate : ((t.mapTxn l (committedAs (s.line.stamps + 1))).lane l).state = .working := by
    rw [hmap, State.lane_mapLane, h.lane]
  have hother : (t.mapTxn l (committedAs (s.line.stamps + 1))).lane (otherLane l) = s.lane (otherLane l) := by
    rw [hmap, lane_mapLane_otherLane, h.other, lane_port]
  have hattached : (t.mapTxn l (committedAs (s.line.stamps + 1))).attached = s.attached := by
    rw [State.mapTxn_attached, h.frame]
  rw [h.commits hr hbusy hw cls, recordFor_opTxn op why amount _ hop]
  cases l <;> exact ⟨hstate, rfl, rfl, rfl, hother, hattached, ⟨_, hlane, rfl, rfl, rfl⟩, rfl⟩

/-- The notice is queued with the next stamp, and the lane waits 2 s for the line. -/
def WaitsForLine (s : State) (l : LaneId) (b : Nat) (e : Entry) (t : State) (action : BlockAction) (why : BlockReason) : Prop :=
  t.line = { s.line with
    stamps := s.line.stamps + 1
    u := s.line.u ++ [⟨s.line.stamps + 1, 255, .block ⟨b, e.own.loans, e.own.balance⟩ action why⟩] } ∧
  (t.lane l).state = .working ∧ (t.lane l).blockWait = some 2000 ∧ t.memory = s.memory ∧
  t.lane (otherLane l) = s.lane (otherLane l) ∧ t.port.answer = [0#8] ∧
  ∃ y, (t.lane l).txn = some y ∧ y.stage = .awaitLine ∧ y.stamp = s.line.stamps + 1 ∧ y.committed = false

theorem OpBegun.answers_waits {p : Port} {t : State}
    (h : OpBegun { s with port := p } t l (opTxn op why amount b) b e)
    (hr : s.stationRefusal ⟨true, true⟩ = none) (hopen : s.line.listenOnly = false) (hu : s.line.u.length < 8) :
    WaitsForLine s l b e ((t.blockOn l (opTxn op why amount b)).answer ok) (BlockAction.ofOperation op) why := by
  have hx : (t.lane l).txn = some (opTxn op why amount b) := by rw [h.lane]
  rw [h.waits rfl hr hopen hu, mapTxn_eq_mapLane hx, mapLane_mapLane]
  generalize hm : t.mapLane l _ = m
  have hlane : m.lane l = { s.lane l with
      state := .working, idleTimer := none, blockWait := some 2000
      txn := some { opTxn op why amount b with stage := .awaitLine, stamp := s.line.stamps + 1 } } := by
    rw [← hm, State.lane_mapLane, h.lane]
    rfl
  have hother : m.lane (otherLane l) = s.lane (otherLane l) := by
    rw [← hm, lane_mapLane_otherLane, h.other, lane_port]
  have hmem : m.memory = s.memory := by rw [← hm, State.mapLane_memory, h.frame]
  have hstate : (m.lane l).state = .working := by rw [hlane]
  have hwait : (m.lane l).blockWait = some 2000 := by rw [hlane]
  have htxn : (m.lane l).txn = some { opTxn op why amount b with stage := .awaitLine, stamp := s.line.stamps + 1 } := by
    rw [hlane]
  cases l <;> exact ⟨rfl, hstate, hwait, hmem, hother, rfl, _, htxn, rfl, rfl, rfl⟩

theorem Operates.commits (h : Operates c (opTxn op why amount b)) (hs : s.serves = true)
    (hop : op = .block ∨ op = .lift ∨ op = .payment) (hr : s.stationRefusal ⟨true, true⟩ = none)
    (he : s.entry? b = some e) (hl : Takes s l) (hbusy : s.memory.busy = none) (hw : s.memory.waiting = [])
    (honce : op = .payment ∨ s.line.listenOnly = true) :
    ∃ t, exec c s = .next t ∧ CommitsRecord s l b t (opTxn op why amount b).recordKind
      (if op = .payment then amount else 0) (if op = .payment then 0 else blockReasonCode why) := by
  obtain ⟨p, t, hbegun, hexec⟩ := h.goesOn hs hr he hl
  have hcommits : (if op = .payment then t.commitOperation l .refused false else t.blockOn l (opTxn op why amount b)) =
      t.commitOperation l .refused false := by
    split
    · rfl
    · next hpay => exact blockOn_of_listenOnly (by rw [hbegun.frame]; exact honce.resolve_left hpay) _
  rw [hcommits] at hexec
  exact ⟨_, hexec, hbegun.answers_commits hop hr hbusy hw _⟩

theorem Operates.waits (h : Operates c (opTxn op why amount b)) (hs : s.serves = true) (hop : op ≠ .payment)
    (hr : s.stationRefusal ⟨true, true⟩ = none) (he : s.entry? b = some e) (hl : Takes s l)
    (hopen : s.line.listenOnly = false) (hu : s.line.u.length < 8) :
    ∃ t, exec c s = .next t ∧ WaitsForLine s l b e t (BlockAction.ofOperation op) why := by
  obtain ⟨p, t, hbegun, hexec⟩ := h.goesOn hs hr he hl
  rw [if_neg hop] at hexec
  exact ⟨_, hexec, hbegun.answers_waits hr hopen hu⟩

theorem Operates.turnsAway (h : Operates c y) (hs : s.serves = true) {why : Reason}
    (hr : s.stationRefusal ⟨true, true⟩ = some why) :
    exec c s = .next { s with port := s.portAfter [BitVec.ofNat 8 (0x80 + stationReason why)] .none } :=
  h.answers hs (r := refused (stationReason why) 0)
    (operationCommand_of_refusal ((stationRefusal_commandStatus s _).trans hr))

theorem Operates.busy (h : Operates c y) (hs : s.serves = true) (hr : s.stationRefusal ⟨true, true⟩ = none)
    (ha : s.laneA.free = false) (hb : s.laneB.free = false) :
    exec c s = .next { s with port := s.portAfter [1#8] .none } :=
  h.answers hs (r := busyReply 0) (operationCommand_of_busy ((stationRefusal_commandStatus s _).trans hr)
    (by rw [State.commandStatus_laneA, ha]) (by rw [State.commandStatus_laneB, hb]))

theorem exec_block_of_bad {x : BitVec 48} (hs : s.serves = true) (hx : packedNumber x = some b) {r : Byte} (h1 : r ≠ 1)
    (h2 : r ≠ 2) : exec (.block x r) s = .next { s with port := s.portAfter [0x89#8] .none } :=
  congrArg Host.Outcome.next (take_answers hs (r := refused 9 0) (by
    rw [withNumber_of_packed hx 0 (blockCommand .block r), blockCommand_of_bad h1 h2]))

theorem exec_lift_of_bad {x : BitVec 48} (hs : s.serves = true) (hx : packedNumber x = some b) {r : Byte} (h1 : r ≠ 1)
    (h2 : r ≠ 2) : exec (.lift x r) s = .next { s with port := s.portAfter [0x89#8] .none } :=
  congrArg Host.Outcome.next (take_answers hs (r := refused 9 0) (by
    rw [withNumber_of_packed hx 0 (blockCommand .lift r), blockCommand_of_bad h1 h2]))

theorem exec_payment_of_bad {x : BitVec 48} (hs : s.serves = true) (hx : packedNumber x = some b) {a : BitVec 24}
    (h : a.toNat = 0 ∨ 99999 < a.toNat) :
    exec (.payment x a) s = .next { s with port := s.portAfter [0x8A#8] .none } :=
  congrArg Host.Outcome.next (take_answers hs (r := refused 10 0) (by
    rw [withNumber_of_packed hx 0 (paymentCommand a.toNat), paymentCommand_of_bad h]))

end Commands

/-- Settles O24: each command is an operation with its own context, whose course the lemmas above give once. -/
theorem borrowerOperationsBeginAndGoOn : Obligations.BorrowerOperationsBeginAndGoOn := by
  unfold Obligations.BorrowerOperationsBeginAndGoOn
  have reason_of {r : Byte} (hr : r = 1 ∨ r = 2) : ∃ why, reasonOfByte r = some why := by
    obtain rfl | rfl := hr
    · exact ⟨.lost, rfl⟩
    · exact ⟨.staff, rfl⟩
  refine ⟨fun x b s hs hx => ?_, fun l x b e s hs hx hr he hl => ?_⟩
  · have b1 := operates_block hx (r := 1) (why := .lost) rfl
    have b2 := operates_block hx (r := 2) (why := .staff) rfl
    have l1 := operates_lift hx (r := 1) (why := .lost) rfl
    have l2 := operates_lift hx (r := 2) (why := .staff) rfl
    refine ⟨fun hr hnone hbusy hw hload l hl => ⟨?_, ?_, ?_, ?_, fun a h1 h2 => ?_⟩, fun hr ha hb a h1 h2 r hreason => ?_,
      fun a h1 h2 r hreason => ⟨fun hf => ?_, fun hf hst => ?_⟩,
      fun r h1 h2 => ⟨exec_block_of_bad hs hx h1 h2, exec_lift_of_bad hs hx h1 h2⟩,
      fun a ha => exec_payment_of_bad hs hx ha⟩
    · exact b1.begins hs (by decide) hr hnone hbusy hw hload hl
    · exact b2.begins hs (by decide) hr hnone hbusy hw hload hl
    · exact l1.begins hs (by decide) hr hnone hbusy hw hload hl
    · exact l2.begins hs (by decide) hr hnone hbusy hw hload hl
    · exact (operates_payment hx h1 h2).begins hs (by decide) hr hnone hbusy hw hload hl
    · obtain ⟨why, hwhy⟩ := reason_of hreason
      exact ⟨(operates_block hx hwhy).busy hs hr ha hb, (operates_lift hx hwhy).busy hs hr ha hb,
        (operates_payment hx h1 h2).busy hs hr ha hb⟩
    · obtain ⟨why, hwhy⟩ := reason_of hreason
      have hrefusal := stationRefusal_of_faulted hf ⟨true, true⟩
      exact ⟨(operates_block hx hwhy).turnsAway hs hrefusal, (operates_lift hx hwhy).turnsAway hs hrefusal,
        (operates_payment hx h1 h2).turnsAway hs hrefusal⟩
    · obtain ⟨why, hwhy⟩ := reason_of hreason
      have hrefusal := stationRefusal_of_station hf hst ⟨true, true⟩
      exact ⟨(operates_block hx hwhy).turnsAway hs hrefusal, (operates_lift hx hwhy).turnsAway hs hrefusal,
        (operates_payment hx h1 h2).turnsAway hs hrefusal⟩
  · have b1 := operates_block hx (r := 1) (why := .lost) rfl
    have b2 := operates_block hx (r := 2) (why := .staff) rfl
    have l1 := operates_lift hx (r := 1) (why := .lost) rfl
    have l2 := operates_lift hx (r := 2) (why := .staff) rfl
    refine ⟨fun hbusy hw => ⟨fun a h1 h2 => ?_, fun hlisten => ⟨?_, ?_, ?_, ?_⟩⟩,
      fun hopen hu => ⟨?_, ?_, ?_, ?_⟩⟩
    · exact (operates_payment hx h1 h2).commits hs (.inr (.inr rfl)) hr he hl hbusy hw (.inl rfl)
    · exact b1.commits hs (.inl rfl) hr he hl hbusy hw (.inr hlisten)
    · exact b2.commits hs (.inl rfl) hr he hl hbusy hw (.inr hlisten)
    · exact l1.commits hs (.inr (.inl rfl)) hr he hl hbusy hw (.inr hlisten)
    · exact l2.commits hs (.inr (.inl rfl)) hr he hl hbusy hw (.inr hlisten)
    · exact b1.waits hs (by decide) hr he hl hopen hu
    · exact b2.waits hs (by decide) hr he hl hopen hu
    · exact l1.waits hs (by decide) hr he hl hopen hu
    · exact l2.waits hs (by decide) hr he hl hopen hu

end Sys2Proof.Proofs

/-! Notices of a peer: each is judged by its stamp and applied to its table (R71, R77, R78, R92, R98 to R101, R116 to
R118). -/

namespace Sys2Proof.Proofs
open Sys2Proof Sys2Proof.Machine

/-! ## A peer's tally at an entry (R70, R71) -/

/-- With no record of that station, all stay and the new one joins them. -/
theorem mem_putTally_of_new {p : PeerTally} {ps : List PeerTally} (h : ∀ q ∈ ps, q.station ≠ p.station) (x : PeerTally) :
    x ∈ putTally p ps ↔ x = p ∨ x ∈ ps := by
  induction ps with
  | nil => simp [putTally]
  | cons q rest ih =>
    rw [putTally]
    split
    · simp
    · rw [if_neg (Ne.symm (h q List.mem_cons_self)), List.mem_cons, ih fun r hr => h r (List.mem_cons_of_mem q hr),
        List.mem_cons]
      tauto

/-- The entry with a station's tally put. -/
def tallied (e : Entry) (rs : RuleSet) (n : Nat) (t : Tally) : Entry :=
  Entry.evaluate { e with peers := putTally ⟨n, t⟩ e.peers } rs

theorem offer_of_new {e : Entry} {n : Nat} (h : ∀ q ∈ e.peers, q.station ≠ n) (rs : RuleSet) (t : Tally) :
    e.offer rs n t = some (tallied e rs n t) := by
  have hfind : e.peers.find? (·.station == n) = none := List.find?_eq_none.mpr fun q hq => by simpa using h q hq
  simp only [Entry.offer, hfind]
  rfl

section Tables
variable {s : State} {b : Nat} {e g : Entry}

/-- The entry replaced by another of its borrower. -/
theorem useEntry_const (he : s.entry? b = some e) (hg : g.borrower = b) :
    EntryWork s (s.useEntry b fun _ => g) b ∧ ∃ n, (s.useEntry b fun _ => g).entry? b = some { g with lastUse := n } := by
  have huse : s.useEntry b (fun _ => g) = s.useEntry b fun x => if x.borrower = b then g else x :=
    useEntry_congr fun x hx => (if_pos hx).symm
  have hkeep : ∀ x : Entry, (if x.borrower = b then g else x).borrower = x.borrower := fun x => by
    split
    · next hx => rw [hg, hx]
    · rfl
  have hentry := entry?_useEntry s b (fun x => if x.borrower = b then g else x) hkeep
  rw [he, Option.map_some, if_pos (entry?_borrower he)] at hentry
  exact ⟨huse ▸ .useEntry s hkeep, _, by rw [huse, hentry]⟩

/-- The offer's tally taken, or not. -/
def offerTaken (s : State) (p : Parked) (e : Entry) : State :=
  match e.offer s.reckoner.active p.station p.tally with
  | some e' => s.useEntry p.borrower fun _ => e'
  | none => s

theorem applyOffer_of_entry {p : Parked} (he : s.entry? p.borrower = some e) : s.applyOffer p =
    State.optBlockAction (State.optBlockAction (offerTaken s p e) p.live p.borrower p.station .lost p.lost)
      p.live p.borrower p.station .staff p.staff := by
  simp only [State.applyOffer, he]
  rfl

/-- The station `n`'s tally is put at the borrower's entry, which keeps its block records, and nothing else changes. -/
structure TallyPut (s t : State) (b : Nat) (e e' : Entry) (n : Nat) (y : Tally) : Prop extends EntryWork s t b where
  entry : t.entry? b = some e'
  put : ⟨n, y⟩ ∈ e'.peers
  kept : ∀ q ∈ e.peers, q ∈ e'.peers
  own : e'.own = e.own
  roll : e'.roll = e.roll
  records : ∀ why, e'.record why = e.record why

theorem offerTaken_of_new {p : Parked} (he : s.entry? p.borrower = some e) (hnew : ∀ q ∈ e.peers, q.station ≠ p.station) :
    ∃ e', TallyPut s (offerTaken s p e) p.borrower e e' p.station p.tally := by
  have htaken : offerTaken s p e =
      s.useEntry p.borrower fun _ => tallied e s.reckoner.active p.station p.tally := by
    simp only [offerTaken, offer_of_new hnew]
  have hmem := mem_putTally_of_new (p := ⟨p.station, p.tally⟩) (by exact hnew)
  obtain ⟨hwork, n, hentry⟩ := useEntry_const (g := tallied e s.reckoner.active p.station p.tally) he
    (show e.borrower = p.borrower from entry?_borrower he)
  rw [← htaken] at hwork hentry
  exact ⟨_, hwork, hentry, (hmem _).mpr (.inl rfl), fun q hq => (hmem q).mpr (.inr hq), rfl, rfl, fun why => by
    cases why <;> rfl⟩

theorem applyOffer_frame (p : Parked) : s.applyOffer p = { s with standing := (s.applyOffer p).standing } := by
  cases he : s.entry? p.borrower with
  | none =>
    have hsame : s.applyOffer p = s := by simp only [State.applyOffer, he]
    rw [hsame]
  | some e =>
    have htaken : offerTaken s p e = { s with standing := (offerTaken s p e).standing } := by
      unfold offerTaken
      split
      · exact useEntry_frame s _ _
      · rfl
    have hwork := (entryWork_optBlockAction (s := offerTaken s p e) (live := p.live) (b := p.borrower)
      (station := p.station) (why := .lost) p.lost).trans (entryWork_optBlockAction (live := p.live)
      (station := p.station) (why := .staff) p.staff)
    rw [applyOffer_of_entry he]
    generalize offerTaken s p e = t at htaken hwork
    rw [hwork.frame, htaken]

theorem tallyOffer_of_entry {p : Parked} (hp : p.station ≠ s.number) (he : (s.entry? p.borrower).isSome = true) :
    s.tallyOffer p = s.applyOffer p := (if_neg hp).trans (if_pos he)

end Tables

/-! ## A peer's block action (R77, R78) -/

section Block
variable {s : State} {b n k : Nat} {e : Entry} {why : BlockReason} {a : BlockAction}

def otherReason : BlockReason → BlockReason
  | .lost => .staff
  | .staff => .lost

@[simp] theorem record_setRecord (e : Entry) (why : BlockReason) (r : BlockRecord) : (e.setRecord why r).record why = r := by
  cases why <;> rfl

@[simp] theorem record_setRecord_other (e : Entry) (why : BlockReason) (r : BlockRecord) :
    (e.setRecord why r).record (otherReason why) = e.record (otherReason why) := by cases why <;> rfl

/-- The live action of a peer at its record. -/
theorem entry?_liveAction (he : s.entry? b = some e) : ∃ e',
    (s.optBlockAction true b n why (some ⟨a, k⟩)).entry? b = some e' ∧ SameTallies e e' ∧
      e'.record why = s.heardAction b why (e.record why) a n k ∧ e'.record (otherReason why) = e.record (otherReason why) := by
  simp only [State.optBlockAction, State.blockAction, he, if_true]
  split
  · next hshown =>
    obtain ⟨hunsent, hempty⟩ := Bool.and_eq_true_iff.mp hshown
    refine ⟨e, he, ⟨rfl, rfl, rfl⟩, ?_, rfl⟩
    rw [State.heardAction, if_pos hunsent]
    generalize e.record why = r at hempty
    obtain ⟨st, aw⟩ := r
    obtain rfl : aw = [] := List.isEmpty_iff.mp hempty
    rfl
  · refine ⟨_, by rw [entry?_useEntry s b _ fun _ => setRecord_borrower _ why _, he]; rfl, ?_, ?_, ?_⟩
    · exact sameTallies_setRecord e why _
    · cases why <;> rfl
    · cases why <;> rfl

/-- The notice is the BLOCK of the own action that a record of the borrower shows. -/
def ShowsOwn (s : State) (b : Nat) (why : BlockReason) (shown : BlockState) (m : Notice) : Prop :=
  ∃ y x, m.body = .block y x why ∧ y.borrower = b ∧ (shown = .raised s.number m.stamp ∨ shown = .lifted s.number m.stamp)

theorem isBlockOf_iff (m : Notice) : m.isBlockOf b why k = true ↔ ∃ y x, m.body = .block y x why ∧ y.borrower = b ∧ m.stamp = k := by
  unfold Notice.isBlockOf
  split
  · next t x c h =>
    simp only [Bool.and_eq_true, beq_iff_eq]
    constructor
    · rintro ⟨⟨hk, hb⟩, rfl⟩
      exact ⟨t, x, h, hb, hk⟩
    · rintro ⟨y, x', hy, hb, hk⟩
      rw [h] at hy
      cases hy
      exact ⟨⟨hk, hb⟩, rfl⟩
  · next hne => exact ⟨fun h => (nomatch h), fun ⟨y, x, hy, _⟩ => absurd hy (hne y x why)⟩

theorem stampOf_iff (own : Nat) (shown : BlockState) :
    shown.stampOf own = some k ↔ shown = .raised own k ∨ shown = .lifted own k := by
  cases shown <;> simp [BlockState.stampOf]

theorem showsUnsent_iff (r : BlockRecord) : s.showsUnsent b why r = true ↔ ∃ m ∈ s.line.u, ShowsOwn s b why r.state m := by
  unfold State.showsUnsent
  split
  · next hnone =>
    refine ⟨fun h => (nomatch h), fun ⟨m, _, _, _, _, _, hshown⟩ => ?_⟩
    rw [(stampOf_iff _ _).mpr hshown] at hnone
    exact nomatch hnone
  · next k hk =>
    rw [State.queued, List.any_eq_true]
    refine exists_congr fun m => and_congr_right fun _ => (isBlockOf_iff m).trans ?_
    refine exists_congr fun y => exists_congr fun x => and_congr_right fun _ => and_congr_right fun _ => ?_
    rw [← stampOf_iff, hk, Option.some_inj, eq_comm]

/-- As a test of the queued notices, by what it says of a BLOCK and of any other. -/
theorem showsUnsent_iff_any {test : Notice → Bool} (r : BlockRecord)
    (hblock : ∀ m y x c, m.body = .block y x c → (test m = true ↔
      c = why ∧ y.borrower = b ∧ (r.state = .raised s.number m.stamp ∨ r.state = .lifted s.number m.stamp)))
    (helse : ∀ m, (∀ y x c, m.body ≠ .block y x c) → test m = false) :
    s.showsUnsent b why r = true ↔ s.line.u.any test = true := by
  rw [showsUnsent_iff, List.any_eq_true]
  refine exists_congr fun m => and_congr_right fun _ => ⟨fun ⟨y, x, hm, hrest⟩ => ?_, fun hm => ?_⟩
  · exact (hblock m y x why hm).mpr ⟨rfl, hrest⟩
  · by_cases hbody : ∃ y x c, m.body = .block y x c
    · obtain ⟨y, x, c, hbody⟩ := hbody
      obtain ⟨rfl, hrest⟩ := (hblock m y x c hbody).mp hm
      exact ⟨y, x, hbody, hrest⟩
    · rw [helse m fun y x c h => hbody ⟨y, x, c, h⟩] at hm
      cases hm

end Block

/-! ## Items and traps written (R92, R96, R100) -/

section Written
variable {s : State} {i : ItemEntry} {t : TrapRecord}

theorem item?_putItem (s : State) (i : ItemEntry) : (s.putItem i).item? i.item = some i := by
  have hnone : (s.overlay.entries.filter (·.item != i.item)).find? (·.item == i.item) = none :=
    List.find?_eq_none.mpr fun y hy => by simpa using (List.mem_filter.mp hy).2
  rw [State.item?, State.putItem, State.setOverlay_overlay, List.find?_append, hnone]
  simp

theorem item?_putItem_of_ne {k : Nat} (h : k ≠ i.item) : (s.putItem i).item? k = s.item? k := by
  have hlast : [i].find? (·.item == k) = none := List.find?_eq_none.mpr fun y hy => by
    obtain rfl := List.mem_singleton.mp hy
    simpa using Ne.symm h
  rw [State.item?, State.putItem, State.setOverlay_overlay, List.find?_append, hlast, Option.or_none, List.find?_filter,
    State.item?]
  refine List.find?_congr fun y _ => ?_
  by_cases hy : y.item = k
  · simp [hy, h]
  · simp [hy]

/-- A new item in a free place. -/
theorem newItem_eq_putItem {spare : Bool} (hroom : s.overlay.used < 8192) (hspare : (spare && i.reclaimable) = false) :
    s.newItem i spare = s.putItem i := by
  have hfree : s.overlay.freeRoom = some s.overlay := if_pos hroom
  simp only [State.newItem, hspare, Bool.false_eq_true, if_false, hfree]
  rfl

theorem recordTrap_of_room (hnone : s.trap? t.title t.rank = none) (hlen : s.traps.length < 512) :
    s.recordTrap t = { s with traps := s.traps ++ [t] } := by
  have hroom : s.trapRoom t.title t.rank = some s := if_pos (by
    rw [hnone]
    exact decide_eq_true hlen)
  have hkeep : s.traps.filter (fun x => !x.isFor t.title t.rank) = s.traps :=
    List.filter_eq_self.mpr fun y hy => by simpa using List.find?_eq_none.mp hnone y hy
  simp only [State.recordTrap, hroom, State.putTrap, State.setTraps, hkeep]

theorem trap?_putTrap_of {title rank : Nat} (hti : t.title = title) (hra : t.rank = rank) :
    (s.putTrap t).trap? title rank = some t := by
  subst hti hra
  exact trap?_putTrap s t

end Written

/-! ## A stamped notice at its stamp (R118) -/

/-- The station once a stamped notice of the sender has been noted. -/
def notedState (s : State) (sender : Nat) (p : Peer) (stamp : Nat) : State :=
  { s with line := heardLine s sender { p with absenceTimer := some 35000, lastStamp := stamp } }

section Judged
variable {f : RxFrame} {sender stamp : Nat} {p : Peer} {s : State} {b : Body}

theorem HeardFrom.judgeStamp_of_old (h : HeardFrom f sender p s) (hle : stamp ≤ p.lastStamp) :
    (heardState s sender p).judgeStamp sender stamp b = heardState s sender p := by
  rw [State.judgeStamp, h.peer_heardState]
  exact if_pos hle

theorem HeardFrom.judgeStamp_of_new (h : HeardFrom f sender p s) (hlt : p.lastStamp < stamp) :
    (heardState s sender p).judgeStamp sender stamp b =
      (if stamp = p.lastStamp + 1 then notedState s sender p stamp
        else (notedState s sender p stamp).requestRestate sender (p.lastStamp + 1)).applyNotice sender stamp b := by
  rw [State.judgeStamp, h.peer_heardState]
  dsimp only
  rw [if_neg (by omega), setPeer_heardState]
  rfl

/-- A stamped notice with the next stamp in turn is applied. -/
theorem HeardFrom.exec_of_next (h : HeardFrom f sender p s) (hb : f.body = b) (ht : s.targeted b (natAt f.bytes 6 1) = true)
    (hs : codeStamped (kindCode b) = true) (he : s.editionAgrees p.edition = true)
    (hst : natAt f.bytes 3 2 = stamp) (hnext : stamp = p.lastStamp + 1) :
    exec (.frameEnd f) s = .next ((notedState s sender p stamp).applyNotice sender stamp b) := by
  subst hb hst
  refine congrArg Host.Outcome.next ((h.frameEnded_of_stamped ht he hs).trans ?_)
  rw [h.judgeStamp_of_new (by omega), if_pos hnext]

end Judged

/-! ## Notices applied (R71, R92) -/

section Applied
variable {s : State} {sender stamp : Nat} {t : TallyPart} {e : Entry}

theorem liveTally_of_entry (hs : sender ≠ s.number) (he : s.entry? t.borrower = some e) (lost staff : Option StampedAction) :
    s.liveTally sender stamp t lost staff =
      s.applyOffer ⟨t.borrower, true, sender, ⟨t.netLoans, t.netBalance, stamp⟩, lost, staff⟩ :=
  tallyOffer_of_entry hs (Option.isSome_iff_exists.mpr ⟨e, he⟩)

/-- A first tally of the sender, with no block action. -/
theorem liveTally_of_new (hs : sender ≠ s.number) (he : s.entry? t.borrower = some e)
    (hnew : ∀ q ∈ e.peers, q.station ≠ sender) :
    ∃ e', TallyPut s (s.liveTally sender stamp t none none) t.borrower e e' sender ⟨t.netLoans, t.netBalance, stamp⟩ := by
  rw [liveTally_of_entry hs he, applyOffer_of_entry he]
  exact offerTaken_of_new (p := ⟨t.borrower, true, sender, ⟨t.netLoans, t.netBalance, stamp⟩, none, none⟩) he hnew

/-- The tally put and the item's state written: nothing else changes. -/
theorem TallyPut.item {u v : State} {b n : Nat} {e' : Entry} {y : Tally} (h : TallyPut u v b e e' n y) (i : ItemEntry) :
    (v.putItem i).entry? b = some e' ∧ (∀ c, c ≠ b → (v.putItem i).entry? c = u.entry? c) ∧
      (v.putItem i).item? i.item = some i ∧ (∀ k, k ≠ i.item → (v.putItem i).item? k = u.item? k) ∧
      v.putItem i = { u with standing := (v.putItem i).standing, overlay := (v.putItem i).overlay } := by
  have hitem : ∀ k, v.item? k = u.item? k := fun k => by rw [State.item?, h.frame, State.item?]
  refine ⟨h.entry, h.others, item?_putItem v i, fun k hk => (item?_putItem_of_ne hk).trans (hitem k), ?_⟩
  have hframe := h.frame
  generalize hz : v.putItem i = z
  rw [← hz, State.putItem, State.setOverlay, hframe]

theorem liveItem_of_none {n : Nat} {basis : Basis} {loan : LoanPart} (hs : sender ≠ s.number) (hn : s.item? n = none)
    (hroom : s.overlay.used < 8192) : s.liveItem sender stamp n basis (some loan) =
      s.putItem ⟨n, basis, some loan, sender, stamp⟩ := by
  rw [State.liveItem, if_neg hs]
  simp only [hn]
  exact newItem_eq_putItem hroom (by cases basis <;> rfl)

theorem liveItem_of_other {n : Nat} {basis : Basis} {loan : Option LoanPart} {i : ItemEntry} (hs : sender ≠ s.number)
    (hi : s.item? n = some i) (hne : i.station ≠ sender) : s.liveItem sender stamp n basis loan =
      s.putItem ⟨n, i.basis, loan, sender, stamp⟩ := by
  rw [State.liveItem, if_neg hs]
  simp only [hi]
  exact if_neg fun h => hne h.1

/-- A first tally of the sender, with a change of an item whose entry is by another station. -/
theorem liveItem_of_tally {n : Nat} {i : ItemEntry} (hs : sender ≠ s.number) (he : s.entry? t.borrower = some e)
    (hnew : ∀ q ∈ e.peers, q.station ≠ sender) (hi : s.item? n = some i) (hne : i.station ≠ sender) (basis : Basis)
    (loan : Option LoanPart) : ∃ z e', (s.liveTally sender stamp t none none).liveItem sender stamp n basis loan = z ∧
      z.entry? t.borrower = some e' ∧ ⟨sender, ⟨t.netLoans, t.netBalance, stamp⟩⟩ ∈ e'.peers ∧ (∀ q ∈ e.peers, q ∈ e'.peers) ∧
      e'.own = e.own ∧ e'.roll = e.roll ∧ (∀ why, e'.record why = e.record why) ∧
      (∀ c, c ≠ t.borrower → z.entry? c = s.entry? c) ∧ z.item? n = some ⟨n, i.basis, loan, sender, stamp⟩ ∧
      (∀ k, k ≠ n → z.item? k = s.item? k) ∧ z = { s with standing := z.standing, overlay := z.overlay } := by
  obtain ⟨e', hput⟩ := liveTally_of_new (stamp := stamp) hs he hnew
  have happly := liveItem_of_other (s := s.liveTally sender stamp t none none) (stamp := stamp) (basis := basis) (loan := loan)
    (by rw [hput.frame]; exact hs) (by rw [hput.frame]; exact hi) hne
  obtain ⟨hentry, hothers, hnow, hitems, hframe⟩ := hput.item ⟨n, i.basis, loan, sender, stamp⟩
  exact ⟨_, e', happly, hentry, hput.put, hput.kept, hput.own, hput.roll, hput.records, hothers, hnow, hitems, hframe⟩

/-- A live action keeps the state that shows an unsent own action, and marks the actions that wait. -/
theorem heardAction_fields (b n k : Nat) (why : BlockReason) (r : BlockRecord) (a : BlockAction) :
    (s.heardAction b why r a n k).awaiting = (r.awaiting.map fun y => { y with laterHeard := true }) ∧
      (s.heardAction b why r a n k).state = if s.showsUnsent b why r then r.state else BlockAction.state a n k := by
  unfold State.heardAction
  split <;> exact ⟨rfl, rfl⟩

/-- A peer's block action with its first tally. -/
theorem liveTally_of_block (hs : sender ≠ s.number) (he : s.entry? t.borrower = some e)
    (hnew : ∀ q ∈ e.peers, q.station ≠ sender) (a : BlockAction) (why : BlockReason) :
    ∃ z e', s.applyNotice sender stamp (.block t a why) = z ∧ EntryWork s z t.borrower ∧ z.entry? t.borrower = some e' ∧
      ⟨sender, ⟨t.netLoans, t.netBalance, stamp⟩⟩ ∈ e'.peers ∧ (∀ q ∈ e.peers, q ∈ e'.peers) ∧ e'.own = e.own ∧
      e'.roll = e.roll ∧ e'.record (otherReason why) = e.record (otherReason why) ∧
      e'.record why = s.heardAction t.borrower why (e.record why) a sender stamp := by
  obtain ⟨e1, h⟩ := offerTaken_of_new (s := s)
    (p := ⟨t.borrower, true, sender, ⟨t.netLoans, t.netBalance, stamp⟩, none, none⟩) he hnew
  have happly : s.applyNotice sender stamp (.block t a why) = State.optBlockAction
      (offerTaken s ⟨t.borrower, true, sender, ⟨t.netLoans, t.netBalance, stamp⟩, none, none⟩ e)
      true t.borrower sender why (some ⟨a, stamp⟩) := by
    cases why
    · exact (liveTally_of_entry hs he (some ⟨a, stamp⟩) none).trans (applyOffer_of_entry he)
    · exact (liveTally_of_entry hs he none (some ⟨a, stamp⟩)).trans (applyOffer_of_entry he)
  generalize offerTaken s ⟨t.borrower, true, sender, ⟨t.netLoans, t.netBalance, stamp⟩, none, none⟩ e = v at h happly
  obtain ⟨e2, he2, ⟨hroll, hown, hpeers⟩, hrec, hother⟩ := entry?_liveAction (n := sender) (k := stamp) (why := why) (a := a) h.entry
  have hheard : ∀ r, v.heardAction t.borrower why r a sender stamp = s.heardAction t.borrower why r a sender stamp := fun r => by
    rw [h.frame]
    rfl
  exact ⟨_, e2, happly, h.toEntryWork.trans (entryWork_optBlockAction _), he2, hpeers ▸ h.put,
    fun q hq => hpeers ▸ h.kept q hq, hown.trans h.own, hroll.trans h.roll, hother.trans (h.records _),
    by rw [hrec, h.records, hheard]⟩

end Applied

/-! ## A peer's TRAPPED against an own trap (R99, R101) -/

section Conflict
variable {s : State} {own : TrapRecord} {x : TrapPart} {sender stamp : Nat}

theorem trap?_isFor {title rank : Nat} (h : s.trap? title rank = some own) : own.title = title ∧ own.rank = rank :=
  State.trap?_self s title rank own h

/-- The lower number keeps the hold by a new notice. -/
theorem trapConflict_of_lower (hlt : s.number < sender) (hu : s.line.u.length < 8) (hs : s.line.stamps < 65535) :
    s.trapConflict own x sender stamp = State.putTrap { s with line := { s.line with
      stamps := s.line.stamps + 1
      u := s.line.u ++ [⟨s.line.stamps + 1, 255, .trap own.part s.number .trapped⟩] } }
      { own with stamp := s.line.stamps + 1 } := by
  rw [State.trapConflict, if_pos hlt, handStamped_of_room (c := .u) rfl (by exact hu) hs]
  rfl

/-- An own CONFIRMED trap is given up with a RELEASED notice (R99). -/
theorem releaseTrap_of_own {title rank item : Nat} (hown : s.trap? title rank = some own) (hst : own.state = .confirmed)
    (hstation : own.station = s.number) (hitem : own.item = item) (hu : s.line.u.length < 8) (hs : s.line.stamps < 65535) :
    ∃ slips, s.releaseTrap title rank item = { s with
      line := { s.line with
        stamps := s.line.stamps + 1
        u := s.line.u ++ [⟨s.line.stamps + 1, 255, .trap own.part s.number .released⟩] }
      traps := (s.putTrap { own with state := .released, stamp := s.line.stamps + 1 }).traps
      slips := slips } := by
  obtain ⟨rfl, rfl⟩ := trap?_isFor hown
  subst hitem
  have hmine : (s.confirmedOwn own && own.item == own.item) = true := by
    simp [State.confirmedOwn, hst, hstation]
  rw [State.releaseTrap]
  simp only [hown, hmine, if_true]
  rw [handStamped_of_room (c := .u) rfl (by exact hu) hs]
  dsimp only
  rw [holdLost_slipsOnly]
  exact ⟨_, rfl⟩

/-- The higher number gives its trap up. -/
theorem trapConflict_of_higher (hle : ¬ s.number < sender) (hown : s.trap? own.title own.rank = some own)
    (hst : own.state = .confirmed) (hstation : own.station = s.number) (hu : s.line.u.length < 8)
    (hs : s.line.stamps < 65535) : ∃ slips traps, s.trapConflict own x sender stamp = State.putTrap { s with
      line := { s.line with
        stamps := s.line.stamps + 1
        u := s.line.u ++ [⟨s.line.stamps + 1, 255, .trap own.part s.number .released⟩] }
      slips := slips, traps := traps
      port := { s.port with pending := s.port.pending ||| (1#11 <<< 6) } } (peerTrap x sender stamp) := by
  obtain ⟨slips, hreleased⟩ := releaseTrap_of_own hown hst hstation rfl hu hs
  rw [State.trapConflict, if_neg hle, hreleased, latch_of_ne (by decide)]
  exact ⟨slips, _, rfl⟩

end Conflict

/-- Settles O45: the notice is judged by its stamp, and each kind's table takes it. -/
theorem peerNoticesAreApplied : Obligations.PeerNoticesAreApplied := by
  refine ⟨fun f t n day minute count sender stamp edition basis p s hbegun hrec hgood hbody hsender hstamp hed htarget hother
    hpeer hpres hped hed0 => ?_,
    fun f t sender stamp p s hbegun hrec hgood hbody hsender hstamp hed htarget hother hs0 hpeer hpres hped hreq hgap hroom
      hidle hq he => ?_,
    fun f sender stamp p s hbegun hrec hgood hsender hstamp hed hother hs0 hpeer hpres hped hnext => ?_⟩
  all_goals
    have hheard : HeardFrom f sender p s := ⟨hbegun, hrec, hgood, hsender, hother, hpeer, hpres, hed.trans hped.symm⟩
  · refine ⟨fun hsame hnext e he hnew hitem hroom => ?_, fun hsame hle => ?_, fun hne => ?_⟩
    · have hagree : s.editionAgrees p.edition = true := editionAgrees_iff.mpr ⟨hped.trans hsame, hsame ▸ hed0⟩
      have hexec := hheard.exec_of_next hbody rfl rfl hagree hstamp hnext
      obtain ⟨e', hput⟩ := liveTally_of_new (s := notedState s sender p stamp) (stamp := stamp) hother he hnew
      have happly := liveItem_of_none (s := (notedState s sender p stamp).liveTally sender stamp t none none) (stamp := stamp)
        (basis := basis) (loan := ⟨t.borrower, day, minute, count⟩) (by rw [hput.frame]; exact hother)
        (by rw [hput.frame]; exact hitem) (by rw [hput.frame]; exact hroom)
      obtain ⟨hentry, hothers, hnow, hitems, hframe⟩ := hput.item ⟨n, basis, some ⟨t.borrower, day, minute, count⟩, sender, stamp⟩
      refine ⟨_, hexec.trans (congrArg Host.Outcome.next happly), ?_, ⟨e', hentry, hput.put, hput.kept, hput.own, hput.roll⟩,
        hothers, hnow, hitems, ?_⟩
      · rw [hframe]
        rfl
      · rw [hframe]
        rfl
    · have hagree : s.editionAgrees p.edition = true := editionAgrees_iff.mpr ⟨hped.trans hsame, hsame ▸ hed0⟩
      refine congrArg Host.Outcome.next ?_
      rw [hheard.frameEnded_of_stamped (by rw [hbody]; rfl) hagree (by rw [hbody]; rfl), hstamp, hheard.judgeStamp_of_old hle]
      rfl
    · have hagree : s.editionAgrees p.edition = false := editionAgrees_of_ne (.inl (by rw [hped]; exact hne))
      have hstamped : codeStamped (kindCode f.body) = true := by rw [hbody]; rfl
      refine congrArg Host.Outcome.next ?_
      rw [hheard.frameEnded_of_edition (by rw [hbody]; rfl) (by rw [hbody]; rfl) hagree, hstamp]
      simp only [Peer.dropped, hstamped, and_true]
      rfl
  · have hagree : s.editionAgrees p.edition = true := editionAgrees_iff.mpr ⟨hped, hs0⟩
    have hrequest := requestRestate_of_room (s := notedState s sender p stamp) (f := p.lastStamp + 1)
      (hheard.get_heardLine _) hreq (by exact hidle) (by exact hq) (by exact hroom)
    obtain ⟨e, he⟩ := Option.isSome_iff_exists.mp he
    have hexec : exec (.frameEnd f) s = .next (((notedState s sender p stamp).requestRestate sender (p.lastStamp + 1)).liveTally
        sender stamp t none none) := by
      refine congrArg Host.Outcome.next ?_
      rw [hheard.frameEnded_of_stamped (by rw [hbody]; rfl) hagree (by rw [hbody]; rfl), hstamp,
        hheard.judgeStamp_of_new (by omega), if_neg (by omega), hbody]
      rfl
    rw [hrequest] at hexec
    refine ⟨_, hexec, ?_⟩
    rw [liveTally_of_entry (by exact hother) (by exact he), applyOffer_frame]
    exact ⟨rfl, hheard.get_heardLine _, rfl⟩
  · have hagree : s.editionAgrees p.edition = true := editionAgrees_iff.mpr ⟨hped, hs0⟩
    refine ⟨fun t e he hnew => ⟨fun n i hi hne => ⟨fun basis hbody => ?_, fun basis day minute count hbody => ?_⟩,
      fun a why hbody => ?_⟩, fun x st hbody => ⟨fun hnone hlen => ?_, fun own hown hconf hst hu hstamps => ⟨fun hlt => ?_,
      fun hlt => ?_⟩⟩, fun x st t hbody ht => ⟨fun hconf hst hit => ?_, fun hne => ?_⟩⟩
    · have hexec := hheard.exec_of_next hbody rfl rfl hagree hstamp hnext
      obtain ⟨z, e', hz, hentry, hput, hkept, hown, hroll, hrecs, hothers, hnow, hitems, hframe⟩ :=
        liveItem_of_tally (s := notedState s sender p stamp) (stamp := stamp) (t := t) hother he hnew hi hne basis none
      exact ⟨z, e', ⟨hexec.trans (congrArg Host.Outcome.next hz), hentry, hput, hkept, hown, hroll, hothers⟩, hrecs .lost,
        hrecs .staff, hnow, hitems, hframe⟩
    · have hexec := hheard.exec_of_next hbody rfl rfl hagree hstamp hnext
      obtain ⟨z, e', hz, hentry, hput, hkept, hown, hroll, hrecs, hothers, hnow, hitems, hframe⟩ :=
        liveItem_of_tally (s := notedState s sender p stamp) (stamp := stamp) (t := t) hother he hnew hi hne basis
          (some ⟨t.borrower, day, minute, count⟩)
      exact ⟨z, e', ⟨hexec.trans (congrArg Host.Outcome.next hz), hentry, hput, hkept, hown, hroll, hothers⟩, hrecs .lost,
        hrecs .staff, hnow, hitems, hframe⟩
    · have hexec := hheard.exec_of_next hbody rfl rfl hagree hstamp hnext
      obtain ⟨z, e', hz, hwork, hentry, hput, hkept, hown, hroll, hothrec, hrec'⟩ :=
        liveTally_of_block (s := notedState s sender p stamp) (stamp := stamp) (t := t) hother he hnew a why
      obtain ⟨hawait, hstate⟩ := heardAction_fields (s := notedState s sender p stamp) t.borrower sender stamp why (e.record why) a
      rw [← hrec'] at hawait hstate
      have hends : exec (.frameEnd f) s = .next z := hexec.trans (congrArg Host.Outcome.next hz)
      cases why
      all_goals
        refine ⟨z, e', ⟨hends, hentry, hput, hkept, hown, hroll, hwork.others⟩, hwork.frame, hothrec, hawait,
          hstate.trans (if_congr (showsUnsent_iff_any _ ?_ ?_) rfl ?_)⟩
        · intro m y x c hm
          rw [hm]
          exact decide_eq_true_iff
        · intro m hm
          split
          · next y x c h => exact absurd h (hm y x c)
          · rfl
        · cases a <;> rfl
    · refine (hheard.exec_of_next hbody rfl rfl hagree hstamp hnext).trans (congrArg Host.Outcome.next ?_)
      simp only [State.applyNotice, State.peerTrapped, show (notedState s sender p stamp).trap? x.title x.rank = none from hnone]
      exact recordTrap_of_room (s := notedState s sender p stamp) (t := peerTrap x sender stamp) hnone hlen
    · have hexec := hheard.exec_of_next hbody rfl rfl hagree hstamp hnext
      obtain ⟨htitle, hrank⟩ := trap?_isFor hown
      simp only [State.applyNotice, State.peerTrapped, show (notedState s sender p stamp).trap? x.title x.rank = some own from hown,
        hconf] at hexec
      rw [if_pos (by exact hst), trapConflict_of_lower (by exact hlt) (by exact hu) (by exact hstamps)] at hexec
      exact ⟨_, hexec, trap?_putTrap_of htitle hrank, rfl⟩
    · have hexec := hheard.exec_of_next hbody rfl rfl hagree hstamp hnext
      obtain ⟨htitle, hrank⟩ := trap?_isFor hown
      simp only [State.applyNotice, State.peerTrapped, show (notedState s sender p stamp).trap? x.title x.rank = some own from hown,
        hconf] at hexec
      obtain ⟨slips, traps, hz⟩ := trapConflict_of_higher (s := notedState s sender p stamp) (x := x) (stamp := stamp)
        (show ¬ s.number < sender by omega) (by rw [htitle, hrank]; exact hown) hconf hst hu hstamps
      rw [if_pos (by exact hst), hz] at hexec
      exact ⟨_, hexec, trap?_putTrap_of rfl rfl, rfl⟩
    · have hexec := hheard.exec_of_next hbody rfl rfl hagree hstamp hnext
      obtain ⟨htitle, hrank⟩ := trap?_isFor ht
      simp only [State.applyNotice, State.peerReleased, show (notedState s sender p stamp).trap? x.title x.rank = some t from ht]
        at hexec
      rw [if_pos (by simp [hconf, hst, hit])] at hexec
      exact ⟨_, hexec, trap?_putTrap_of htitle hrank, rfl⟩
    · refine (hheard.exec_of_next hbody rfl rfl hagree hstamp hnext).trans (congrArg Host.Outcome.next ?_)
      simp only [State.applyNotice, State.peerReleased, show (notedState s sender p stamp).trap? x.title x.rank = some t from ht]
      rw [if_neg (by simp only [Bool.and_eq_true, beq_iff_eq, not_and, and_imp]; tauto)]
      rfl

end Sys2Proof.Proofs

/-! Restatement: the walk that a RESTATE REQUEST starts, and the frames that restate a peer's tables (R71, R72, R79, R93,
R102, R122 to R124). -/

namespace Sys2Proof.Proofs
open Sys2Proof Sys2Proof.Machine

/-! ## The walk (R124) -/

section Walk
variable {s : State} {f : Nat} {p p' : WalkPosition} {b : Body}

theorem walk_of_done (n : Nat) (he : s.line.engine = .walking f p) (hn : s.nextWalk f p = none) :
    s.walk (n + 1) = s.setEngine .idle := by
  simp only [State.walk, he, hn]

/-- One frame into B, and the walk goes on behind it. -/
theorem walk_of_step (n : Nat) (he : s.line.engine = .walking f p)
    (hn : s.nextWalk f p = some (p', b)) (hc : kindClass b = .b) (hroom : s.line.b.length < 16) :
    s.walk (n + 1) = State.walk n
      { s with line := { s.line with b := s.line.b ++ [⟨0, 255, b⟩], engine := .walking f p' } } := by
  have hhand : s.hand ⟨0, toAll, b⟩ = ({ s with line := { s.line with b := s.line.b ++ [⟨0, 255, b⟩] } }, true) := by
    rw [hand_of_room (by rw [hc]; exact decide_eq_true hroom), hc]
    rfl
  rw [State.walk]
  simp only [he, hn]
  rw [if_pos (by exact decide_eq_true hroom), hhand]
  rfl

/-- One frame is left, and B has room: it is handed and the walk ends. -/
theorem walk_of_last (n : Nat) (he : s.line.engine = .walking f p) (hn : s.nextWalk f p = some (p', b))
    (hlast : s.nextWalk f p' = none) (hc : kindClass b = .b) (hroom : s.line.b.length < 16) :
    s.walk (n + 2) = { s with line := { s.line with b := s.line.b ++ [⟨0, 255, b⟩], engine := .idle } } :=
  (walk_of_step (n + 1) he hn hc hroom).trans (walk_of_done (f := f) (p := p') n rfl hlast)

theorem walk_of_full (n : Nat) (he : s.line.engine = .walking f p) (hn : s.nextWalk f p = some (p', b))
    (hfull : 16 ≤ s.line.b.length) : s.walk (n + 1) = s.setEngine (.paused f p) := by
  rw [State.walk]
  simp only [he, hn]
  exact if_neg (by rw [State.room, decide_eq_false (by exact Nat.not_lt.mpr hfull)]; exact Bool.false_ne_true)

end Walk

section Phases
variable {s : State} {f : Nat} {e : Entry} {i : ItemEntry} {t : TrapRecord}

/-- The frames of a walk: a TALLY, an ITEM, a TRAP STATE. -/
def tallyBody (s : State) (e : Entry) : Body :=
  .tally e.tallyPart e.own.stamp (e.lost.ownAction s.number) (e.staff.ownAction s.number)

def itemBody (i : ItemEntry) : Body := .item i.item i.basis i.loan i.stamp

/-- What a walk from stamp `f` has to restate. -/
def talliesFrom (s : State) (f : Nat) : List Entry := s.standing.entries.filter fun e => decide (f ≤ e.own.stamp)

def itemsFrom (s : State) (f : Nat) : List ItemEntry :=
  s.overlay.entries.filter fun i => i.station == s.number && decide (f ≤ i.stamp)

def ownTraps (s : State) : List TrapRecord := s.traps.filter fun t => t.station == s.number

theorem nextTally_of_none {k : Nat} (h : talliesFrom s (k + 1) = []) : s.nextTally k = none := by
  rw [talliesFrom] at h
  rw [State.nextTally, show (s.standing.entries.filter fun e => decide (k < e.own.stamp)) = [] from h]
  rfl

theorem nextTally_of_one {k : Nat} (h : talliesFrom s (k + 1) = [e]) : s.nextTally k = some (e.own.stamp, tallyBody s e) := by
  rw [talliesFrom] at h
  rw [State.nextTally, show (s.standing.entries.filter fun e => decide (k < e.own.stamp)) = [e] from h]
  rfl

/-- Behind the only one there is none. -/
theorem talliesFrom_behind (h : talliesFrom s f = [e]) : talliesFrom s (e.own.stamp + 1) = [] := by
  refine List.filter_eq_nil_iff.mpr fun z hz hle => ?_
  have hin : e ∈ talliesFrom s f := by rw [h]; exact List.mem_singleton.mpr rfl
  have hlow := of_decide_eq_true (List.mem_filter.mp hin).2
  have hzin : z ∈ talliesFrom s f := List.mem_filter.mpr ⟨hz, decide_eq_true (by have := of_decide_eq_true hle; omega)⟩
  rw [h] at hzin
  obtain rfl := List.mem_singleton.mp hzin
  have := of_decide_eq_true hle
  omega

theorem nextItem_of_none {k : Nat} (h : itemsFrom s (k + 1) = []) : s.nextItem k = none := by
  rw [itemsFrom] at h
  rw [State.nextItem, show (s.overlay.entries.filter fun e => e.station == s.number && decide (k < e.stamp)) = [] from h]
  rfl

theorem nextItem_of_one {k : Nat} (h : itemsFrom s (k + 1) = [i]) : s.nextItem k = some (i.stamp, itemBody i) := by
  rw [itemsFrom] at h
  rw [State.nextItem, show (s.overlay.entries.filter fun e => e.station == s.number && decide (k < e.stamp)) = [i] from h]
  rfl

theorem itemsFrom_behind (h : itemsFrom s f = [i]) : itemsFrom s (i.stamp + 1) = [] := by
  have hin : i ∈ itemsFrom s f := by rw [h]; exact List.mem_singleton.mpr rfl
  have hlow := (Bool.and_eq_true_iff.mp (List.mem_filter.mp hin).2).2
  refine List.filter_eq_nil_iff.mpr fun z hz hle => ?_
  obtain ⟨hown, hle⟩ := Bool.and_eq_true_iff.mp hle
  have hzin : z ∈ itemsFrom s f := List.mem_filter.mpr ⟨hz, Bool.and_eq_true_iff.mpr ⟨hown, decide_eq_true (by
    have := of_decide_eq_true hle
    have := of_decide_eq_true hlow
    omega)⟩⟩
  rw [h] at hzin
  obtain rfl := List.mem_singleton.mp hzin
  have := of_decide_eq_true hle
  omega

theorem nextTrap_of_none (h : ownTraps s = []) (after : Option (Nat × Nat)) : s.nextTrap after = none := by
  have hnil : (s.traps.filter fun t => t.station == s.number && t.restated.isSome && decide (placeOf after ≤ t.place)) = [] :=
    List.filter_eq_nil_iff.mpr fun t ht hall => List.filter_eq_nil_iff.mp h t ht
      (Bool.and_eq_true_iff.mp (Bool.and_eq_true_iff.mp hall).1).1
  rw [State.nextTrap, hnil]
  rfl

theorem nextTrap_of_one (h : ownTraps s = [t]) (hst : t.state = .confirmed) :
    s.nextTrap none = some ((t.title, t.rank), .trapState t.part .confirmed t.stamp) ∧
      s.nextTrap (some (t.title, t.rank)) = none := by
  have hfilter : ∀ after, (s.traps.filter fun t => t.station == s.number && t.restated.isSome && decide (placeOf after ≤ t.place)) =
      [t].filter fun t => t.restated.isSome && decide (placeOf after ≤ t.place) := fun after => by
    rw [← h, ownTraps, List.filter_filter]
    refine List.filter_congr fun x _ => ?_
    rw [Bool.and_assoc, Bool.and_comm]
  have hrestated : t.restated = some .confirmed := by simp only [TrapRecord.restated, hst]
  constructor
  · rw [State.nextTrap, hfilter, List.filter_cons_of_pos (by simp [hrestated, placeOf])]
    simp [leastBy, hrestated]
  · rw [State.nextTrap, hfilter, List.filter_cons_of_neg (by simp [placeOf, TrapRecord.place])]
    rfl

variable (hf : 1 ≤ f)
include hf

theorem nextWalk_of_none (ht : talliesFrom s f = []) (hi : itemsFrom s f = []) (hr : ownTraps s = []) :
    s.nextWalk f (.tallies (f - 1)) = none := by
  obtain ⟨k, rfl⟩ := Nat.exists_eq_add_of_le' hf
  simp only [State.nextWalk, Nat.add_sub_cancel, nextTally_of_none ht, nextItem_of_none hi, nextTrap_of_none hr]
  rfl

/-- A walk of one TALLY. -/
theorem nextWalk_of_tally (ht : talliesFrom s f = [e]) (hi : itemsFrom s f = []) (hr : ownTraps s = []) :
    s.nextWalk f (.tallies (f - 1)) = some (.tallies e.own.stamp, tallyBody s e) ∧
      s.nextWalk f (.tallies e.own.stamp) = none := by
  obtain ⟨k, rfl⟩ := Nat.exists_eq_add_of_le' hf
  have hlast := nextTally_of_none (talliesFrom_behind ht)
  constructor
  · simp only [State.nextWalk, Nat.add_sub_cancel, nextTally_of_one ht]
  · simp only [State.nextWalk, Nat.add_sub_cancel, hlast, nextItem_of_none hi, nextTrap_of_none hr]
    rfl

/-- A walk of one ITEM. -/
theorem nextWalk_of_item (ht : talliesFrom s f = []) (hi : itemsFrom s f = [i]) (hr : ownTraps s = []) :
    s.nextWalk f (.tallies (f - 1)) = some (.items i.stamp, itemBody i) ∧ s.nextWalk f (.items i.stamp) = none := by
  obtain ⟨k, rfl⟩ := Nat.exists_eq_add_of_le' hf
  have hlast := nextItem_of_none (itemsFrom_behind hi)
  constructor
  · simp only [State.nextWalk, Nat.add_sub_cancel, nextTally_of_none ht, nextItem_of_one hi]
  · simp only [State.nextWalk, hlast, nextTrap_of_none hr]
    rfl

/-- A walk of one TRAP STATE. -/
theorem nextWalk_of_trap (ht : talliesFrom s f = []) (hi : itemsFrom s f = []) (hr : ownTraps s = [t])
    (hst : t.state = .confirmed) : s.nextWalk f (.tallies (f - 1)) =
      some (.traps (some (t.title, t.rank)), .trapState t.part .confirmed t.stamp) ∧
      s.nextWalk f (.traps (some (t.title, t.rank))) = none := by
  obtain ⟨k, rfl⟩ := Nat.exists_eq_add_of_le' hf
  obtain ⟨hfirst, hlast⟩ := nextTrap_of_one hr hst
  constructor
  · simp only [State.nextWalk, Nat.add_sub_cancel, nextTally_of_none ht, nextItem_of_none hi, hfirst]
    rfl
  · simp only [State.nextWalk, hlast]
    rfl

end Phases

/-! ## A request at the engine (R123) -/

section Request
variable {s : State} {k f : Nat} {b : Body} {p : WalkPosition}

theorem engineRequest_of_held (h : s.line.engine = .held none) :
    s.engineRequest k = { s with line := { s.line with engine := .held (some (max k 1)) } } := by
  simp only [State.engineRequest, h]
  rfl

theorem engineRequest_of_waiting {w : Nat} (h : s.line.engine = .held (some w)) :
    s.engineRequest k = { s with line := { s.line with engine := .held (some (min w (max k 1))) } } := by
  simp only [State.engineRequest, h]
  rfl

theorem engineRequest_of_idle (h : s.line.engine = .idle) :
    s.engineRequest k = (s.setEngine (walkFrom (max k 1))).runWalk := by
  simp only [State.engineRequest, h]

/-- With nothing to restate the engine stays IDLE. -/
theorem engineRequest_of_none (h : s.line.engine = .idle)
    (hn : s.nextWalk (max k 1) (.tallies (max k 1 - 1)) = none) : s.engineRequest k = s := by
  rw [engineRequest_of_idle h]
  refine (walk_of_done (s := s.setEngine (walkFrom (max k 1))) (f := max k 1) (p := .tallies (max k 1 - 1)) 16 rfl hn).trans ?_
  rw [State.setEngine, State.setEngine, ← h]

/-- The walk's only frame goes into B. -/
theorem engineRequest_of_one (h : s.line.engine = .idle)
    (hn : s.nextWalk (max k 1) (.tallies (max k 1 - 1)) = some (p, b) ∧ s.nextWalk (max k 1) p = none)
    (hc : kindClass b = .b) (hroom : s.line.b.length < 16) :
    s.engineRequest k = { s with line := { s.line with b := s.line.b ++ [⟨0, 255, b⟩] } } := by
  rw [engineRequest_of_idle h]
  refine (walk_of_last (s := s.setEngine (walkFrom (max k 1))) (f := max k 1) (p := .tallies (max k 1 - 1)) 15 rfl hn.1 hn.2 hc hroom).trans ?_
  rw [← h]
  rfl

theorem engineRequest_of_full (h : s.line.engine = .idle)
    (hn : s.nextWalk (max k 1) (.tallies (max k 1 - 1)) = some (p, b)) (hfull : 16 ≤ s.line.b.length) :
    s.engineRequest k = { s with line := { s.line with engine := .paused (max k 1) (.tallies (max k 1 - 1)) } } := by
  rw [engineRequest_of_idle h]
  exact walk_of_full (s := s.setEngine (walkFrom (max k 1))) (f := max k 1) (p := .tallies (max k 1 - 1)) 16 rfl hn hfull

end Request

/-! ## Restated frames (R71, R72, R79, R93, R102) -/

section Restated
variable {s : State} {sender stamp : Nat}

/-- The station after a frame that restates a peer's table (R187). -/
def restatedState (s : State) (sender : Nat) (p : Peer) : State :=
  { heardState s sender p with quietTimer := if s.station = .gathering then some 3000 else s.quietTimer }

theorem restatementHeard_heardState (p : Peer) : (heardState s sender p).restatementHeard = restatedState s sender p := by
  unfold State.restatementHeard restatedState
  by_cases h : s.station = .gathering
  · rw [if_pos (by exact h), if_pos h]
    rfl
  · rw [if_neg (by exact h), if_neg h]
    rfl

theorem HeardFrom.exec_of_unstamped {f : RxFrame} {p : Peer} {b : Body} (h : HeardFrom f sender p s) (hb : f.body = b)
    (ht : s.targeted b (natAt f.bytes 6 1) = true) (he : s.editionAgrees p.edition = true)
    (hs : codeStamped (kindCode b) = false) :
    exec (.frameEnd f) s = .next ((heardState s sender p).handOn sender p.edition (natAt f.bytes 6 1) b) := by
  subst hb
  exact congrArg Host.Outcome.next (h.frameEnded_of_unstamped ht (.inr he) hs)

/-- An offer keeps its entry's block records. -/
theorem offer_record {e g : Entry} {rs : RuleSet} {n : Nat} {t : Tally} (h : e.offer rs n t = some g) :
    g.borrower = e.borrower ∧ g.lost = e.lost ∧ g.staff = e.staff := by
  unfold Entry.offer at h
  dsimp only at h
  split at h
  · obtain rfl := Option.some.inj h
    exact ⟨rfl, rfl, rfl⟩
  · split at h
    · obtain rfl := Option.some.inj h
      split <;> exact ⟨rfl, rfl, rfl⟩
    · cases h

theorem offerTaken_keeps {p : Parked} {e : Entry} (he : s.entry? p.borrower = some e) :
    EntryWork s (offerTaken s p e) p.borrower ∧
      ∃ e', (offerTaken s p e).entry? p.borrower = some e' ∧ e'.lost = e.lost ∧ e'.staff = e.staff := by
  cases hg : e.offer s.reckoner.active p.station p.tally with
  | none =>
    have htaken : offerTaken s p e = s := by simp only [offerTaken, hg]
    rw [htaken]
    exact ⟨.refl s _, e, he, rfl, rfl⟩
  | some g =>
    have htaken : offerTaken s p e = s.useEntry p.borrower fun _ => g := by simp only [offerTaken, hg]
    obtain ⟨hb, hlost, hstaff⟩ := offer_record hg
    obtain ⟨hwork, n, hentry⟩ := useEntry_const he (hb.trans (entry?_borrower he))
    rw [htaken]
    exact ⟨hwork, _, hentry, hlost, hstaff⟩

theorem offerTaken_of_stale {p : Parked} {e : Entry} {q : PeerTally} (hq : e.peers.find? (·.station == p.station) = some q)
    (hle : p.tally.stamp ≤ q.tally.stamp) : offerTaken s p e = s := by
  have hnone : e.offer s.reckoner.active p.station p.tally = none := by
    simp only [Entry.offer, hq, if_neg (Nat.not_lt.mpr hle)]
  simp only [offerTaken, hnone]

/-- A restated action over ROLL is taken (R79). -/
theorem optBlockAction_of_roll {b : Nat} {e : Entry} (he : s.entry? b = some e) (hr : e.lost.state = .roll) (a : StampedAction) :
    ∃ e', (s.optBlockAction false b sender .lost (some a)).entry? b = some e' ∧ e'.staff = e.staff ∧
      e'.lost = { e.lost with state := BlockAction.state a.action sender a.stamp } := by
  have hrestate : (e.record .lost).restate a.action sender a.stamp =
      some { e.lost with state := BlockAction.state a.action sender a.stamp } := by
    rw [show e.record .lost = e.lost from rfl, BlockRecord.restate, hr]
  simp only [State.optBlockAction, State.blockAction, he, hrestate, Bool.false_eq_true, if_false]
  have hentry := entry?_useEntry s b (fun x => x.setRecord .lost
    { e.lost with state := BlockAction.state a.action sender a.stamp }) fun _ => rfl
  rw [he, Option.map_some] at hentry
  exact ⟨_, hentry, rfl, rfl⟩

/-- An item OUT makes its entry, spare or not (R90). -/
theorem newItem_of_out {i : ItemEntry} (h : i.loan.isSome = true) : s.newItem i true = s.newItem i false := by
  have hkeep : i.reclaimable = false := by
    rw [ItemEntry.reclaimable, Option.isNone_eq_false_iff.mpr h, Bool.and_false]
  simp only [State.newItem, hkeep, Bool.and_false]

theorem tallyOffer_of_none {p : Parked} (hp : p.station ≠ s.number) (hn : s.entry? p.borrower = none) :
    s.tallyOffer p = if s.memory.faulted || s.edition == 0 then s.setIncomplete
      else if s.standing.parked.length < Config.parkedCapacity then
        State.nextParked (s.setStanding { s.standing with parked := s.standing.parked ++ [p] })
      else s.setIncomplete :=
  (if_neg hp).trans (if_neg (by rw [hn]; exact Bool.false_ne_true))

theorem nextParked_of_looking (h : s.standing.lookup.isSome = true) : s.nextParked = s := by
  obtain ⟨x, hx⟩ := Option.isSome_iff_exists.mp h
  simp only [State.nextParked, hx]

end Restated

/-- Settles O46: the request at the engine, and the three restated kinds at their tables. -/
theorem restatementFramesAreJudged : Obligations.RestatementFramesAreJudged := by
  intro f sender p s hbegun hrec hgood hsender hed hother hs0 hpeer hpres hped
  have hheard : HeardFrom f sender p s := ⟨hbegun, hrec, hgood, hsender, hother, hpeer, hpres, hed.trans hped.symm⟩
  have hagree : s.editionAgrees p.edition = true := editionAgrees_iff.mpr ⟨hped, hs0⟩
  refine ⟨fun k hbody => ⟨fun h255 hne => ?_, fun ht hroom hnone => ?_⟩,
    fun t stamp lost staff hbody => ?_, fun n basis loan stamp hbody => ?_, fun x st stamp hbody => ?_⟩
  · refine congrArg Host.Outcome.next (hheard.frameEnded_of_untargeted ?_)
    rw [hbody]
    simp [State.targeted, toAll, h255, hne]
  · have htarget : s.targeted (.restateRequest k) (natAt f.bytes 6 1) = true := by
      obtain ht | ht := ht <;> simp [State.targeted, toAll, ht]
    have hexec := hheard.exec_of_unstamped hbody htarget hagree rfl
    have hanswers : ∀ x : LineCtl, (heardState s sender p).engineRequest k = { s with line := x } → x.s = s.line.s →
        exec (.frameEnd f) s = .next { s with line := { x with
          s := s.line.s ++ [⟨0, 255, .presence ⟨0, 0, 0, false, false, []⟩⟩] } } := fun x hx hxs => by
      refine hexec.trans (congrArg Host.Outcome.next ?_)
      rw [State.handOn, hx, handPresence_of_room (by rw [hxs]; exact hnone) (by rw [hxs]; exact hroom), hxs]
    have hfirst : 1 ≤ max k 1 := Nat.le_max_right k 1
    refine ⟨fun he => hanswers _ (engineRequest_of_held he) rfl, fun w he => hanswers _ (engineRequest_of_waiting he) rfl,
      fun he => ⟨fun h1 h2 h3 => ?_, fun e h1 h2 h3 => ⟨fun hb => ?_, fun hb => ?_⟩, fun i h1 h2 h3 hb => ?_,
        fun t h1 h2 h3 hst hb => ?_⟩⟩
    · exact hanswers _ (engineRequest_of_none he (nextWalk_of_none (s := heardState s sender p) hfirst h1 h2 h3)) rfl
    · exact hanswers _ (engineRequest_of_one he (nextWalk_of_tally (s := heardState s sender p) hfirst h1 h2 h3) rfl hb) rfl
    · exact hanswers _ (engineRequest_of_full he (nextWalk_of_tally (s := heardState s sender p) hfirst h1 h2 h3).1 hb) rfl
    · exact hanswers _ (engineRequest_of_one he (nextWalk_of_item (s := heardState s sender p) hfirst h1 h2 h3) rfl hb) rfl
    · exact hanswers _ (engineRequest_of_one he (nextWalk_of_trap (s := heardState s sender p) hfirst h1 h2 h3 hst) rfl hb) rfl
  · have hexec : exec (.frameEnd f) s = .next ((restatedState s sender p).tallyOffer
        ⟨t.borrower, false, sender, ⟨t.netLoans, t.netBalance, stamp⟩, lost, staff⟩) := by
      rw [← restatementHeard_heardState]
      exact hheard.exec_of_unstamped hbody rfl hagree rfl
    refine ⟨fun e he hstaff => ?_, fun hnone => ?_⟩
    · rw [tallyOffer_of_entry (by exact hother) (Option.isSome_iff_exists.mpr ⟨e, he⟩), applyOffer_of_entry (by exact he), hstaff]
        at hexec
      refine ⟨fun hlost hnew => ?_, fun hlost q hq hle => ?_, fun a hlost hroll => ?_⟩
      · rw [hlost] at hexec
        obtain ⟨e', hput⟩ := offerTaken_of_new (s := restatedState s sender p)
          (p := ⟨t.borrower, false, sender, ⟨t.netLoans, t.netBalance, stamp⟩, none, none⟩) he hnew
        exact ⟨_, e', hexec, hput.entry, hput.put, hput.kept, hput.own, hput.others, hput.frame⟩
      · rw [hlost, offerTaken_of_stale hq hle] at hexec
        exact hexec
      · rw [hlost] at hexec
        obtain ⟨hwork, e1, he1, hlost1, hstaff1⟩ := offerTaken_keeps (s := restatedState s sender p)
          (p := ⟨t.borrower, false, sender, ⟨t.netLoans, t.netBalance, stamp⟩, some a, none⟩) he
        obtain ⟨e2, he2, hstaff2, hlost2⟩ := optBlockAction_of_roll (sender := sender) he1 (by rw [hlost1, hroll]) a
        refine ⟨_, e2, hexec, he2, hstaff2.trans hstaff1, (hwork.trans (entryWork_optBlockAction (some a))).frame, ?_⟩
        rw [hlost2, hlost1]
        cases a.action <;> rfl
    · rw [tallyOffer_of_none (by exact hother) (by exact hnone)] at hexec
      refine ⟨fun hf => ?_, fun hf hlen hlook => ?_⟩
      · rw [if_pos (by exact Bool.or_eq_true_iff.mpr (.inl hf))] at hexec
        exact hexec
      · have hedition : ((restatedState s sender p).memory.faulted || (restatedState s sender p).edition == 0) = false :=
          Bool.or_eq_false_iff.mpr ⟨hf, beq_eq_false_iff_ne.mpr hs0⟩
        rw [hedition, if_neg Bool.false_ne_true, if_pos (by exact hlen), nextParked_of_looking (by exact hlook)] at hexec
        exact hexec
  · have hexec : exec (.frameEnd f) s = .next ((restatedState s sender p).restatedItem sender stamp n basis loan) := by
      rw [← restatementHeard_heardState]
      exact hheard.exec_of_unstamped hbody rfl hagree rfl
    refine ⟨fun i hi => ?_, fun hnone hloan hroom => ?_⟩
    · simp only [State.restatedItem, show (restatedState s sender p).item? n = some i from hi] at hexec
      refine ⟨fun hst hlt => ?_, fun hne => ?_⟩
      · rw [if_pos (by simp [ItemEntry.yields, hst, hlt])] at hexec
        exact ⟨_, hexec, item?_putItem _ ⟨n, i.basis, loan, sender, stamp⟩,
          fun k hk => item?_putItem_of_ne (i := ⟨n, i.basis, loan, sender, stamp⟩) hk, rfl⟩
      · rw [if_neg (by simp [ItemEntry.yields, hne])] at hexec
        exact hexec
    · obtain ⟨a, rfl⟩ := Option.isSome_iff_exists.mp hloan
      simp only [State.restatedItem, show (restatedState s sender p).item? n = none from hnone] at hexec
      rw [newItem_of_out rfl, newItem_of_room (by exact hnone) (by exact hroom)] at hexec
      exact hexec
  · have hexec : exec (.frameEnd f) s = .next ((restatedState s sender p).restatedTrap x st sender stamp) := by
      rw [← restatementHeard_heardState]
      exact hheard.exec_of_unstamped hbody rfl hagree rfl
    refine ⟨fun hnone => ?_, fun t ht hst => ?_⟩
    · simp only [State.restatedTrap, show (restatedState s sender p).trap? x.title x.rank = none from hnone] at hexec
      refine ⟨fun hconf hlen => ?_, fun hrel => ?_⟩
      · subst hconf
        simp only [State.peerTrapped, show (restatedState s sender p).trap? x.title x.rank = none from hnone] at hexec
        rw [recordTrap_of_room (by exact hnone) (by exact hlen)] at hexec
        exact hexec
      · subst hrel
        exact hexec
    · simp only [State.restatedTrap, show (restatedState s sender p).trap? x.title x.rank = some t from ht, if_pos hst] at hexec
      obtain ⟨htitle, hrank⟩ := trap?_isFor ht
      refine ⟨fun hlt => ?_, fun hle => ?_⟩
      · rw [if_pos hlt] at hexec
        refine ⟨_, hexec, rfl, ?_⟩
        rw [trap?_putTrap_of (t := t.restatedBy x st stamp) htitle hrank]
        cases st <;> rfl
      · rw [if_neg (Nat.not_lt.mpr hle)] at hexec
        exact hexec

end Sys2Proof.Proofs

/-! A transmission that completes: its frame leaves its queue, and is reported to the block that handed it (R112, R113). -/

namespace Sys2Proof.Proofs
open Sys2Proof Sys2Proof.Machine

/-! ## The frame leaves its queue (R112, R113) -/

theorem lane_line (s : State) (x : LineCtl) (m : LaneId) : State.lane { s with line := x } m = s.lane m := by
  cases m <;> rfl

section Leaves
variable {s : State} {x : Sending} {m : Notice} {rest : List Notice}

/-- The line as a transmission of class U ends. -/
def endedU (s : State) (rest : List Notice) : LineCtl :=
  { s.line with sending := none, state := .gap, collisions := 0, u := rest }

def endedS (s : State) (rest : List Notice) : LineCtl :=
  { s.line with sending := none, state := .gap, collisions := 0, s := rest, courtesyS := true }

def endedB (s : State) (rest : List Notice) : LineCtl :=
  { s.line with sending := none, state := .gap, collisions := 0, b := rest, courtesyB := true }

theorem sendComplete_u (hx : s.line.sending = some x) (hq : s.line.u = m :: rest) (hc : x.cls = .u) :
    s.sendComplete = State.reportSent { s with line := endedU s rest } x.notice := by
  simp only [State.sendComplete, hx, hc, State.queueOf, hq, State.setQueueOf, State.mapLine, State.left, List.drop_one,
    List.tail_cons]
  rw [show (TxClass.u == TxClass.s) = false from rfl, show (TxClass.u == TxClass.b) = false from rfl, Bool.or_false, Bool.or_false]
  rfl

theorem sendComplete_s (hx : s.line.sending = some x) (hq : s.line.s = m :: rest) (hc : x.cls = .s) :
    s.sendComplete = (State.reportSent { s with line := endedS s rest } x.notice).leftS := by
  simp only [State.sendComplete, hx, hc, State.queueOf, hq, State.setQueueOf, State.mapLine, State.left, List.drop_one,
    List.tail_cons]
  rw [show (TxClass.s == TxClass.s) = true from rfl, show (TxClass.s == TxClass.b) = false from rfl, Bool.or_true, Bool.or_false]
  rfl

theorem sendComplete_b (hx : s.line.sending = some x) (hq : s.line.b = m :: rest) (hc : x.cls = .b) :
    s.sendComplete = (State.reportSent { s with line := endedB s rest } x.notice).leftB := by
  simp only [State.sendComplete, hx, hc, State.queueOf, hq, State.setQueueOf, State.mapLine, State.left, List.drop_one,
    List.tail_cons]
  rw [show (TxClass.b == TxClass.s) = false from rfl, show (TxClass.b == TxClass.b) = true from rfl, Bool.or_true, Bool.or_false]
  rfl

/-- The kinds whose completion is reported to a block. -/
def ReportsToBlock (b : Body) : Prop :=
  kindCode b = 1 ∨ (∃ p k, b = .trap p k .trapped) ∨ kindCode b = 3 ∨ kindCode b = 4 ∨ kindCode b = 0x17

theorem reportSent_of_other {n : Notice} (h : ¬ ReportsToBlock n.body) : s.reportSent n = s := by
  unfold ReportsToBlock at h
  unfold State.reportSent
  split
  · next p k hb => exact absurd (.inr (.inl ⟨p, k, hb⟩)) h
  · next hb => exact absurd (.inl (by rw [hb]; rfl)) h
  · next hb => exact absurd (.inr (.inr (.inl (by rw [hb]; rfl)))) h
  · next hb => exact absurd (.inr (.inr (.inr (.inl (by rw [hb]; rfl))))) h
  · next hb => exact absurd (.inr (.inr (.inr (.inr (by rw [hb]; rfl))))) h
  · rfl

theorem ReportsToBlock.code {b : Body} (h : ReportsToBlock b) : kindCode b < 0x10 ∨ kindCode b = 0x17 := by
  obtain h | ⟨p, k, rfl⟩ | h | h | h := h
  · exact .inl (by omega)
  · exact .inl (show 2 < 16 by decide)
  · exact .inl (by omega)
  · exact .inl (by omega)
  · exact .inr h

theorem not_reportsToBlock {b : Body} (h : kindCode b = 5 ∨ kindCode b = 6 ∨ ∃ p k, b = .trap p k .released) :
    ¬ ReportsToBlock b := by
  obtain h | h | ⟨p, k, rfl⟩ := h
  · rintro (hr | ⟨p, k, rfl⟩ | hr | hr | hr)
    · omega
    · exact absurd h (show 2 ≠ 5 by decide)
    all_goals omega
  · rintro (hr | ⟨p, k, rfl⟩ | hr | hr | hr)
    · omega
    · exact absurd h (show 2 ≠ 6 by decide)
    all_goals omega
  · rintro (hr | ⟨_, _, hr⟩ | hr | hr | hr) <;> cases hr

theorem kindClass_s {b : Body} (h : kindClass b = .s) : 0x10 ≤ kindCode b := by
  unfold kindClass at h
  split at h
  · cases h
  · omega

theorem kindClass_b {b : Body} (h : kindClass b = .b) : 0x20 ≤ kindCode b := by
  unfold kindClass at h
  split at h
  · cases h
  · split at h
    · cases h
    · omega

/-- A place in S with nothing owed does no more. -/
theorem leftS_of_nothing (ho : s.line.restateOwed = false) (hb : s.line.broadcastOwed = false)
    (hp : ∀ p ∈ s.line.peers, p.request = none) : s.leftS = s := by
  have howed : s.testOwed = s := by
    simp only [State.testOwed, ho, Bool.false_and, Bool.false_eq_true, if_false]
    split <;> rfl
  have hrequest : ∀ k, (s.peer k).request = none := fun k => by
    unfold State.peer
    cases hq : s.line.peers[k]? with
    | none => rfl
    | some q => exact hp q (List.mem_of_getElem? hq)
  have hpush : ∀ k, s.pushRequest k = s := fun k => by simp only [State.pushRequest, hrequest k]
  simp only [State.leftS, howed, hb, Bool.false_eq_true, if_false]
  induction s.peerNumbers with
  | nil => rfl
  | cons k ks ih => rw [List.foldl_cons, hpush, ih]

theorem leftB_of_unpaused (h : ∀ f p, s.line.engine ≠ .paused f p) : s.leftB = s := by
  unfold State.leftB
  split
  · next f p he => exact absurd he (h f p)
  · rfl
  · rfl
  · rfl

end Leaves

/-! ## A PAUSED walk goes on (R124) -/

section Paused
variable {s : State} {f k : Nat} {e : Entry}

theorem leastBy_mem {α : Type} {g : α → Nat} {xs : List α} {a : α} (h : leastBy g xs = some a) : a ∈ xs := by
  induction xs with
  | nil => cases h
  | cons z zs ih =>
    unfold leastBy at h
    split at h
    · obtain rfl := Option.some.inj h
      exact List.mem_cons_self
    · next b hb =>
      split at h
      · exact List.mem_cons_of_mem z (ih (hb.trans h))
      · obtain rfl := Option.some.inj h
        exact List.mem_cons_self

theorem leastBy_of_mem {α : Type} {g : α → Nat} {xs : List α} {a : α} (h : a ∈ xs) : ∃ b, leastBy g xs = some b := by
  cases xs with
  | nil => cases h
  | cons z zs =>
    unfold leastBy
    split
    · exact ⟨z, rfl⟩
    · split <;> exact ⟨_, rfl⟩

/-- The least element, where one is below all others. -/
theorem leastBy_of_least {α : Type} {g : α → Nat} {xs : List α} {a : α} (ha : a ∈ xs)
    (h : ∀ z ∈ xs, z ≠ a → g a < g z) : leastBy g xs = some a := by
  obtain ⟨b, hb⟩ := leastBy_of_mem (g := g) ha
  have hle : ∀ {ys : List α} {c : α}, leastBy g ys = some c → ∀ z ∈ ys, g c ≤ g z := fun {ys} => by
    induction ys with
    | nil => exact fun h => nomatch h
    | cons y ys ih =>
      intro c hc z hz
      unfold leastBy at hc
      split at hc
      · next hnone =>
        obtain rfl := Option.some.inj hc
        obtain rfl | hz := List.mem_cons.mp hz
        · exact Nat.le_refl _
        · obtain ⟨d, hd⟩ := leastBy_of_mem (g := g) hz
          rw [hd] at hnone
          cases hnone
      · next d hd =>
        split at hc
        · next hlt =>
          obtain rfl := Option.some.inj hc
          obtain rfl | hz := List.mem_cons.mp hz
          · exact Nat.le_of_lt hlt
          · exact ih hd z hz
        · next hge =>
          obtain rfl := Option.some.inj hc
          obtain rfl | hz := List.mem_cons.mp hz
          · exact Nat.le_refl _
          · exact Nat.le_trans (Nat.not_lt.mp hge) (ih hd z hz)
  by_cases hba : b = a
  · rw [hb, hba]
  · exact absurd (hle hb a ha) (Nat.not_le.mpr (h b (leastBy_mem hb) hba))

/-- The next TALLY, where one entry's stamp is below those of the others. -/
theorem nextTally_of_least (he : e ∈ s.standing.entries) (hk : k < e.own.stamp)
    (hmin : ∀ z ∈ s.standing.entries, z ≠ e → k < z.own.stamp → e.own.stamp < z.own.stamp) :
    s.nextTally k = some (e.own.stamp, tallyBody s e) := by
  have hleast : leastBy (fun e : Entry => e.own.stamp) (s.standing.entries.filter fun z => decide (k < z.own.stamp)) = some e :=
    leastBy_of_least (List.mem_filter.mpr ⟨he, decide_eq_true hk⟩) fun z hz hne =>
      hmin z (List.mem_filter.mp hz).1 hne (of_decide_eq_true (List.mem_filter.mp hz).2)
  rw [State.nextTally, hleast]
  rfl

theorem nextTally_of_later {z : Entry} (hz : z ∈ s.standing.entries) (hk : k < z.own.stamp) : ∃ next, s.nextTally k = some next := by
  obtain ⟨y, hy⟩ := leastBy_of_mem (g := fun e : Entry => e.own.stamp)
    (List.mem_filter.mpr ⟨hz, decide_eq_true hk⟩ : z ∈ s.standing.entries.filter fun z => decide (k < z.own.stamp))
  exact ⟨_, by rw [State.nextTally, hy]; rfl⟩

theorem itemsFrom_eq_nil (h : ∀ i ∈ s.overlay.entries, i.station ≠ s.number ∨ i.stamp < f) : itemsFrom s f = [] :=
  List.filter_eq_nil_iff.mpr fun i hi hin => by
    obtain ⟨hown, hle⟩ := Bool.and_eq_true_iff.mp hin
    obtain hne | hlt := h i hi
    · exact hne (beq_iff_eq.mp hown)
    · exact absurd (of_decide_eq_true hle) (Nat.not_le.mpr hlt)

theorem ownTraps_eq_nil (h : ∀ t ∈ s.traps, t.station ≠ s.number) : ownTraps s = [] :=
  List.filter_eq_nil_iff.mpr fun t ht hown => h t ht (beq_iff_eq.mp hown)

/-- A walk PAUSED in its TALLY phase with one place in B: the next TALLY takes it. -/
theorem leftB_of_paused (hp : s.line.engine = .paused f (.tallies k)) (hlen : s.line.b.length = 15) (he : e ∈ s.standing.entries)
    (hk : k < e.own.stamp)
    (hmin : ∀ z ∈ s.standing.entries, z ≠ e → k < z.own.stamp → e.own.stamp < z.own.stamp) :
    s.leftB = State.walk 16 { s with line := { s.line with
      b := s.line.b ++ [⟨0, 255, tallyBody s e⟩], engine := .walking f (.tallies e.own.stamp) } } := by
  have hnext : s.nextWalk f (.tallies k) = some (.tallies e.own.stamp, tallyBody s e) := by
    simp only [State.nextWalk, nextTally_of_least he hk hmin]
  have hleft : s.leftB = (s.setEngine (.walking f (.tallies k))).runWalk := by simp only [State.leftB, hp]
  exact hleft.trans (walk_of_step (s := s.setEngine (.walking f (.tallies k))) (f := f) (p := .tallies k) 16 rfl hnext rfl
    (show s.line.b.length < 16 by omega))

end Paused

/-! ## An own TRAPPED notice (R97, R99) -/

section Trapped
variable {s : State} {n : Notice} {t : TrapRecord} {l : LaneId}

theorem holdAsserted_slipsOnly (s : State) (hold : Nat × Nat) : SlipsOnly s (s.holdAsserted hold) := by
  unfold State.holdAsserted
  split
  · exact foldl_slipsOnly joinQueue_slipsOnly _ s
  · exact .refl s

/-- The first that passes a sharper test too. -/
theorem find?_of_sharper {α : Type} {p q : α → Bool} {xs : List α} {a : α} (h : xs.find? p = some a) (ha : q a = true)
    (hqp : ∀ x, q x = true → p x = true) : xs.find? q = some a := by
  induction xs with
  | nil => cases h
  | cons x xs ih =>
    cases hp : p x with
    | true =>
      rw [List.find?_cons_of_pos hp] at h
      obtain rfl := Option.some.inj h
      exact List.find?_cons_of_pos ha
    | false =>
      rw [List.find?_cons_of_neg (by simp [hp])] at h
      rw [List.find?_cons_of_neg (fun hq => by rw [hqp x hq] at hp; cases hp)]
      exact ih h

/-- The notice is about the record of its hold. -/
theorem trapOfNotice_of_record (hb : n.body = .trap t.part t.station .trapped) (hst : n.stamp = t.stamp)
    (hown : t.station = s.number) (ht : s.trap? t.title t.rank = some t) : s.trapOfNotice n = some t := by
  refine find?_of_sharper ht ?_ fun y hy => ?_
  · simp only [TrapRecord.isNotice, hb, TrapRecord.part, hst, hown, beq_self_eq_true, Bool.and_self]
  · simp only [TrapRecord.isNotice, hb, TrapRecord.part, Bool.and_eq_true, beq_iff_eq] at hy
    obtain ⟨-, ⟨htitle, hrank⟩, -⟩ := hy
    simp [TrapRecord.isFor, htitle, hrank]

/-- The trap confirmed, its HELD slip told. -/
def trapConfirmed (s : State) (t : TrapRecord) : State :=
  (s.putTrap { t with state := .confirmed }).holdAsserted (t.title, t.rank)

theorem trapConfirmed_frame (s : State) (t : TrapRecord) : trapConfirmed s t = { s with
    traps := (s.putTrap { t with state := .confirmed }).traps, slips := (trapConfirmed s t).slips } :=
  holdAsserted_slipsOnly (s.putTrap { t with state := .confirmed }) (t.title, t.rank)

theorem reportSent_of_trapped (hb : n.body = .trap t.part t.station .trapped) (hst : n.stamp = t.stamp)
    (hown : t.station = s.number) (ht : s.trap? t.title t.rank = some t) (hprov : t.state = .provisional l false) :
    s.reportSent n = (trapConfirmed s t).returnOn l .trapped := by
  simp only [State.reportSent, hb, State.trapSent, trapOfNotice_of_record hb hst hown ht, hprov]
  rfl

theorem recordFor_trapped {y : Txn} {b k : Nat} {h : Hold} (hop : y.operation = .ret) (hi : y.item = some k)
    (hb : y.borrower = some b) (hh : y.hold = some h) (stamp : Nat) : s.recordFor l (outcomeAs .trapped y) stamp =
      { number := s.memory.copies.head + s.memory.requested, stamp := stamp, kind := .ret, lane := l
        day := s.clock.day, minute := s.clock.minute, borrower := b, item := k, dueDay := 0, dueMinute := 0
        holdBorrower := h.borrower, amount := y.fine, outcome := 1, edition := s.edition } := by
  simp only [State.recordFor, outcomeAs, Txn.recordKind, Txn.carriesLoan, hop, hi, hb, hh, if_true, Option.getD_some,
    Option.map_some]
  rfl

/-- The context of a return that goes on with a trap outcome. -/
def decidedAs (o : TrapOutcome) (x : Txn) : Txn :=
  { x with trap := o, waitExpired := false, hold := if o = .trapped then x.hold else none }

/-- A return whose item is no longer OUT to its borrower. -/
theorem returnOn_of_not_out {y : Txn} {k b : Nat} {basis : Basis} {a : LoanPart} (o : TrapOutcome) (hy : (s.lane l).txn = some y)
    (hi : y.item = some k) (hb : y.borrower = some b) (hfound : y.found = some ⟨basis, some a⟩)
    (hq : ∀ q, Out s k basis a q → q.borrower ≠ b) : s.returnOn l o =
      (s.mapLane l fun c => { c with trapWait := none, txn := some (decidedAs o y) }).endTxn l .refused .notOnLoan := by
  have htxn : ((s.mapTxn l (decidedAs o)).lane l).txn = some (decidedAs o y) := by
    rw [State.mapTxn, State.lane_mapLane, hy, Option.map_some]
  have hreturn : s.returnOn l o = (s.mapTxn l (decidedAs o)).commitReturn l := rfl
  rw [hreturn, commitReturn_of_not_out htxn hi fun q hnow hborrower => ?_]
  · rw [mapTxn_eq_mapLane hy, mapLane_mapLane]
    rfl
  · have hout : Out s k basis a q := itemNow_loan_iff.mp (by
      rw [← itemNow_mapLane (l := l) (f := fun c => { c with txn := c.txn.map (decidedAs o) })]
      rw [show (decidedAs o y).found = y.found from rfl, hfound] at hnow
      exact hnow)
    exact hq q hout (Option.some.inj ((show some b = some q.borrower from hb ▸ hborrower))).symm

/-- A return that ends with its trap CONFIRMED gives the trap up, and nothing else at the line. -/
theorem giveBack_of_trapped {y : Txn} {k : Nat} (hop : y.operation = .ret) (hi : y.item = some k) (ht : y.trap = .trapped)
    (hh : y.hold = some ⟨t.rank, t.holdBorrower⟩) (hstage : y.stage ≠ .awaitLine) (hprov : s.provisionalOf l = none)
    (hbusy : s.memory.busy = none) (hw : s.memory.waiting = []) (htitle : t.title = itemTitle k)
    (hrec : s.trap? t.title t.rank = some t) (hconf : t.state = .confirmed) (hown : t.station = s.number)
    (hitem : t.item = k) (hu : s.line.u.length < 8) (hs : s.line.stamps < 65535) :
    ∃ slips standing, s.giveBack l y = { s with
      line := { s.line with
        stamps := s.line.stamps + 1
        u := s.line.u ++ [⟨s.line.stamps + 1, 255, .trap t.part s.number .released⟩] }
      traps := (s.putTrap { t with state := .released, stamp := s.line.stamps + 1 }).traps
      slips := slips, standing := standing, overlay := s.overlay.setRoom l false } := by
  have hback : backAtOnce s l y = { s with overlay := s.overlay.setRoom l false } := by
    rw [backAtOnce_frame, reservationBack_of_not_lend (by rw [hop]; decide), dropAsked_of_quiet hbusy hw]
  obtain ⟨slips, hreleased⟩ := releaseTrap_of_own (s := { s with overlay := s.overlay.setRoom l false })
    (title := itemTitle k) (rank := t.rank) (item := k) (by rw [← htitle]; exact hrec) hconf hown hitem hu hs
  have htrap : trapBack { s with overlay := s.overlay.setRoom l false } y =
      State.releaseTrap { s with overlay := s.overlay.setRoom l false } (itemTitle k) t.rank k := by
    simp only [trapBack, ht, hh, hi, Option.getD_some]
  rw [giveBack_eq, ← backAtOnce, hback, abandonTrap_of_none (by exact hprov), htrap, hreleased, noticeBack_of_ne hstage,
    actionBack_frame]
  exact ⟨slips, _, rfl⟩

end Trapped

/-! ## A BLOCK notice (R41, R76) -/

section Blocked
variable {s : State} {n : Notice} {l : LaneId} {y : Txn} {b : Nat} {e : Entry}

theorem isBlockNotice_of_block (hb : ∃ t a why, n.body = .block t a why) (k : Nat) :
    isBlockNotice k n = true ↔ n.stamp = k := by
  obtain ⟨t, a, why, hb⟩ := hb
  simp only [isBlockNotice, hb, beq_iff_eq]

/-- The lane waits for this notice. -/
def AwaitsNotice (s : State) (n : Notice) (l : LaneId) (y : Txn) : Prop :=
  (s.lane l).txn = some y ∧ y.stage = .awaitLine ∧ y.stamp = n.stamp

/-- The lane's transaction, where it waits for this notice. -/
def waitingFor (s : State) (n : Notice) (l : LaneId) : Option (LaneId × Txn) :=
  (s.lane l).txn.bind fun t => if t.stage = .awaitLine ∧ isBlockNotice t.stamp n = true then some (l, t) else none

theorem laneOfBlock_eq (s : State) (n : Notice) : s.laneOfBlock n = (waitingFor s n .a).or (waitingFor s n .b) := rfl

theorem waitingFor_of_awaits (hb : ∃ t a why, n.body = .block t a why) (h : AwaitsNotice s n l y) :
    waitingFor s n l = some (l, y) := by
  obtain ⟨hx, hstage, hstamp⟩ := h
  rw [waitingFor, hx, Option.bind_some, if_pos ⟨hstage, (isBlockNotice_of_block hb _).mpr hstamp.symm⟩]

theorem waitingFor_of_other (hb : ∃ t a why, n.body = .block t a why)
    (h : ∀ z, (s.lane l).txn = some z → z.stage ≠ .awaitLine ∨ z.stamp ≠ n.stamp) : waitingFor s n l = none := by
  cases hz : (s.lane l).txn with
  | none => rw [waitingFor, hz, Option.bind_none]
  | some z =>
    rw [waitingFor, hz, Option.bind_some, if_neg]
    rintro ⟨hstage, hnotice⟩
    obtain hne | hne := h z hz
    · exact hne hstage
    · exact hne ((isBlockNotice_of_block hb _).mp hnotice).symm

theorem laneOfBlock_of_waiting (hb : ∃ t a why, n.body = .block t a why) (h : AwaitsNotice s n l y)
    (ho : ∀ z, (s.lane (otherLane l)).txn = some z → z.stage ≠ .awaitLine ∨ z.stamp ≠ n.stamp) :
    s.laneOfBlock n = some (l, y) := by
  have hmine := waitingFor_of_awaits hb h
  have hother := waitingFor_of_other hb ho
  rw [laneOfBlock_eq]
  cases l with
  | a => rw [hmine, Option.some_or]
  | b => rw [show waitingFor s n .a = none from hother, hmine, Option.none_or]

theorem laneOfBlock_of_none (hb : ∃ t a why, n.body = .block t a why)
    (h : ∀ l z, (s.lane l).txn = some z → z.stage ≠ .awaitLine ∨ z.stamp ≠ n.stamp) : s.laneOfBlock n = none := by
  rw [laneOfBlock_eq, waitingFor_of_other hb (h .a), waitingFor_of_other hb (h .b), Option.or_none]

theorem reportSent_of_block (hb : ∃ t a why, n.body = .block t a why) (h : s.laneOfBlock n = some (l, y)) :
    s.reportSent n = s.blockTransmitted l y := by
  obtain ⟨t, a, why, hb⟩ := hb
  simp only [State.reportSent, hb, h]

theorem reportSent_of_unawaited (hb : ∃ t a why, n.body = .block t a why) (h : s.laneOfBlock n = none) :
    s.reportSent n = s := by
  obtain ⟨t, a, why, hb⟩ := hb
  simp only [State.reportSent, hb, h]

/-- The record's kind of a block action. -/
def BlockAction.kind : BlockAction → RecordKind
  | .raise => .block
  | .lift => .lift

theorem recordKind_of_action {a : BlockAction} (hop : y.operation = .block ∨ y.operation = .lift)
    (ha : BlockAction.ofOperation y.operation = a) : y.recordKind = BlockAction.kind a := by
  subst ha
  obtain hop | hop := hop <;> simp only [Txn.recordKind, hop] <;> rfl

theorem recordFor_of_block {op : Operation} (hop : y.operation = op) (hbl : op = .block ∨ op = .lift) (hb : y.borrower = some b)
    (hi : y.item = none) (ht : y.trap = .none) (stamp : Nat) : s.recordFor l y stamp =
      { number := s.memory.copies.head + s.memory.requested, stamp := stamp
        kind := y.recordKind
        lane := l, day := s.clock.day, minute := s.clock.minute, borrower := b, item := 0, dueDay := 0, dueMinute := 0
        holdBorrower := 0, amount := 0, outcome := blockReasonCode y.blockReason, edition := s.edition } := by
  subst hop
  obtain hop | hop := hbl
  all_goals
    simp only [State.recordFor, Txn.recordKind, Txn.carriesLoan, hop, hb, hi, ht, Option.getD_some, Option.getD_none]
    rfl

/-- An awaiting own action placed on the record (R76). -/
theorem entry?_placeAwaiting (he : s.entry? b = some e) (why : BlockReason) (a : BlockAction) (k : Nat) :
    EntryWork s (s.placeAwaiting b why a k) b ∧ ∃ e', (s.placeAwaiting b why a k).entry? b = some e' ∧ e'.own = e.own ∧
      e'.record why = { e.record why with awaiting := (e.record why).awaiting ++ [⟨a, k, false⟩] } ∧
      e'.record (otherReason why) = e.record (otherReason why) := by
  have hkeep : ∀ x : Entry, (x.setRecord why { x.record why with
      awaiting := (x.record why).awaiting ++ [⟨a, k, false⟩] }).borrower = x.borrower := fun x => setRecord_borrower _ why _
  have hentry := entry?_useEntry s b _ hkeep
  rw [he, Option.map_some] at hentry
  exact ⟨.useEntry s hkeep, _, hentry, by cases why <;> rfl, by cases why <;> rfl, by cases why <;> rfl⟩

/-- An awaiting own action dropped again (R76, step 3). -/
theorem entry?_dropAwaiting (he : s.entry? b = some e) (why : BlockReason) (k : Nat) :
    ∃ e', (s.dropAwaiting b why k).entry? b = some e' ∧ e'.own = e.own ∧ e'.record why = (e.record why).settled k ∧
      e'.record (otherReason why) = e.record (otherReason why) := by
  have hentry := entry?_useEntry s b (fun x => x.setRecord why ((x.record why).settled k)) fun x => setRecord_borrower _ why _
  rw [he, Option.map_some] at hentry
  exact ⟨_, hentry, by cases why <;> rfl, by cases why <;> rfl, by cases why <;> rfl⟩

/-- An action placed behind others, and settled, leaves these. -/
theorem settled_placed {r : BlockRecord} {k : Nat} (h : ∀ w ∈ r.awaiting, w.stamp ≠ k) (a : BlockAction) :
    BlockRecord.settled { r with awaiting := r.awaiting ++ [⟨a, k, false⟩] } k = r := by
  have hkeep : r.awaiting.filter (fun x => x.stamp != k) = r.awaiting :=
    List.filter_eq_self.mpr fun w hw => bne_iff_ne.mpr (h w hw)
  simp only [BlockRecord.settled, List.filter_append, hkeep, List.filter_cons, bne_self_eq_false, Bool.false_eq_true, if_false,
    List.filter_nil, List.append_nil]

theorem blockTransmitted_eq (hb : y.borrower = some b) : s.blockTransmitted l y =
    State.commitOperation ((s.placeAwaiting b y.blockReason (BlockAction.ofOperation y.operation) y.stamp).mapLane l
      fun c => { c with blockWait := none }) l .failed true := by
  simp only [State.blockTransmitted, hb, Option.getD_some]

theorem commitOperation_of_allowed (h : s.commitRefusal = none) (c : ResultClass) (v : Bool) :
    s.commitOperation l c v = s.requestAppend l v := by simp only [State.commitOperation, h]

theorem commitOperation_of_refusal {why : Reason} (h : s.commitRefusal = some why) (c : ResultClass) (v : Bool) :
    s.commitOperation l c v = s.endTxn l c why := by simp only [State.commitOperation, h]

/-- A block or lift that cannot be written gives back its awaiting action, and its notice has gone. -/
theorem giveBack_of_sent (hop : y.operation = .block ∨ y.operation = .lift) (ht : y.trap = .none) (hprov : s.provisionalOf l = none)
    (hbusy : s.memory.busy = none) (hw : s.memory.waiting = []) (hsend : s.line.sending = none)
    (hq : ∀ m ∈ s.line.u, m.stamp ≠ y.stamp) (hb : y.borrower = some b) (he : s.entry? b = some e)
    (hawait : ((e.record y.blockReason).awaits y.stamp).isSome = true) :
    s.giveBack l y = { s with
      standing := (s.dropAwaiting b y.blockReason y.stamp).standing, overlay := s.overlay.setRoom l false } := by
  have hback : backAtOnce s l y = { s with overlay := s.overlay.setRoom l false } := by
    rw [backAtOnce_frame, reservationBack_of_not_lend (by obtain h | h := hop <;> rw [h] <;> decide), dropAsked_of_quiet hbusy hw]
  have hnotice : noticeBack { s with overlay := s.overlay.setRoom l false } y = { s with overlay := s.overlay.setRoom l false } := by
    unfold noticeBack
    split
    · refine withdraw_of_none (by exact hsend) fun m hm => Bool.eq_false_iff.mpr fun hm' => hq m hm ?_
      unfold isBlockNotice at hm'
      split at hm'
      · exact beq_iff_eq.mp hm'
      · cases hm'
    · rfl
  have haction : State.awaitingOwn { s with overlay := s.overlay.setRoom l false } y = true := by
    simp only [State.awaitingOwn, hb, Option.bind_some]
    rw [show State.entry? { s with overlay := s.overlay.setRoom l false } b = some e from he]
    exact hawait
  rw [giveBack_eq, ← backAtOnce, hback, abandonTrap_of_none (by exact hprov), trapBack_of_ne (by rw [ht]; decide), hnotice,
    actionBack, if_pos haction, hb, Option.getD_some]
  rw [State.dropAwaiting, State.dropAwaiting, useEntry_of_some (e := e) (by exact he), useEntry_of_some he]
  rfl

end Blocked

/-! ## Upload frames (R168, R170, R172) -/

section Upload
variable {s : State}

/-- The gateway session opened by the own claim. -/
def gatewayOpened (day : Nat) : Gateway :=
  { entries := List.replicate 16 ⟨.waitingBegin, 0, 0, none⟩, beginTimer := some 10000, claimDay := day
    queue := [], sendingHead := false, answerTimer := none, closing := false }

theorem openGateway_eq (day : Nat) : s.openGateway day = { s with
    upload := { s.upload with gateway := some (gatewayOpened day) }, port := uploadLatched s } := latchUpload_eq _

theorem claimSent_of_free {day : Nat} (h : s.upload.sender.state = .idle ∨ s.upload.sender.state = .calling) :
    s.claimSent day = (s.openGateway day).claimNames s.number := by
  unfold State.claimSent
  exact if_pos (by simpa using h)

theorem claimSent_of_busy {day : Nat} (hi : s.upload.sender.state ≠ .idle) (hc : s.upload.sender.state ≠ .calling) :
    s.claimSent day = s := by
  unfold State.claimSent
  exact if_neg (by simp [hi, hc])

theorem uploadLatched_latched (s : State) (up : Upload) : uploadLatched { s with upload := up, port := uploadLatched s } = uploadLatched s := by
  simp only [uploadLatched, BitVec.or_assoc, BitVec.or_self]

theorem beginSent_of_other (h : s.upload.sender.state ≠ .beginning) : s.beginSent = s := if_neg h

theorem beginSent_of_records (h : s.upload.sender.state = .beginning) (hc : 0 < s.upload.sender.count)
    (hf : s.memory.faulted = false) (hb : s.memory.busy = none) (hw : s.memory.waiting = []) : s.beginSent = { s with
      upload := { s.upload with sender := { s.upload.sender with
        state := .reading, beginTimer := none, block := 1, moving := false } }
      memory := { s.memory with
        busy := some ⟨.uploadRead s.upload.sender.first (min 3 s.upload.sender.count), false⟩ } } := by
  unfold State.beginSent
  dsimp only
  rw [if_pos h, if_neg (by exact Nat.ne_of_gt hc), readBlock_of_free (by exact hf) (by exact hb) (by exact hw)]
  simp only [State.mapSender, State.setUpload, Nat.sub_self, Nat.mul_zero, Nat.add_zero, Nat.add_sub_cancel_left]

theorem beginSent_of_empty {g k : Nat} (hk : s.upload.sender.receipted = k) (h : s.upload.sender.state = .beginning) (hc : s.upload.sender.count = 0)
    (hg : s.upload.sender.gateway = some g) (hne : g ≠ s.number)
    (hb : s.memory.busy = none) (hw : s.memory.waiting = []) (hroom : s.line.s.length < 32) : s.beginSent = { s with
      line := { s.line with s := s.line.s ++ [⟨0, g, .uploadDone k⟩] }, port := uploadLatched s
      upload := { s.upload with sender := Sender.ended s.upload.sender .complete } } := by
  subst hk
  unfold State.beginSent
  dsimp only
  rw [if_pos h, if_pos (by exact hc), State.finishSender, endSender_of_free (by exact hw) (by exact hb),
    toGateway_of_other (by exact hg) (by exact hne), handUpload_of_room (by exact decide_eq_true hroom)]
  rfl

end Upload

/-- Settles O43: the frame leaves its queue, and each kind's block takes the report. -/
theorem transmissionCompletesAndReports : Obligations.TransmissionCompletesAndReports := by
  intro x rest s hx
  refine ⟨fun m hq hc hk => ?_, fun m hq hc hcls hk ho => ?_, fun m hq hc hcls => ⟨fun he => ?_, fun f p e hp hlen he hlow hmin => ?_⟩,
    fun l item b basis a y t hq hc hb hst hti htitle hown hprov ht hy hop hi hbo hhold hfound hfree => ?_,
    fun l action why b e y hq hc hb hy hop hstage ho hst hbo hi ht hwhy he hfree => ?_,
    fun hq hc hb hnone => ?_, fun d hq hc hb => ?_, fun d hq hc hb => ?_, fun g hq hc hb ho hfree hg hne => ?_⟩
  · exact congrArg Host.Outcome.next ((sendComplete_u hx hq hc).trans (reportSent_of_other (not_reportsToBlock hk)))
  · have hother : ¬ ReportsToBlock x.notice.body := fun h => by
      have hlow := kindClass_s hcls
      obtain hcode | hcode := ReportsToBlock.code h
      · omega
      · exact hk hcode
    refine congrArg Host.Outcome.next ((sendComplete_s hx hq hc).trans ?_)
    rw [reportSent_of_other hother, leftS_of_nothing (by exact ho.1) (by exact ho.2.1) (by exact ho.2.2)]
    rfl
  · have hother : ¬ ReportsToBlock x.notice.body := fun h => by
      have hlow := kindClass_b hcls
      have hcode := ReportsToBlock.code h
      omega
    refine congrArg Host.Outcome.next ((sendComplete_b hx hq hc).trans ?_)
    rw [reportSent_of_other hother, leftB_of_unpaused (by exact he)]
    rfl
  · have hother : ¬ ReportsToBlock x.notice.body := fun h => by
      have hlow := kindClass_b hcls
      have hcode := ReportsToBlock.code h
      omega
    have hsent : exec .transmitComplete s = .next (State.walk 16 { s with line := { endedB s rest with
        b := rest ++ [⟨0, 255, tallyBody s e⟩], engine := .walking f (.tallies e.own.stamp) } }) := by
      refine congrArg Host.Outcome.next ((sendComplete_b hx hq hc).trans ?_)
      rw [reportSent_of_other hother, leftB_of_paused (s := { s with line := endedB s rest }) hp hlen he hlow hmin]
      rfl
    have hfull : 16 ≤ (rest ++ [(⟨0, 255, tallyBody s e⟩ : Notice)]).length := by
      rw [List.length_append, hlen]
      exact Nat.le_refl 16
    refine ⟨fun ⟨z, hz, hlt⟩ => ?_, fun hlast hitems htraps => ?_⟩
    · obtain ⟨next, hnext⟩ := nextTally_of_later hz hlt
      have hwalk : s.nextWalk f (.tallies e.own.stamp) = some (.tallies next.1, next.2) := by
        simp only [State.nextWalk, hnext]
      exact hsent.trans (congrArg Host.Outcome.next (walk_of_full (f := f) (p := .tallies e.own.stamp) 15 rfl hwalk hfull))
    · have htally : s.nextTally e.own.stamp = none := nextTally_of_none (List.filter_eq_nil_iff.mpr fun z hz hin =>
        absurd (hlast z hz) (Nat.not_le.mpr (of_decide_eq_true hin)))
      have hitem : s.nextItem (f - 1) = none := nextItem_of_none (itemsFrom_eq_nil fun i hi =>
        (hitems i hi).imp id fun hlt => by omega)
      have hnone : s.nextWalk f (.tallies e.own.stamp) = none := by
        simp only [State.nextWalk, htally, hitem, nextTrap_of_none (ownTraps_eq_nil htraps)]
        rfl
      exact hsent.trans (congrArg Host.Outcome.next (walk_of_done (f := f) (p := .tallies e.own.stamp) 15 rfl hnone))
  · have hsent : exec .transmitComplete s =
        .next ((trapConfirmed { s with line := endedU s rest } t).returnOn l .trapped) :=
      congrArg Host.Outcome.next ((sendComplete_u hx hq hc).trans
        (reportSent_of_trapped (s := { s with line := endedU s rest }) hb hst hown ht hprov))
    have htrap : (trapConfirmed { s with line := endedU s rest } t).trap? t.title t.rank = some { t with state := .confirmed } := by
      rw [trapConfirmed_frame]
      exact trap?_putTrap { s with line := endedU s rest } { t with state := .confirmed }
    have htraps : (trapConfirmed { s with line := endedU s rest } t).traps =
        s.traps.filter (fun x => !x.isFor t.title t.rank) ++ [{ t with state := .confirmed }] := by
      rw [trapConfirmed_frame]
      rfl
    obtain ⟨traps, slips, hu⟩ : ∃ traps slips, trapConfirmed { s with line := endedU s rest } t =
        { s with line := endedU s rest, traps := traps, slips := slips } := ⟨_, _, trapConfirmed_frame _ t⟩
    rw [hu] at hsent htrap htraps
    have hyu : ∀ m, State.lane { s with line := endedU s rest, traps := traps, slips := slips } m = s.lane m := fun m => by
      cases m <;> rfl
    intro out
    refine ⟨fun hout hab hdue hday hcommit hused hf => ?_, fun hstage hout hend hnone hroom hstamps => ?_⟩
    · subst hab
      rw [returnOn_of_out .trapped (by rw [hyu]; exact hy) hi hbo hfound hdue (by exact hday)
        (by exact hout.imp (fun ⟨hno, hroll, _⟩ => ⟨hno, hroll, rfl⟩) id) (by exact hcommit) (by exact hused) (by exact hf)
        (by exact hfree.1) (by exact hfree.2),
        recordFor_trapped hop hi hbo hhold] at hsent
      exact ⟨_, hsent, rfl, rfl, rfl, rfl, rfl, by cases l <;> rfl, by cases l <;> rfl, by cases l <;> exact htrap,
        by cases l <;> rfl, by cases l <;> rfl, by cases l <;> rfl, by cases l <;> rfl⟩
    · rw [returnOn_of_not_out .trapped (by rw [hyu]; exact hy) hi hbo hfound (by exact hout)] at hsent
      generalize hv : State.mapLane _ l _ = v at hsent
      have hvl : v.lane l = { s.lane l with trapWait := none, txn := some (decidedAs .trapped y) } := by
        rw [← hv, State.lane_mapLane, hyu]
      have hvo : v.lane (otherLane l) = s.lane (otherLane l) := by rw [← hv, lane_mapLane_otherLane, hyu]
      have hvt : v.traps = traps := by rw [← hv, State.mapLane_traps]
      have hvlanes : v = { s with line := endedU s rest, traps := traps, slips := slips, laneA := v.laneA, laneB := v.laneB } := by
        rw [← hv]
        cases l <;> rfl
      have hwrote := wrote_endTxn (x := decidedAs .trapped y) (by rw [hvl]) (by rw [hvl]; exact hend) .refused .notOnLoan
      obtain ⟨hcls, hwhy, hoper⟩ := endedResult_end (s := v.giveBack l (decidedAs .trapped y)) (l := l) (decidedAs .trapped y)
        .refused .notOnLoan
      have hprovl : v.provisionalOf l = none := by
        refine List.find?_eq_none.mpr fun z hz hstate => ?_
        rw [hvt] at hz
        obtain hz | hz := List.mem_append.mp ((show traps = _ from htraps) ▸ hz)
        · obtain ⟨hz, hfor⟩ := List.mem_filter.mp hz
          refine hnone z hz (fun hzt => ?_) false (beq_iff_eq.mp hstate)
          rw [hzt] at hfor
          simp [TrapRecord.isFor] at hfor
        · obtain rfl := List.mem_singleton.mp hz
          cases hstate
      obtain ⟨slips', standing, hgave⟩ := giveBack_of_trapped (s := v) (l := l) (y := decidedAs .trapped y) (k := item)
        (t := { t with state := .confirmed }) hop hi rfl hhold (by rw [show (decidedAs .trapped y).stage = y.stage from rfl, hstage]; decide)
        hprovl (by rw [hvlanes]; exact hfree.1) (by rw [hvlanes]; exact hfree.2) htitle
        (by rw [State.trap?, hvt]; exact htrap) rfl (by rw [hvlanes]; exact hown) hti
        (by rw [hvlanes]; exact hroom) (by rw [hvlanes]; exact hstamps)
      refine ⟨_, hsent, ?_, ?_, hwrote.state, hwrote.txn, by rw [hwrote.result]; exact hoper.trans hop,
        by rw [hwrote.result, hcls], by rw [hwrote.result, hwhy], ?_, ?_, ?_, ?_⟩
      · rw [hwrote.line, hgave, hvlanes]
        rfl
      · have hvs : s.line.stamps = v.line.stamps := by rw [hvlanes]; rfl
        rw [State.trap?, hwrote.traps, hgave, hvs]
        exact trap?_putTrap v { t with state := .released, stamp := v.line.stamps + 1 }
      · rw [hwrote.memory, hgave, hvlanes]
      · rw [hwrote.other, lane_giveBack, hvo]
      · rw [hwrote.attached, hgave, hvlanes]
      · rw [hwrote.overlay, hgave, hvlanes]
        cases l <;> rfl
  · have hwaits : AwaitsNotice { s with line := endedU s rest } x.notice l y := ⟨by rw [lane_line]; exact hy, hstage, hst⟩
    have haction : BlockAction.ofOperation y.operation = action := by rw [hop]; cases action <;> rfl
    have hkinds : y.operation = .block ∨ y.operation = .lift := by rw [hop]; cases action <;> simp
    have hsent : exec .transmitComplete s = .next (State.commitOperation
        ((State.placeAwaiting { s with line := endedU s rest } b why action x.notice.stamp).mapLane l
          fun c => { c with blockWait := none }) l .failed true) := by
      obtain ⟨t, hb⟩ := hb
      refine congrArg Host.Outcome.next ((sendComplete_u hx hq hc).trans ((reportSent_of_block ⟨t, _, _, hb⟩
        (laneOfBlock_of_waiting ⟨t, _, _, hb⟩ hwaits fun z hz => ho z (by rw [lane_line] at hz; exact hz))).trans ?_))
      rw [blockTransmitted_eq hbo, hwhy, haction, hst]
    obtain ⟨hwork, e1, he1, hown, hrec, hrecother⟩ :=
      entry?_placeAwaiting (s := { s with line := endedU s rest }) (by exact he) why action x.notice.stamp
    obtain ⟨standing, hplaced⟩ : ∃ standing, State.placeAwaiting { s with line := endedU s rest } b why action x.notice.stamp =
        { s with line := endedU s rest, standing := standing } := ⟨_, hwork.frame⟩
    rw [hplaced] at hsent he1
    intro record other leaves
    refine ⟨fun hcommit hf => ?_, fun reason hcommit hend hprov hawait hrest => ?_⟩
    · have hother : other e1 = other e := by cases why <;> exact hrecother
      generalize hv : State.mapLane { s with line := endedU s rest, standing := standing } l _ = v at hsent
      have hvx : (v.lane l).txn = some y := by
        rw [← hv, State.lane_mapLane]
        cases l <;> exact hy
      rw [commitOperation_of_allowed (by rw [← hv]; cases l <;> exact hcommit),
        requestAppend_of_stamped hvx (by rw [← hv, State.mapLane_memory]; exact hfree.1)
          (by rw [← hv, State.mapLane_memory]; exact hfree.2) (by rw [← hv, State.mapLane_memory]; exact hf),
        recordFor_of_block rfl hkinds hbo hi ht, mapTxn_eq_mapLane hvx, ← hv, mapLane_mapLane] at hsent
      refine ⟨_, e1, ⟨hsent, ?_, ?_, ?_, ?_, ?_⟩, ?_, hrec, hother, hown, ?_, ?_⟩
      · cases l <;> rfl
      · cases l <;> rfl
      · cases l <;> rfl
      · cases l <;> rfl
      · cases l <;> rfl
      · cases l <;> exact he1
      · have hcommitted : committedAs y.stamp y = { y with stage := .commit, committed := true } := rfl
        rw [← hcommitted]
        cases l <;> rfl
      · rw [recordKind_of_action hkinds haction, hwhy, hst]
        cases l <;> rfl
    · generalize hv : State.mapLane { s with line := endedU s rest, standing := standing } l _ = v at hsent
      have hvl : v.lane l = { s.lane l with blockWait := none } := by
        rw [← hv, State.lane_mapLane]
        cases l <;> rfl
      have hvo : v.lane (otherLane l) = s.lane (otherLane l) := by
        rw [← hv, lane_mapLane_otherLane]
        cases l <;> rfl
      have hvlanes : v = { s with line := endedU s rest, standing := standing, laneA := v.laneA, laneB := v.laneB } := by
        rw [← hv]
        cases l <;> rfl
      have hve : v.entry? b = some e1 := by rw [hvlanes]; exact he1
      rw [commitOperation_of_refusal (by rw [← hv]; cases l <;> exact hcommit)] at hsent
      have hwrote := wrote_endTxn (x := y) (by rw [hvl]; exact hy) (by rw [hvl]; exact hend) .failed reason
      obtain ⟨hcls, hreason, hoper⟩ := endedResult_end (s := v.giveBack l y) (l := l) y .failed reason
      have hgave := giveBack_of_sent (s := v) (l := l) (y := y) hkinds ht
        (by rw [provisionalOf_of_traps (s := s) (by rw [hvlanes])]; exact hprov)
        (by rw [hvlanes]; exact hfree.1) (by rw [hvlanes]; exact hfree.2) (by rw [hvlanes]; rfl)
        (by rw [hvlanes, hst]; exact hrest) hbo hve (by
          rw [hwhy, hrec, hst]
          simp [BlockRecord.awaits])
      obtain ⟨e2, he2, hown2, hrec2, hother2⟩ := entry?_dropAwaiting hve why x.notice.stamp
      obtain ⟨e3, he3, hh⟩ := hwrote.table.entry b e2 (.of_entry (by
        rw [hgave, hwhy, hst]
        exact he2))
      have hrecord : e3.record why = e.record why := by
        rw [hh.record, hrec2, hrec]
        refine settled_placed (fun w hw => hawait w ?_) action
        cases why <;> exact hw
      have hother : e3.record (otherReason why) = e.record (otherReason why) := by rw [hh.record, hother2, hrecother]
      refine ⟨_, e3, ⟨hsent, ?_, hwrote.blockWait, ?_, ?_, ?_⟩, he3, hrecord, by cases why <;> exact hother,
        by rw [hh.own, hown2, hown], hwrote.state, by rw [hwrote.result, hcls], by rw [hwrote.result, hreason],
        by rw [hwrote.result, hoper], ?_⟩
      · rw [hwrote.line, hgave, hvlanes]
        rfl
      · rw [hwrote.other, lane_giveBack, hvo]
      · rw [hwrote.attached, hgave, hvlanes]
      · rw [hwrote.traps, hgave, hvlanes]
      · rw [hwrote.memory, hgave, hvlanes]
  · refine congrArg Host.Outcome.next ((sendComplete_u hx hq hc).trans ?_)
    exact reportSent_of_unawaited hb (laneOfBlock_of_none hb fun l => by rw [lane_line]; exact hnone l)
  · refine congrArg Host.Outcome.next ((sendComplete_u hx hq hc).trans ?_)
    simp only [State.reportSent, hb]
    rfl
  · have hsent : exec .transmitComplete s = .next (State.claimSent { s with line := endedU s rest } d) := by
      refine congrArg Host.Outcome.next ((sendComplete_u hx hq hc).trans ?_)
      simp only [State.reportSent, hb]
    refine ⟨fun hi hcall => ?_, fun hst hk hu hcalls => ?_⟩
    · rw [hsent, claimSent_of_busy (by exact hi) (by exact hcall)]
      rfl
    · rw [claimSent_of_free (by exact hst), openGateway_eq] at hsent
      have hclaims : ∀ m ∈ rest, isClaim m = false := fun m hm => beq_eq_false_iff_ne.mpr (hu m hm)
      have hcalled : ∀ m ∈ s.line.s, isCall m = false := fun m hm => beq_eq_false_iff_ne.mpr (hcalls m hm)
      refine ⟨fun hable hfree => ?_, fun hable => ?_⟩
      · rw [claimNames_of_able (by exact hst) rfl (by exact hk) (by exact hclaims) (by exact hcalled) (by exact uploadAble_iff.mpr hable) (by exact hfree.1)
          (by exact hfree.2)] at hsent
        refine hsent.trans (congrArg Host.Outcome.next ?_)
        rw [uploadLatched_latched, ite_self]
        rfl
      · rw [claimNames_of_unable (by exact hst) rfl (by exact hk) (by exact hclaims) (by exact hcalled)
          (by exact Bool.eq_false_iff.mpr fun h => hable (uploadAble_iff.mp h))] at hsent
        exact hsent
  · have hsent : exec .transmitComplete s = .next (State.leftS (State.beginSent { s with line := endedS s rest })) := by
      refine congrArg Host.Outcome.next ((sendComplete_s hx hq hc).trans ?_)
      simp only [State.reportSent, hb, and_self, if_true]
    refine ⟨fun hst => ?_, fun hst hc hr hroom => ?_, fun hst hc hf => ?_⟩
    · rw [hsent, beginSent_of_other (by exact hst), leftS_of_nothing (by exact ho.1) (by exact ho.2.1) (by exact ho.2.2)]
      rfl
    · rw [beginSent_of_empty (by exact hr) (by exact hst) (by exact hc) (by exact hg) (by exact hne) (by exact hfree.1) (by exact hfree.2)
        (by exact hroom), leftS_of_nothing (by exact ho.1) (by exact ho.2.1) (by exact ho.2.2)] at hsent
      exact hsent
    · rw [hsent, beginSent_of_records (by exact hst) (by exact hc) (by exact hf) (by exact hfree.1) (by exact hfree.2),
        leftS_of_nothing (by exact ho.1) (by exact ho.2.1) (by exact ho.2.2)]
      rfl

end Sys2Proof.Proofs

/-! A verified append, and the own changes that it completes: the tally, the item and the notice (R36, R69, R91, R137). -/

namespace Sys2Proof.Proofs
open Sys2Proof Sys2Proof.Machine

/-! ## The append verified (R137, R138) -/

/-- The state whose append has been verified, before its lane's work is completed. -/
def appended (s : State) (r : JournalRecord) (p : Port) : State := { s with
  attached :=
    { header := { s.attached.header with head := s.attached.header.head.write (r.number + 1) true }
      cells := Memory.writeBytes s.attached.cells (slotAddress r.number) r.bytes }
  memory := { s.memory with
    busy := none, requested := s.memory.requested - 1, copies := { s.memory.copies with head := r.number + 1 } }
  port := p }

section Append
variable {s : State} {r : JournalRecord}

theorem lane_appended (s : State) (r : JournalRecord) (p : Port) (m : LaneId) : (appended s r p).lane m = s.lane m := by
  cases m <;> rfl

/-- The memory port's part of a verified append: the head field, the slot, and JOURNAL HIGH when it is reached. -/
def appendWritten (s : State) (r : JournalRecord) : State :=
  let t := (s.writeField .head (r.number + 1) true).writeBytes (slotAddress r.number) r.bytes
  let u := (t.setMemory { t.memory with requested := t.memory.requested - 1 }).setCopy .head (r.number + 1)
  (if t.content < Config.journalHigh ∧ u.content = Config.journalHigh then u.latch causeJournalHigh else u).freePort

theorem freePort_setCopy (t : State) (x : MemCtl) (n : Nat) : ((t.setMemory x).setCopy .head n).freePort =
    { t with memory := { x with busy := none, copies := { x.copies with head := n } } } := rfl

theorem writeBytes_writeField (s : State) (n a : Nat) (bs : List Byte) :
    (s.writeField .head n true).writeBytes a bs = { s with attached :=
      { header := { s.attached.header with head := s.attached.header.head.write n true }
        cells := Memory.writeBytes s.attached.cells a bs } } := rfl

theorem freePort_latch (u : State) : ∃ p, (u.latch causeJournalHigh).freePort = { u.freePort with port := p } := by
  rw [latch_of_ne (by decide)]
  exact ⟨_, rfl⟩

theorem appendWritten_eq (s : State) (r : JournalRecord) : ∃ p, appendWritten s r = appended s r p := by
  unfold appendWritten
  dsimp only
  split
  · obtain ⟨p, hp⟩ := freePort_latch (State.setCopy (State.setMemory _ _) .head (r.number + 1))
    refine ⟨p, hp.trans ?_⟩
    rw [freePort_setCopy, writeBytes_writeField]
    rfl
  · refine ⟨s.port, ?_⟩
    rw [freePort_setCopy, writeBytes_writeField]
    rfl

theorem appendVerified_eq (s : State) (r : JournalRecord) :
    s.appendVerified r = ((appendWritten s r).appendDone r.lane).grant := rfl

/-- The append's completion is the completion of its lane's work. -/
theorem exec_append {d : Bool} (hb : s.memory.busy = some ⟨.append r, d⟩) :
    ∃ p, exec (.appendComplete .verified) s = .next ((appended s r p).appendDone r.lane).grant := by
  obtain ⟨p, hp⟩ := appendWritten_eq s r
  have hend : s.appendEnd .verified = s.appendVerified r := by simp only [State.appendEnd, hb]
  refine ⟨p, ?_⟩
  rw [← hp, ← appendVerified_eq, ← hend]
  rfl

theorem slotBytes_appended (hwf : s.memoryCanonical) (p : Port) : (appended s r p).slotBytes r.number = r.bytes := by
  have hlen : r.bytes.length = 32 := length_record r
  have hread := readBytes_writeBytes_within (xs := r.bytes) (o := 0) (n := 32) hwf
    (by rw [hlen]; exact slotArea_le r.number) (by rw [hlen])
  rw [Nat.add_zero, bytesAt_all hlen] at hread
  exact hread

theorem read_appended_outside (hwf : s.memoryCanonical) (p : Port) {a : Nat}
    (ha : a < slotAddress r.number ∨ slotAddress r.number + 32 ≤ a) :
    Memory.read (appended s r p).attached.cells a = Memory.read s.attached.cells a := by
  have hlen : r.bytes.length = 32 := length_record r
  exact read_writeBytes_outside hwf (by rw [hlen]; exact slotArea_le r.number) (by rw [hlen]; exact ha)

end Append

/-! ## The own tally (R69) -/

section Tally
variable {s : State} {b : Nat} {e : Entry} {f : Entry → Entry} (rs : RuleSet) (loans balance : Int) (k : Nat)

theorem ownChange_keeps (e : Entry) : e.ownChange rs loans balance k = { e with
    own := ⟨clampLoans (e.own.loans + loans), clampBalance (e.own.balance + balance), max e.own.stamp k⟩
    fines := (e.ownChange rs loans balance k).fines } := by
  unfold Entry.ownChange
  dsimp only
  split
  all_goals rfl

@[simp] theorem ownChange_own (e : Entry) : (e.ownChange rs loans balance k).own =
    ⟨clampLoans (e.own.loans + loans), clampBalance (e.own.balance + balance), max e.own.stamp k⟩ := by
  rw [ownChange_keeps]

@[simp] theorem ownChange_borrower (e : Entry) : (e.ownChange rs loans balance k).borrower = e.borrower := by
  rw [ownChange_keeps]

@[simp] theorem ownChange_roll (e : Entry) : (e.ownChange rs loans balance k).roll = e.roll := by rw [ownChange_keeps]

@[simp] theorem ownChange_peers (e : Entry) : (e.ownChange rs loans balance k).peers = e.peers := by rw [ownChange_keeps]

@[simp] theorem ownChange_record (e : Entry) (why : BlockReason) :
    (e.ownChange rs loans balance k).record why = e.record why := by
  rw [ownChange_keeps]
  cases why <;> rfl

theorem HoldsEntry.of_use (he : s.entry? b = some e) (hf : ∀ e, (f e).borrower = e.borrower) :
    HoldsEntry (s.useEntry b f) b (f e) := ⟨_, by rw [entry?_useEntry s b f hf, he]; rfl, .used _ _⟩

theorem entryWork_ownChange : EntryWork s (s.ownChange b loans balance k) b :=
  .useEntry s (f := fun e => e.ownChange s.reckoner.active loans balance k) fun _ => ownChange_borrower _ _ _ _ _

theorem HoldsEntry.ownChange (he : s.entry? b = some e) :
    HoldsEntry (s.ownChange b loans balance k) b (e.ownChange s.reckoner.active loans balance k) :=
  .of_use (f := fun e => e.ownChange s.reckoner.active loans balance k) he fun _ => ownChange_borrower _ _ _ _ _

theorem entryWork_releaseReservation (l : LaneId) : EntryWork s (s.releaseReservation l b) b := by
  obtain ⟨h, -⟩ | h := releaseReservation_cases s l b <;> rw [h]
  · exact .refl s b
  · exact .useEntry s (f := (·.setReserved l false)) fun _ => setReserved_borrower _ l false

end Tally

/-! ## The own item (R89, R91) -/

/-- The overlay with a lane's item written, its room given back. -/
def itemWritten (o : Overlay) (l : LaneId) (i : ItemEntry) : Overlay :=
  { o.setRoom l false with entries := o.entries.filter (·.item != i.item) ++ [i] }

section Item
variable {s t : State} {o : Overlay} {l : LaneId} {i : ItemEntry} {n : Nat}

theorem room_itemWritten (o : Overlay) (l : LaneId) (i : ItemEntry) : (itemWritten o l i).room l = false := by
  cases l <;> rfl

theorem item?_of_overlay (h : t.overlay = s.overlay) (n : Nat) : t.item? n = s.item? n := by
  rw [State.item?, h, State.item?]

theorem putItem_giveBackRoom (s : State) (l : LaneId) (i : ItemEntry) :
    (s.giveBackRoom l).putItem i = { s with overlay := itemWritten s.overlay l i } := by cases l <;> rfl

theorem item?_giveBackRoom (s : State) (l : LaneId) (n : Nat) : (s.giveBackRoom l).item? n = s.item? n := by
  cases l <;> rfl

theorem item?_of_written (h : t.overlay = itemWritten s.overlay l i) (hn : i.item = n) : t.item? n = some i := by
  subst hn
  rw [← item?_putItem (s.giveBackRoom l) i, putItem_giveBackRoom]
  exact item?_of_overlay h _

theorem item?_of_written_ne (h : t.overlay = itemWritten s.overlay l i) (hn : i.item ≠ n) : t.item? n = s.item? n := by
  rw [← item?_giveBackRoom s l, ← item?_putItem_of_ne (s := s.giveBackRoom l) (i := i) (Ne.symm hn), putItem_giveBackRoom]
  exact item?_of_overlay h _

/-- A room that is given back is free. -/
theorem used_giveBackRoom (hu : s.overlay.used ≤ 8192) (hr : s.overlay.room l = true) :
    (s.giveBackRoom l).overlay.used < 8192 := by
  cases l with
  | a =>
    have hroom : s.overlay.roomA = true := hr
    simp only [State.giveBackRoom, State.setOverlay, Overlay.setRoom, Overlay.used, hroom, Bool.toNat_true,
      Bool.toNat_false] at hu ⊢
    omega
  | b =>
    have hroom : s.overlay.roomB = true := hr
    simp only [State.giveBackRoom, State.setOverlay, Overlay.setRoom, Overlay.used, hroom, Bool.toNat_true,
      Bool.toNat_false] at hu ⊢
    omega

/-- The item's own entry is written over, or in the room set aside. -/
theorem ownWrite_of_room {basis : Basis} {loan : Option LoanPart} {k : Nat}
    (h : (s.item? n).isSome = true ∨ s.overlay.used ≤ 8192 ∧ s.overlay.room l = true) :
    s.ownWrite l n basis loan k = { s with overlay := itemWritten s.overlay l ⟨n, basis, loan, s.number, k⟩ } := by
  have hnumber : (s.giveBackRoom l).number = s.number := rfl
  rw [← putItem_giveBackRoom]
  simp only [State.ownWrite, item?_giveBackRoom, hnumber]
  split
  · rfl
  · next hnone =>
    obtain ⟨hu, hr⟩ := h.resolve_left hnone
    exact newItem_eq_putItem (used_giveBackRoom hu hr) rfl

end Item

/-! ## The notice (R108, R110) -/

section Notify
variable {s : State} {b : Nat} {e : Entry}

theorem handChange_of_room {n : Notice} (h : s.room (kindClass n.body) = true) :
    s.handChange n = s.setQueueOf (kindClass n.body) (s.queueOf (kindClass n.body) ++ [n]) := by
  simp only [State.handChange, hand_of_room h]

theorem notify_s {body : Body} (hc : kindClass body = .s) (h : s.line.s.length < 32) (k : Nat) :
    s.notify k body = { s with line := { s.line with s := s.line.s ++ [⟨k, 255, body⟩] } } := by
  have hroom : s.room .s = true := decide_eq_true h
  rw [State.notify, handChange_of_room (by rw [hc]; exact hroom), hc]
  rfl

theorem notify_u {body : Body} (hc : kindClass body = .u) (h : s.line.u.length < 8) (k : Nat) :
    s.notify k body = { s with line := { s.line with u := s.line.u ++ [⟨k, 255, body⟩] } } := by
  have hroom : s.room .u = true := decide_eq_true h
  rw [State.notify, handChange_of_room (by rw [hc]; exact hroom), hc]
  rfl

theorem tallyPart_of_holds (h : HoldsEntry s b e) : (s.entryOf b).tallyPart = ⟨b, e.own.loans, e.own.balance⟩ := by
  obtain ⟨f, hf, hh⟩ := h
  rw [entryOf_of_entry hf, Entry.tallyPart, hh.own, entry?_borrower hf]

end Notify

end Sys2Proof.Proofs

/-! Slip lines, slips and pulses that completed work asks for (R145 to R150, R156). -/

namespace Sys2Proof.Proofs
open Sys2Proof Sys2Proof.Machine

/-! ## A slip joins the queue (R150 to R152) -/

/-- The first place at which `p` holds is not moved by a change between values at which it does not hold. -/
theorem findIdx?_set_of_not {α : Type} {p : α → Bool} {x y : α} (hy : p y = false) : ∀ {xs : List α} {i : Nat},
    xs[i]? = some x → p x = false → (xs.set i y).findIdx? p = xs.findIdx? p
  | [], _, h, _ => by cases h
  | z :: xs, 0, h, hx => by
    obtain rfl : z = x := by simpa using h
    rw [List.set_cons_zero, List.findIdx?_cons, List.findIdx?_cons, hx, hy]
  | z :: xs, i + 1, h, hx => by
    rw [List.set_cons_succ, List.findIdx?_cons, List.findIdx?_cons, findIdx?_set_of_not hy (by simpa using h) hx]

/-- The state of a slip that has joined the queue: a warm printer with nothing queued prints it at once. -/
def joinedState (s : State) : SlipState := if s.slips.printer = .idleWarm then .printing else .ready

/-- Slip `i` has become READY as `x` and joined the queue, from `s` to `t`. -/
structure Joined (s t : State) (i : Nat) (x : Slip) : Prop where
  rest : SlipsOnly s t
  slips : t.slips.slips = s.slips.slips.set i { x with state := joinedState s }
  queue : t.slips.queue = s.slips.queue ++ [i]
  pad : ∀ q, t.pad q = s.pad q
  printer : t.slips.printer ≠ .idleWarm

section Join
variable {s : State} {i : Nat} {x : Slip}

theorem startPrint_of_kept {fuel : Nat} {rest : List Nat} (hq : s.slips.queue = i :: rest) (hx : s.slip i = x)
    (hh : ∀ h, x.hold = some h → s.ownConfirmed h = true) :
    (s.startPrint (fuel + 1)).settleUnload = { s with slips := { s.slips with
      slips := s.slips.slips.set i { x with state := .printing }, printer := .printing, unloadTimer := none } } := by
  have hstart : s.startPrint (fuel + 1) = (s.setSlip i { x with state := .printing }).setPrinter .printing := by
    simp only [State.startPrint, hq, hx]
    split
    · next h hhold => rw [if_pos (hh h hhold)]
    · rfl
  rw [hstart, State.settleUnload, if_neg (by rintro ⟨⟨⟩, _⟩)]
  rfl

theorem settlePrinter_of_idle (h : s.slips.printer = .idleWarm) :
    s.settlePrinter = (s.startPrint (8 + 1)).settleUnload := by
  simp only [State.settlePrinter, h]
  rfl

/-- A printer that is not warm is at most told to warm up. -/
theorem settlePrinter_of_cold (h : s.slips.printer ≠ .idleWarm) : ∃ p w, p ≠ PrinterState.idleWarm ∧
    s.settlePrinter = { s with slips := { s.slips with printer := p, warmTimer := w } } := by
  unfold State.settlePrinter
  split
  · split
    · exact ⟨_, _, h, rfl⟩
    · exact ⟨.warming, _, by decide, rfl⟩
  · next hp => exact absurd hp h
  all_goals exact ⟨_, _, h, rfl⟩

theorem joined (hi : i < s.slips.slips.length) (hx : s.slip i = x) (hh : ∀ h, x.hold = some h → s.ownConfirmed h = true)
    (hq : s.slips.printer = .idleWarm → s.slips.queue = []) : Joined s (s.joinQueue i) i x := by
  by_cases hp : s.slips.printer = .idleWarm
  · have hready : State.slip ((s.setSlip i { x with state := .ready }).setQueue (s.slips.queue ++ [i])) i =
        { x with state := .ready } := slip_setSlip_same hi _
    have hjoin : s.joinQueue i = { s with slips := { s.slips with
        slips := s.slips.slips.set i { x with state := .printing }, queue := s.slips.queue ++ [i]
        printer := .printing, unloadTimer := none } } := by
      rw [State.joinQueue, hx, settlePrinter_of_idle (by exact hp), startPrint_of_kept (rest := []) (by rw [hq hp]; rfl) hready
        (by exact hh)]
      simp only [State.setQueue, State.setSlip, List.set_set]
    rw [hjoin]
    refine ⟨rfl, by rw [joinedState, if_pos hp], rfl, fun q => by cases q <;> rfl, PrinterState.noConfusion⟩
  · obtain ⟨p, w, hpw, hjoin⟩ := settlePrinter_of_cold
      (s := (s.setSlip i { x with state := .ready }).setQueue (s.slips.queue ++ [i])) hp
    rw [State.joinQueue, hx, hjoin]
    exact ⟨rfl, by rw [joinedState, if_neg hp]; rfl, rfl, fun q => by cases q <;> rfl, hpw⟩

end Join

/-! ## The pads stand (R156) -/

theorem pad_startPrint (fuel : Nat) (s : State) (q : PadId) : (s.startPrint fuel).pad q = s.pad q := by
  induction fuel generalizing s with
  | zero => cases q <;> rfl
  | succ fuel ih =>
    unfold State.startPrint
    split
    · cases q <;> rfl
    next j rest _ =>
      dsimp only
      split
      next =>
        split
        · cases q <;> rfl
        · rw [ih]
          cases q <;> rfl
      · cases q <;> rfl

theorem pad_settleUnload (s : State) (q : PadId) : s.settleUnload.pad q = s.pad q := by
  unfold State.settleUnload
  repeat' split
  all_goals cases q <;> rfl

theorem pad_joinQueue (s : State) (i : Nat) (q : PadId) : (s.joinQueue i).pad q = s.pad q := by
  have hready : ∀ x js, State.pad ((s.setSlip i x).setQueue js) q = s.pad q := fun x js => by cases q <;> rfl
  rw [State.joinQueue, ← hready { s.slip i with state := .ready } (s.slips.queue ++ [i])]
  generalize (s.setSlip i _).setQueue _ = t
  by_cases hp : t.slips.printer = .idleWarm
  · rw [settlePrinter_of_idle hp, pad_settleUnload, pad_startPrint]
  · obtain ⟨p, w, -, h⟩ := settlePrinter_of_cold hp
    rw [h]
    cases q <;> rfl

/-! ## The ITEM DUE line (R145 to R147) -/

/-- From `s` to `t` nothing but the slip unit and the slip of the lane's session changes. -/
structure SlipChange (s t : State) (l : LaneId) : Prop where
  rest : t = { s with laneA := t.laneA, laneB := t.laneB, slips := t.slips }
  lane : ∃ ss, t.lane l = { s.lane l with session := ss }
  other : t.lane (otherLane l) = s.lane (otherLane l)

theorem SlipChange.trans {s t u : State} {l : LaneId} (h : SlipChange s t l) (h' : SlipChange t u l) : SlipChange s u l where
  rest := by rw [h'.rest, h.rest]
  lane := by
    obtain ⟨a, ha⟩ := h.lane
    obtain ⟨b, hb⟩ := h'.lane
    exact ⟨b, by rw [hb, ha]⟩
  other := h'.other.trans h.other

theorem SlipsOnly.slipChange {s t : State} (h : SlipsOnly s t) (l : LaneId) : SlipChange s t l where
  rest := by rw [h]
  lane := ⟨(s.lane l).session, by rw [h.lane]⟩
  other := h.lane _

/-- The same, and no pad changes. -/
structure SlipWork (s t : State) (l : LaneId) : Prop extends SlipChange s t l where
  pad : ∀ q, t.pad q = s.pad q

namespace SlipWork
variable {s t u : State} {l : LaneId}

theorem refl (s : State) (l : LaneId) : SlipWork s s l := ⟨⟨rfl, ⟨_, rfl⟩, rfl⟩, fun _ => rfl⟩

theorem trans (h : SlipWork s t l) (h' : SlipWork t u l) : SlipWork s u l :=
  ⟨h.toSlipChange.trans h'.toSlipChange, fun q => (h'.pad q).trans (h.pad q)⟩

theorem of_slips (h : SlipsOnly s t) (hp : ∀ q, t.pad q = s.pad q) : SlipWork s t l := ⟨h.slipChange l, hp⟩

theorem setSlip (s : State) (l : LaneId) (i : Nat) (x : Slip) : SlipWork s (s.setSlip i x) l :=
  .of_slips rfl fun q => by cases q <;> rfl

theorem setSessionSlip (s : State) (l : LaneId) (i : Option Nat) : SlipWork s (s.setSessionSlip l i) l where
  rest := by cases l <;> rfl
  lane := ⟨_, State.lane_mapLane ..⟩
  other := lane_mapLane_otherLane ..
  pad q := by cases q <;> cases l <;> rfl

theorem joinQueue (s : State) (l : LaneId) (i : Nat) : SlipWork s (s.joinQueue i) l :=
  .of_slips (joinQueue_slipsOnly s i) (pad_joinQueue s i)

end SlipWork

/-- A session's slip as it is opened with its first line. -/
def openedSlip (s : State) (l : LaneId) (b : Nat) (line : SlipLine) : Slip :=
  let kind := if (s.lane l).mode = .renew then SlipKind.renew else .loan
  { state := .opened, kind := some kind, lane := some l
    lines := [s.headerLine kind l, .borrower (b % 10000), line], hold := none, interrupted := false }

/-- The records, the print queue and the lane's session as a line leaves them, and whether it found no record. -/
def Lines (v : State × Bool) (l : LaneId) (records : List Slip) (queue : List Nat) (b : Nat) (slip : Option Nat)
    (noSlip : Bool) : Prop :=
  v.1.slips.slips = records ∧ v.1.slips.queue = queue ∧ (v.1.lane l).session = some ⟨b, slip⟩ ∧ v.2 = noSlip

section Line
variable {s : State} {l : LaneId} {b c i k : Nat} {j : Option Nat} {line : SlipLine}

theorem openSlip_of_free (h : s.freeSlip = some k) : s.openSlip l b line =
    ((s.setSlip k (openedSlip s l b line)).setSessionSlip l (some k), false) := by
  simp only [State.openSlip, h, beq_iff_eq]
  rfl

theorem openSlip_of_full (h : s.freeSlip = none) : s.openSlip l b line = (s.setSessionSlip l none, true) := by
  simp only [State.openSlip, h]

theorem slipWork_openSlip (s : State) (l : LaneId) (b : Nat) (line : SlipLine) : SlipWork s (s.openSlip l b line).1 l := by
  cases h : s.freeSlip with
  | none => rw [openSlip_of_full h]; exact .setSessionSlip s l none
  | some k => rw [openSlip_of_free h]; exact (SlipWork.setSlip s l k _).trans (.setSessionSlip _ l _)

theorem session_setSessionSlip (h : (s.lane l).session = some ⟨b, j⟩) (i : Option Nat) :
    ((s.setSessionSlip l i).lane l).session = some ⟨b, i⟩ := by
  rw [State.setSessionSlip, State.lane_mapLane, h]
  rfl

theorem slips_setSessionSlip (s : State) (l : LaneId) (i : Option Nat) : (s.setSessionSlip l i).slips = s.slips :=
  State.mapLane_slips ..

theorem lane_setSlip (s : State) (i : Nat) (x : Slip) (m : LaneId) : (s.setSlip i x).lane m = s.lane m := by
  cases m <;> rfl

theorem lines_openSlip_of_free (hs : (s.lane l).session = some ⟨b, j⟩) (h : s.freeSlip = some k) :
    Lines (s.openSlip l c line) l (s.slips.slips.set k (openedSlip s l c line)) s.slips.queue b (some k) false := by
  rw [openSlip_of_free h]
  refine ⟨?_, ?_, session_setSessionSlip (by rw [lane_setSlip, hs]) _, rfl⟩
  all_goals
    rw [slips_setSessionSlip]
    rfl

theorem lines_openSlip_of_full (hs : (s.lane l).session = some ⟨b, j⟩) (h : s.freeSlip = none) :
    Lines (s.openSlip l c line) l s.slips.slips s.slips.queue b none true := by
  rw [openSlip_of_full h]
  exact ⟨by rw [slips_setSessionSlip], by rw [slips_setSessionSlip], session_setSessionSlip hs _, rfl⟩

theorem slip_of_getElem {x : Slip} (h : s.slips.slips[i]? = some x) : s.slip i = x := by
  rw [State.slip, h, Option.getD_some]

/-- A record that stays in use leaves the same one as the first FREE one. -/
theorem freeSlip_of_set {t : State} {x y : Slip} (h : t.slips.slips = s.slips.slips.set i y)
    (hx : s.slips.slips[i]? = some x) (hstate : x.state ≠ .free) (hy : y.state ≠ .free) : t.freeSlip = s.freeSlip := by
  rw [State.freeSlip, h, State.freeSlip]
  exact findIdx?_set_of_not (by simpa using hy) hx (by simpa using hstate)

theorem joinedState_ne (s : State) : joinedState s ≠ .free := by
  rw [joinedState]
  split
  all_goals decide

theorem openedSlip_of_work {t : State} (h : SlipWork s t l) (b : Nat) (line : SlipLine) :
    openedSlip t l b line = openedSlip s l b line := by
  obtain ⟨ss, hl⟩ := h.lane
  have hmode : (t.lane l).mode = (s.lane l).mode := by rw [hl]
  have hheader : ∀ k, t.headerLine k l = s.headerLine k l := fun k => by rw [h.rest]; rfl
  simp only [openedSlip, hmode, hheader]

/-- The ITEM DUE line of an item. -/
def dueLine (n : Nat) (due : Nat × Nat) : SlipLine := .itemDue n (dateOf due.1) (timeOf due.2)

variable {n : Nat} {due : Nat × Nat} {x : Slip}

theorem itemDueLine_of_new (hs : (s.lane l).session = some ⟨b, none⟩) :
    s.itemDueLine l n due.1 due.2 = s.openSlip l b (dueLine n due) := by
  simp only [State.itemDueLine, hs]
  rfl

theorem itemDueLine_of_room (hs : (s.lane l).session = some ⟨b, some i⟩) (hx : s.slips.slips[i]? = some x)
    (hc : x.itemCount < 12) :
    s.itemDueLine l n due.1 due.2 = (s.setSlip i { x with lines := x.lines ++ [dueLine n due] }, false) := by
  have hcount : x.itemCount < Config.itemLines := hc
  simp only [State.itemDueLine, hs, slip_of_getElem hx, if_pos hcount, State.addLine]
  rfl

/-- A full slip with its last line. -/
def continuedSlip (x : Slip) : Slip := { x with lines := x.lines ++ [.continued 12] }

theorem itemDueLine_of_full (hs : (s.lane l).session = some ⟨b, some i⟩) (hx : s.slips.slips[i]? = some x)
    (hc : x.itemCount = 12) : s.itemDueLine l n due.1 due.2 =
      (((s.setSlip i (continuedSlip x)).joinQueue i).setSessionSlip l none).openSlip l b (dueLine n due) := by
  have hcount : ¬ 12 < Config.itemLines := by decide
  simp only [State.itemDueLine, hs, slip_of_getElem hx, hc, if_neg hcount, State.addLine]
  rfl

theorem slipWork_itemDueLine (s : State) (l : LaneId) (n d m : Nat) : SlipWork s (s.itemDueLine l n d m).1 l := by
  unfold State.itemDueLine
  dsimp only
  split
  · exact .refl s l
  next ss _ =>
    split
    · exact slipWork_openSlip s l _ _
    next i _ =>
      split
      · exact .setSlip s l i _
      · exact (((SlipWork.setSlip s l i _).trans (.joinQueue _ l i)).trans (.setSessionSlip _ l none)).trans
          (slipWork_openSlip _ l _ _)

/-- The state in which a full slip has joined the queue: the first FREE record and the session's mode are as before. -/
theorem lines_itemDueLine_of_full (hs : (s.lane l).session = some ⟨b, some i⟩) (hx : s.slips.slips[i]? = some x)
    (hc : x.itemCount = 12) (hstate : x.state = .opened) (hhold : x.hold = none)
    (hq : s.slips.printer = .idleWarm → s.slips.queue = []) :
    let records := s.slips.slips.set i { continuedSlip x with state := joinedState s }
    (∀ k, s.freeSlip = some k → Lines (s.itemDueLine l n due.1 due.2) l (records.set k (openedSlip s l b (dueLine n due)))
      (s.slips.queue ++ [i]) b (some k) false) ∧
    (s.freeSlip = none → Lines (s.itemDueLine l n due.1 due.2) l records (s.slips.queue ++ [i]) b none true) := by
  intro records
  have hlt : i < s.slips.slips.length := (List.getElem?_eq_some_iff.mp hx).1
  have hj := joined (s := s.setSlip i (continuedSlip x)) (i := i) (x := continuedSlip x)
    (by simpa [State.setSlip] using hlt) (slip_setSlip_same hlt _)
    (fun h hh => by rw [show (continuedSlip x).hold = x.hold from rfl, hhold] at hh; cases hh) hq
  generalize hv : ((s.setSlip i (continuedSlip x)).joinQueue i).setSessionSlip l none = v
  have hwork : SlipWork s v l := by
    rw [← hv]
    exact ((SlipWork.setSlip s l i _).trans (.joinQueue _ l i)).trans (.setSessionSlip _ l none)
  have hslips : v.slips.slips = records := by
    rw [← hv, slips_setSessionSlip, hj.slips]
    exact List.set_set ..
  have hqueue : v.slips.queue = s.slips.queue ++ [i] := by
    rw [← hv, slips_setSessionSlip, hj.queue]
    rfl
  have hfree : v.freeSlip = s.freeSlip := freeSlip_of_set hslips hx (by rw [hstate]; decide) (joinedState_ne s)
  have hsession : (v.lane l).session = some ⟨b, none⟩ := by
    rw [← hv]
    exact session_setSessionSlip (by rw [lane_joinQueue, lane_setSlip, hs]) none
  rw [itemDueLine_of_full hs hx hc, hv, ← hslips, ← hqueue, ← hfree, ← openedSlip_of_work hwork]
  exact ⟨fun k hk => lines_openSlip_of_free hsession hk, fun hk => lines_openSlip_of_full hsession hk⟩

/-- What the ITEM DUE line leaves stands as the lane's result is written. -/
theorem itemDueLeaves_of_line {t : State}
    (hslips : t.slips.slips = (s.itemDueLine l n due.1 due.2).1.slips.slips)
    (hqueue : t.slips.queue = (s.itemDueLine l n due.1 due.2).1.slips.queue)
    (hsession : (t.lane l).session = ((s.itemDueLine l n due.1 due.2).1.lane l).session)
    (hflag : (t.lane l).result.flags.noSlip = (s.itemDueLine l n due.1 due.2).2) : s.itemDueLeaves t l n due := by
  have hleaves : ∀ {records queue b slip noSlip}, Lines (s.itemDueLine l n due.1 due.2) l records queue b slip noSlip →
      t.slips.slips = records ∧ t.slips.queue = queue ∧ (t.lane l).session = some ⟨b, slip⟩ ∧
        (t.lane l).result.flags.noSlip = noSlip := by
    rintro records queue b slip noSlip ⟨h1, h2, h3, h4⟩
    exact ⟨hslips.trans h1, hqueue.trans h2, hsession.trans h3, hflag.trans h4⟩
  refine ⟨fun b hs => ?_, fun b i x hs hx => ⟨fun hc => ?_, fun hc hstate hhold hq => ?_⟩⟩
  · have hnew := itemDueLine_of_new (n := n) (due := due) hs
    exact ⟨fun k hk => hleaves (by rw [hnew]; exact lines_openSlip_of_free hs hk),
      fun hk => hleaves (by rw [hnew]; exact lines_openSlip_of_full hs hk)⟩
  · refine hleaves ?_
    rw [itemDueLine_of_room hs hx hc]
    exact ⟨rfl, rfl, by rw [lane_setSlip, hs], rfl⟩
  · obtain ⟨hfree, hfull⟩ := lines_itemDueLine_of_full (n := n) (due := due) hs hx hc hstate hhold hq
    exact ⟨fun k hk => hleaves (hfree k hk), fun hk => hleaves (hfull hk)⟩

end Line

/-! ## The slips of a return (R149, R150) -/

/-- A FINE slip as it becomes READY. -/
def fineSlipOf (s : State) (l : LaneId) (b n dueDay cents : Nat) (count balance : Int) (warning : Bool) : Slip :=
  { state := .ready, kind := some .fine, lane := some l
    lines := [s.headerLine .fine l, .borrower (b % 10000), .fine n (dateOf dueDay) cents, .total count balance warning]
    hold := none, interrupted := false }

/-- A HOLD slip as it is HELD. -/
def heldSlip (s : State) (l : LaneId) (title rank holdBorrower n : Nat) : Slip :=
  { state := .held, kind := some .hold, lane := some l
    lines := [s.headerLine .hold l, .hold title rank (itemCopy n), .borrower (holdBorrower % 10000)]
    hold := some (title, rank), interrupted := false }

/-- The trap of the return stands: its record is CONFIRMED by this station for the copy (R97). -/
structure Stands (s : State) (x : Txn) (n : Nat) (h : Hold) (y : TrapRecord) : Prop where
  trapped : x.trap = .trapped
  hold : x.hold = some h
  record : s.trap? (itemTitle n) h.rank = some y
  state : y.state = .confirmed
  station : y.station = s.number
  item : y.item = n

section ReturnSlips
variable {s : State} {l : LaneId} {b n i k : Nat} {x : Txn} {h : Hold} {y : TrapRecord}

theorem lt_of_freeSlip (h : s.freeSlip = some i) : i < s.slips.slips.length := by
  obtain ⟨hlt, -⟩ := List.findIdx?_eq_some_iff_getElem.mp h
  exact hlt

/-- A new record that joins the queue. -/
theorem joined_setSlip (hi : s.freeSlip = some i) (z : Slip) (hh : ∀ h, z.hold = some h → s.ownConfirmed h = true)
    (hq : s.slips.printer = .idleWarm → s.slips.queue = []) : Joined s ((s.setSlip i z).joinQueue i) i z := by
  have hlt := lt_of_freeSlip hi
  obtain ⟨hrest, hslips, hqueue, hpad, hprinter⟩ := joined (s := s.setSlip i z) (i := i) (x := z)
    (by simpa [State.setSlip] using hlt) (slip_setSlip_same hlt z) (by exact hh) hq
  refine ⟨SlipsOnly.trans (t := s.setSlip i z) rfl hrest, ?_, hqueue, fun q => (hpad q).trans (by cases q <;> rfl), hprinter⟩
  rw [hslips]
  exact List.set_set ..

theorem fineSlip_of_free (hi : s.freeSlip = some i) (b n d cents : Nat) (count balance : Int) (warning : Bool) :
    s.fineSlip l b n d cents count balance warning =
      ((s.setSlip i (fineSlipOf s l b n d cents count balance warning)).joinQueue i, false) := by
  simp only [State.fineSlip, hi]
  rfl

theorem fineSlip_of_full (hi : s.freeSlip = none) (b n d cents : Nat) (count balance : Int) (warning : Bool) :
    s.fineSlip l b n d cents count balance warning = (s, true) := by
  simp only [State.fineSlip, hi]

theorem holdSlip_of_full (hi : s.freeSlip = none) (title rank hb n : Nat) : s.holdSlip l title rank hb n = (s, true) := by
  simp only [State.holdSlip, hi]

theorem trapNoticeQueued_setSlip (i : Nat) (z : Slip) (hold : Nat × Nat) :
    (s.setSlip i z).trapNoticeQueued hold = s.trapNoticeQueued hold := rfl

theorem holdSlip_of_free (hi : s.freeSlip = some i) (title rank hb n : Nat) : s.holdSlip l title rank hb n =
    (if s.trapNoticeQueued (title, rank) then s.setSlip i (heldSlip s l title rank hb n)
      else (s.setSlip i (heldSlip s l title rank hb n)).joinQueue i, false) := by
  simp only [State.holdSlip, hi, trapNoticeQueued_setSlip]
  rfl

theorem trapNoticeQueued_iff (title rank : Nat) : s.trapNoticeQueued (title, rank) = true ↔
    ∃ q ∈ s.line.u, ∃ p c, q.body = .trap p c .trapped ∧ p.title = title ∧ p.rank = rank := by
  rw [State.trapNoticeQueued, List.any_eq_true]
  refine exists_congr fun q => and_congr_right fun _ => ?_
  constructor
  · intro hq
    split at hq
    · next p c hbody =>
      obtain ⟨ht, hr⟩ := Bool.and_eq_true_iff.mp hq
      exact ⟨p, c, hbody, beq_iff_eq.mp ht, beq_iff_eq.mp hr⟩
    · cases hq
  · rintro ⟨p, c, hbody, rfl, rfl⟩
    simp [hbody]

theorem Stands.confirmed (hs : Stands s x n h y) : s.ownConfirmed (itemTitle n, h.rank) = true := by
  obtain ⟨htitle, hrank⟩ := trap?_isFor hs.record
  refine List.any_eq_true.mpr ⟨y, List.mem_of_find?_eq_some hs.record, ?_⟩
  simp [htitle, hrank, hs.station, hs.state]

theorem stands_of_slips {t : State} (ht : SlipsOnly s t) : Stands t x n h y ↔ Stands s x n h y := by
  rw [ht]
  exact ⟨fun hs => ⟨hs.trapped, hs.hold, hs.record, hs.state, hs.station, hs.item⟩,
    fun hs => ⟨hs.trapped, hs.hold, hs.record, hs.state, hs.station, hs.item⟩⟩

theorem trapStands_of_stands (hi : x.item = some n) (hs : Stands s x n h y) : s.trapStands x = true := by
  simp [State.trapStands, hs.trapped, hs.hold, hi, hs.record, State.confirmedOwn, hs.state, hs.station, hs.item]

theorem trapStands_of_none (hi : x.item = some n) (hs : ∀ h y, ¬ Stands s x n h y) : s.trapStands x = false := by
  refine Bool.eq_false_iff.mpr fun ht => ?_
  unfold State.trapStands at ht
  split at ht
  · next h htrap hhold =>
    split at ht
    · next y hy =>
      rw [hi, Option.getD_some] at hy
      simp only [State.confirmedOwn, hi, Bool.and_eq_true, beq_iff_eq, Option.some_inj] at ht
      obtain ⟨⟨hstate, hstation⟩, hitem⟩ := ht
      exact hs h y ⟨htrap, hhold, hy, hstate, hstation, hitem⟩
    · cases ht
  · cases ht

/-- The FINE slip of a return, if it has a fine. -/
def fineDone (s : State) (l : LaneId) (x : Txn) (n b : Nat) : State × Bool :=
  if x.fine = 0 then (s, false)
  else s.fineSlip l b n x.due.1 x.fine (s.entryOf b).count (s.entryOf b).balance (s.rules.warningMark (s.entryOf b).balance)

theorem fineDone_slipsOnly (s : State) (l : LaneId) (x : Txn) (n b : Nat) : SlipsOnly s (fineDone s l x n b).1 := by
  unfold fineDone
  split
  · rfl
  · cases hf : s.freeSlip with
    | none => rw [fineSlip_of_full hf]; rfl
    | some i =>
      rw [fineSlip_of_free hf]
      exact SlipsOnly.trans (t := s.setSlip i _) rfl (joinQueue_slipsOnly _ i)

theorem returnSlips_of_none (hb : x.borrower = some b) (hi : x.item = some n) (h : ∀ h y, ¬ Stands s x n h y) :
    s.returnSlips l x = fineDone s l x n b := by
  have hnone := trapStands_of_none hi fun z y hs => h z y ((stands_of_slips (fineDone_slipsOnly s l x n b)).mp hs)
  unfold State.returnSlips
  rw [hb, hi, Option.getD_some, Option.getD_some]
  dsimp only
  rw [← fineDone, hnone]

theorem returnSlips_of_stands (hb : x.borrower = some b) (hi : x.item = some n) (hs : Stands s x n h y) : s.returnSlips l x =
    (((fineDone s l x n b).1.holdSlip l (itemTitle n) h.rank h.borrower n).1,
      (fineDone s l x n b).2 || ((fineDone s l x n b).1.holdSlip l (itemTitle n) h.rank h.borrower n).2) := by
  have hstands := trapStands_of_stands hi ((stands_of_slips (fineDone_slipsOnly s l x n b)).mpr hs)
  unfold State.returnSlips
  rw [hb, hi, Option.getD_some, Option.getD_some]
  dsimp only
  rw [← fineDone, hstands, hs.hold]

/-- The records and the print queue as slips leave them, and whether one found no record. -/
def Slips (v : State × Bool) (records : List Slip) (queue : List Nat) (noSlip : Bool) : Prop :=
  v.1.slips.slips = records ∧ v.1.slips.queue = queue ∧ v.2 = noSlip

theorem holdSlip_slipsOnly (s : State) (l : LaneId) (title rank hb n : Nat) :
    SlipsOnly s (s.holdSlip l title rank hb n).1 := by
  cases hf : s.freeSlip with
  | none => rw [holdSlip_of_full hf]; rfl
  | some i =>
    rw [holdSlip_of_free hf]
    dsimp only
    split
    · rfl
    · exact SlipsOnly.trans (t := s.setSlip i _) rfl (joinQueue_slipsOnly _ i)

theorem pad_holdSlip (s : State) (l : LaneId) (title rank hb n : Nat) (q : PadId) :
    (s.holdSlip l title rank hb n).1.pad q = s.pad q := by
  cases hf : s.freeSlip with
  | none => rw [holdSlip_of_full hf]
  | some i =>
    rw [holdSlip_of_free hf]
    dsimp only
    split
    · cases q <;> rfl
    · rw [pad_joinQueue]
      cases q <;> rfl

theorem pad_fineDone (s : State) (l : LaneId) (x : Txn) (n b : Nat) (q : PadId) : (fineDone s l x n b).1.pad q = s.pad q := by
  unfold fineDone
  split
  · rfl
  · cases hf : s.freeSlip with
    | none => rw [fineSlip_of_full hf]
    | some i =>
      rw [fineSlip_of_free hf, pad_joinQueue]
      cases q <;> rfl

theorem returnSlips_work (hb : x.borrower = some b) (hi : x.item = some n) :
    SlipsOnly s (s.returnSlips l x).1 ∧ ∀ q, (s.returnSlips l x).1.pad q = s.pad q := by
  by_cases hstands : ∃ h y, Stands s x n h y
  · obtain ⟨h, y, hs⟩ := hstands
    rw [returnSlips_of_stands hb hi hs]
    exact ⟨(fineDone_slipsOnly s l x n b).trans (holdSlip_slipsOnly ..),
      fun q => (pad_holdSlip ..).trans (pad_fineDone s l x n b q)⟩
  · rw [returnSlips_of_none hb hi fun h y hs => hstands ⟨h, y, hs⟩]
    exact ⟨fineDone_slipsOnly s l x n b, pad_fineDone s l x n b⟩

theorem fineDone_of_none (hf : x.fine = 0) : fineDone s l x n b = (s, false) := if_pos hf

theorem fineDone_of_full (hf : x.fine ≠ 0) (hi : s.freeSlip = none) : fineDone s l x n b = (s, true) := by
  rw [fineDone, if_neg hf, fineSlip_of_full hi]

/-- The FINE slip of a return as it becomes READY. -/
def returnFine (s : State) (l : LaneId) (x : Txn) (n b : Nat) : Slip :=
  fineSlipOf s l b n x.due.1 x.fine (s.entryOf b).count (s.entryOf b).balance (s.rules.warningMark (s.entryOf b).balance)

theorem fineDone_of_free (hf : x.fine ≠ 0) (hi : s.freeSlip = some i) :
    fineDone s l x n b = ((s.setSlip i (returnFine s l x n b)).joinQueue i, false) := by
  rw [fineDone, if_neg hf, fineSlip_of_free hi, returnFine]

theorem joined_fine (hi : s.freeSlip = some i) (hq : s.slips.printer = .idleWarm → s.slips.queue = []) :
    Joined s ((s.setSlip i (returnFine s l x n b)).joinQueue i) i (returnFine s l x n b) :=
  joined_setSlip hi _ (fun _ h => nomatch h) hq

/-- A HOLD slip of a trap that stands is HELD while its notice is queued, else joins the queue. -/
theorem slips_holdSlip (hk : s.freeSlip = some k) (hs : Stands s x n h y) :
    (s.trapNoticeQueued (itemTitle n, h.rank) = true → Slips (s.holdSlip l (itemTitle n) h.rank h.borrower n)
      (s.slips.slips.set k (heldSlip s l (itemTitle n) h.rank h.borrower n)) s.slips.queue false) ∧
    (s.trapNoticeQueued (itemTitle n, h.rank) ≠ true → (s.slips.printer = .idleWarm → s.slips.queue = []) →
      Slips (s.holdSlip l (itemTitle n) h.rank h.borrower n)
        (s.slips.slips.set k { heldSlip s l (itemTitle n) h.rank h.borrower n with state := joinedState s })
        (s.slips.queue ++ [k]) false) := by
  rw [holdSlip_of_free hk]
  refine ⟨fun hq => ?_, fun hq hempty => ?_⟩
  · rw [if_pos hq]
    exact ⟨rfl, rfl, rfl⟩
  · rw [if_neg hq]
    have hj := joined_setSlip hk (heldSlip s l (itemTitle n) h.rank h.borrower n)
      (fun z hz => by cases hz; exact hs.confirmed) hempty
    exact ⟨hj.slips, hj.queue, rfl⟩

/-- What the FINE and the HOLD slip leave stands as the lane's result is written. -/
theorem returnSlipsLeave_of_slips {t : State} (hb : x.borrower = some b) (hi : x.item = some n)
    (hslips : t.slips.slips = (s.returnSlips l x).1.slips.slips) (hqueue : t.slips.queue = (s.returnSlips l x).1.slips.queue)
    (hflag : (t.lane l).result.flags.noSlip = (s.returnSlips l x).2)
    (hentry : ∀ e, t.entry? b = some e → e.count = (s.entryOf b).count ∧ e.balance = (s.entryOf b).balance) :
    s.returnSlipsLeave t l x n b := by
  have hleaves : ∀ {records queue noSlip}, Slips (s.returnSlips l x) records queue noSlip →
      t.slips.slips = records ∧ t.slips.queue = queue ∧ (t.lane l).result.flags.noSlip = noSlip := by
    rintro records queue noSlip ⟨h1, h2, h3⟩
    exact ⟨hslips.trans h1, hqueue.trans h2, hflag.trans h3⟩
  unfold State.returnSlipsLeave
  intro header started fine hold stands queued leaves e he hempty
  obtain ⟨hcount, hbalance⟩ := hentry e he
  have hfine : fine e = { returnFine s l x n b with state := joinedState s } := by
    simp only [fine, hcount, hbalance]
    rfl
  have hjoin := fun i (hf : s.freeSlip = some i) => joined_fine (l := l) (x := x) (n := n) (b := b) hf hempty
  refine ⟨fun hnone => ?_, fun h y hstands => ?_⟩
  · have hslip := returnSlips_of_none (l := l) hb hi fun h y hs =>
      hnone h y ⟨hs.trapped, hs.hold, hs.record, hs.state, hs.station, hs.item⟩
    refine ⟨fun hf => hleaves ?_, fun hf hfull => hleaves ?_, fun hf i hfree => hleaves ?_⟩
    · rw [hslip, fineDone_of_none hf]
      exact ⟨rfl, rfl, rfl⟩
    · rw [hslip, fineDone_of_full hf hfull]
      exact ⟨rfl, rfl, rfl⟩
    · rw [hslip, fineDone_of_free hf hfree, hfine]
      exact ⟨(hjoin i hfree).slips, (hjoin i hfree).queue, rfl⟩
  · obtain ⟨htrap, hhold, hrecord, hstate, hstation, hitem⟩ := hstands
    have hs : Stands s x n h y := ⟨htrap, hhold, hrecord, hstate, hstation, hitem⟩
    have hslip := returnSlips_of_stands (l := l) hb hi hs
    have hqueued : queued h ↔ s.trapNoticeQueued (itemTitle n, h.rank) = true := (trapNoticeQueued_iff _ _).symm
    refine ⟨fun hfull => hleaves ?_, fun hf i hfree => ?_, fun hf i hfree => ?_⟩
    · rw [hslip]
      by_cases hf : x.fine = 0
      · rw [fineDone_of_none hf, holdSlip_of_full hfull]
        exact ⟨rfl, rfl, rfl⟩
      · rw [fineDone_of_full hf hfull, holdSlip_of_full hfull]
        exact ⟨rfl, rfl, rfl⟩
    · obtain ⟨hheld, hready⟩ := slips_holdSlip (l := l) hfree hs
      rw [fineDone_of_none hf] at hslip
      refine ⟨fun hq => hleaves ?_, fun hq => hleaves ?_⟩
      · rw [hslip]
        exact hheld (hqueued.mp hq)
      · rw [hslip]
        exact hready (fun h => hq (hqueued.mpr h)) hempty
    · have hj := hjoin i hfree
      have hw := (stands_of_slips hj.rest).mpr hs
      rw [fineDone_of_free hf hfree] at hslip
      generalize (s.setSlip i (returnFine s l x n b)).joinQueue i = w at hj hw hslip
      have hfreeW : w.freeSlip = (s.slips.slips.set i (fine e)).findIdx? (·.state == .free) := by
        rw [State.freeSlip, hj.slips, hfine]
      have hqueuedW : w.trapNoticeQueued (itemTitle n, h.rank) = s.trapNoticeQueued (itemTitle n, h.rank) := by
        rw [hj.rest]
        rfl
      have hheldW : heldSlip w l (itemTitle n) h.rank h.borrower n = heldSlip s l (itemTitle n) h.rank h.borrower n := by
        rw [hj.rest]
        rfl
      have hslipsW : w.slips.slips = s.slips.slips.set i (fine e) := by rw [hj.slips, hfine]
      refine ⟨fun hfull => hleaves ?_, fun k hk => ?_⟩
      · rw [hslip, holdSlip_of_full (hfreeW.trans hfull)]
        exact ⟨hslipsW, hj.queue, rfl⟩
      · obtain ⟨hheld, hready⟩ := slips_holdSlip (l := l) (hfreeW.trans hk) hw
        rw [hqueuedW, hheldW, hslipsW, hj.queue] at hheld hready
        refine ⟨fun hq => hleaves ?_, fun hq => hleaves ?_⟩
        · rw [hslip]
          exact hheld (hqueued.mp hq)
        · have hdone := hready (fun h => hq (hqueued.mpr h)) fun hp => absurd hp hj.printer
          rw [joinedState, if_neg hj.printer, List.append_assoc] at hdone
          rw [hslip]
          exact hdone

end ReturnSlips

/-! ## Pulses (R156) -/

section Pulse
variable {s t u : State} {l : LaneId} {p : PadId} {form : Pulse}

theorem pad_setPad (s : State) (p : PadId) (x : Pad) : (s.setPad p x).pad p = x := by cases p <;> rfl

theorem pad_setPad_of_ne {q : PadId} (h : q ≠ p) (x : Pad) : (s.setPad p x).pad q = s.pad q := by
  cases p <;> cases q
  · exact absurd rfl h
  · rfl
  · rfl
  · exact absurd rfl h

/-- Nothing but the pad changes. -/
structure PadOnly (s t : State) : Prop where
  rest : SlipsOnly s t
  slips : t.slips.slips = s.slips.slips
  queue : t.slips.queue = s.slips.queue

theorem padOnly_setPad (s : State) (p : PadId) (x : Pad) : PadOnly s (s.setPad p x) := by cases p <;> exact ⟨rfl, rfl, rfl⟩

theorem padOnly_padPulse (s : State) (p : PadId) (form : Pulse) : PadOnly s (s.padPulse p form).1 := by
  unfold State.padPulse
  dsimp only
  split
  · exact ⟨rfl, rfl, rfl⟩
  · split
    · exact padOnly_setPad s p _
    · split
      · exact padOnly_setPad s p _
      · exact ⟨rfl, rfl, rfl⟩

theorem padPulse_of_absent (h : (s.pad p).present = false) : s.padPulse p form = (s, true) := by
  simp only [State.padPulse, h, Bool.not_false, if_true]

theorem padPulse_of_idle (h : (s.pad p).present = true) (hi : (s.pad p).pulsing = none) :
    s.padPulse p form = (s.setPad p { s.pad p with pulsing := some form }, false) := by
  simp only [State.padPulse, h, hi, Bool.not_true, Bool.false_eq_true, if_false]

theorem padPulse_of_pulsing {x : Pulse} (h : (s.pad p).present = true) (hi : (s.pad p).pulsing = some x) :
    s.padPulse p form = if (s.pad p).waiting.length < 3
      then (s.setPad p { s.pad p with waiting := (s.pad p).waiting ++ [form] }, false) else (s, true) := by
  simp only [State.padPulse, h, hi, Bool.not_true, Bool.false_eq_true, if_false]
  rfl

/-- What the request for a pulse leaves stands as the lane's result is written. -/
theorem pulseLeaves_of_padPulse {source : Source} (hpad : ∀ q, t.pad q = (s.padPulse (padOf source l) form).1.pad q)
    (hflag : (t.lane l).result.flags.notOnPad = (s.padPulse (padOf source l) form).2) :
    s.pulseLeaves t l source form := by
  unfold State.pulseLeaves
  generalize padOf source l = p at *
  have hset : ∀ y, s.padPulse p form = (s.setPad p y, false) →
      t.pad p = y ∧ (t.lane l).result.flags.notOnPad = false ∧ ∀ q, q ≠ p → t.pad q = s.pad q := by
    intro y hy
    rw [hy] at hpad hflag
    exact ⟨by rw [hpad, pad_setPad], hflag, fun q hq => by rw [hpad, pad_setPad_of_ne hq]⟩
  have hoff : s.padPulse p form = (s, true) →
      t.pad p = s.pad p ∧ (t.lane l).result.flags.notOnPad = true ∧ ∀ q, q ≠ p → t.pad q = s.pad q := by
    intro hy
    rw [hy] at hpad hflag
    exact ⟨hpad p, hflag, fun q _ => hpad q⟩
  refine ⟨fun h => hoff (padPulse_of_absent h), fun h => ⟨fun hi => hset _ (padPulse_of_idle h hi), fun x hi => ?_⟩⟩
  have hpulse := padPulse_of_pulsing (form := form) h hi
  exact ⟨fun hlt => hset _ (by rw [hpulse, if_pos hlt]), fun hle => hoff (by rw [hpulse, if_neg (by omega)])⟩

theorem pulseLeaves_congr (h : ∀ q, s.pad q = u.pad q) {source : Source} (ht : s.pulseLeaves t l source form) :
    u.pulseLeaves t l source form := by
  unfold State.pulseLeaves at *
  simp only [h] at ht
  exact ht

end Pulse

end Sys2Proof.Proofs

/-! A verified append completes a payment, a loan, a return, a renewal, a block or a lift (R33, R36, R38, R41, R42). -/

namespace Sys2Proof.Proofs
open Sys2Proof Sys2Proof.Machine

section Completed
variable {s u v w : State} {r : JournalRecord} {l : LaneId} {b n : Nat} {x : Txn} {e g : Entry} {i : ItemEntry} {m : Notice}
  {res : Result} {basis : Basis} {loan : Option LoanPart}

/-- Work completed by a result is the end of the append: nothing waits at the memory port. -/
theorem exec_append_of_written {src : Source} {p : Port}
    (hexec : exec (.appendComplete .verified) s = .next (State.grant ((appended s r p).appendDone r.lane)))
    (hw : s.memory.waiting = []) (hdone : (appended s r p).appendDone r.lane = v.writeResult r.lane src res)
    (hmem : v.memory = (appended s r p).memory) (hp : (v.lane r.lane).endPending = false) :
    ∃ t, exec (.appendComplete .verified) s = .next t ∧ Wrote v t r.lane res := by
  have hwrote := wrote_writeResult hp src res
  refine ⟨_, ?_, hwrote⟩
  rw [hexec, hdone, grant_of_no_waiting (by rw [hwrote.memory, hmem]; exact hw)]

/-- The own entry changed, the own item written, and the notice handed. -/
def noted (u : State) (st : Standing) (l : LaneId) (i : ItemEntry) (m : Notice) : State := { u with
  standing := st, overlay := itemWritten u.overlay l i, line := { u.line with s := u.line.s ++ [m] } }

/-- A lane's item written for its completed work, and the notice of the own change handed. -/
def ownNoted (w : State) (l : LaneId) (b : Nat) (i : ItemEntry) (body : TallyPart → Body) : State :=
  let t := w.ownWrite l i.item i.basis i.loan i.stamp
  t.notify i.stamp (body (t.entryOf b).tallyPart)

theorem ownNoted_eq {body : TallyPart → Body} (hw : EntryWork u w b) (he : HoldsEntry w b g) (hi : i.station = u.number)
    (hroom : (u.item? i.item).isSome = true ∨ u.overlay.used ≤ 8192 ∧ u.overlay.room l = true)
    (hs : u.line.s.length < 32) (hc : ∀ p, kindClass (body p) = .s) :
    ownNoted w l b i body = noted u w.standing l i ⟨i.stamp, 255, body ⟨b, g.own.loans, g.own.balance⟩⟩ := by
  obtain ⟨st, hst⟩ : ∃ st, w = { u with standing := st } := ⟨_, hw.frame⟩
  subst hst
  obtain ⟨n, basis, loan, station, k⟩ := i
  obtain rfl : station = u.number := hi
  unfold ownNoted
  dsimp only
  rw [ownWrite_of_room (by exact hroom), tallyPart_of_holds (e := g) (by exact he.of_standing rfl), notify_s (hc _) (by exact hs)]
  rfl

/-- Item work is completed by the append of its record, from `s` to `t`. -/
structure ItemCompletes (s t : State) (r : JournalRecord) (b : Nat) (g : Entry) (i : ItemEntry) (body : TallyPart → Body)
    (res : Result) : Prop where
  head : t.memory.copies.head = r.number + 1
  entry : ∃ e', t.entry? b = some e' ∧ Handled g e'
  item : t.item? i.item = some i
  others : ∀ k, k ≠ i.item → t.item? k = s.item? k
  room : t.overlay.room r.lane = false
  line : t.line = { s.line with s := s.line.s ++ [⟨i.stamp, 255, body ⟨b, g.own.loans, g.own.balance⟩⟩] }
  state : (t.lane r.lane).state = .reporting
  txn : (t.lane r.lane).txn = none
  result : (t.lane r.lane).result = res
  other : t.lane (otherLane r.lane) = s.lane (otherLane r.lane)
  traps : t.traps = s.traps

theorem exec_append_of_item {src : Source} {p : Port} {body : TallyPart → Body}
    (hexec : exec (.appendComplete .verified) s = .next (State.grant ((appended s r p).appendDone r.lane)))
    (hwait : s.memory.waiting = []) (hw : EntryWork (appended s r p) w b) (he : HoldsEntry w b g) (hi : i.station = s.number)
    (hroom : (s.item? i.item).isSome = true ∨ s.overlay.used ≤ 8192 ∧ s.overlay.room r.lane = true)
    (hs : s.line.s.length < 32) (hc : ∀ p, kindClass (body p) = .s)
    (hv : SlipChange (ownNoted w r.lane b i body) v r.lane)
    (hdone : (appended s r p).appendDone r.lane = v.writeResult r.lane src res) (hp : (s.lane r.lane).endPending = false) :
    ∃ t, exec (.appendComplete .verified) s = .next t ∧ ItemCompletes s t r b g i body res ∧ t.slips = v.slips ∧
      (t.lane r.lane).session = (v.lane r.lane).session ∧ HoldsEntry v b g := by
  rw [ownNoted_eq hw he hi hroom hs hc] at hv
  have hlane : ∀ k, (noted (appended s r p) w.standing r.lane i ⟨i.stamp, 255, body ⟨b, g.own.loans, g.own.balance⟩⟩).lane k =
      s.lane k := fun k => by cases k <;> rfl
  have hmem : v.memory = (appended s r p).memory := by rw [hv.rest]; rfl
  have hpend : (v.lane r.lane).endPending = false := by
    obtain ⟨ss, hl⟩ := hv.lane
    rw [hl, hlane]
    exact hp
  obtain ⟨t, ht, hwrote⟩ := exec_append_of_written hexec hwait hdone hmem hpend
  have hoverlay : t.overlay = itemWritten s.overlay r.lane i := by rw [hwrote.overlay, hv.rest]; rfl
  have hholds : HoldsEntry v b g := he.of_standing (by rw [hv.rest]; rfl)
  refine ⟨t, ht, ⟨?_, ?_, item?_of_written hoverlay rfl, fun k hk => item?_of_written_ne hoverlay (Ne.symm hk), ?_, ?_,
    hwrote.state, hwrote.txn, hwrote.result, ?_, ?_⟩, hwrote.slips, hwrote.session, hholds⟩
  · rw [hwrote.memory, hmem]
    rfl
  · exact hwrote.table.entry b g hholds
  · rw [hoverlay, room_itemWritten]
  · rw [hwrote.line, hv.rest]
    rfl
  · rw [hwrote.other, hv.other, hlane]
  · rw [hwrote.traps, hv.rest]
    rfl

/-- What a line leaves is a matter of the slip unit, the lane and the clock alone. -/
theorem itemDueLeaves_of_noted {t : State} {p : Port} {st : Standing} {y : State × Bool} {due : Nat × Nat}
    (hy : (noted (appended s r p) st l i m).itemDueLine l n due.1 due.2 = y) (hslips : t.slips.slips = y.1.slips.slips)
    (hqueue : t.slips.queue = y.1.slips.queue) (hsession : (t.lane l).session = (y.1.lane l).session)
    (hflag : (t.lane l).result.flags.noSlip = y.2) : s.itemDueLeaves t l n due := by
  subst hy
  have h := itemDueLeaves_of_line hslips hqueue hsession hflag
  cases l <;> exact h

theorem pad_noted {p : Port} {st : Standing} (q : PadId) : (noted (appended s r p) st l i m).pad q = s.pad q := by
  cases q <;> rfl

@[simp] theorem setReserved_own (e : Entry) (l : LaneId) (v : Bool) : (e.setReserved l v).own = e.own := by cases l <;> rfl

theorem pad_of_slips {s t : State} (h : t.slips = s.slips) (q : PadId) : t.pad q = s.pad q := by
  cases q
  · exact congrArg SlipUnit.pad0 h
  · exact congrArg SlipUnit.pad1 h

theorem balance_of_holds (h : HoldsEntry s b e) : (s.entryOf b).balance = e.balance := by
  obtain ⟨f, hf, hh⟩ := h
  rw [entryOf_of_entry hf, hh.balance]

theorem count_of_holds (h : HoldsEntry s b e) : (s.entryOf b).count = e.count := by
  obtain ⟨f, hf, hh⟩ := h
  rw [entryOf_of_entry hf, hh.count]

/-! ## The completions -/

/-- Borrower work is completed by the append of its record, from `s` to `t`, with the own entry as `g`. -/
structure EntryCompletes (s t : State) (r : JournalRecord) (p : Port) (b : Nat) (g : Entry) (line : LineCtl) (res : Result) :
    Prop where
  entry : ∃ e', t.entry? b = some e' ∧ Handled g e'
  memory : t.memory = (appended s r p).memory
  attached : t.attached = (appended s r p).attached
  line : t.line = line
  state : (t.lane r.lane).state = .reporting
  txn : (t.lane r.lane).txn = none
  result : (t.lane r.lane).result = res
  other : t.lane (otherLane r.lane) = s.lane (otherLane r.lane)
  overlay : t.overlay = s.overlay
  traps : t.traps = s.traps

theorem exec_append_of_entry {src : Source} {p : Port} {line : LineCtl} (hwait : s.memory.waiting = []) (hw : EntryWork (appended s r p) w b) (he : HoldsEntry w b g)
    (hexec : exec (.appendComplete .verified) s = .next (State.grant ((appended s r p).appendDone r.lane)))
    (hdone : (appended s r p).appendDone r.lane = State.writeResult { w with line := line } r.lane src res)
    (hp : (s.lane r.lane).endPending = false) :
    ∃ t, exec (.appendComplete .verified) s = .next t ∧ EntryCompletes s t r p b g line res := by
  obtain ⟨st, rfl⟩ : ∃ st, w = { appended s r p with standing := st } := ⟨_, hw.frame⟩
  have hlane : ∀ k, State.lane { appended s r p with standing := st, line := line } k = s.lane k := fun k => by cases k <;> rfl
  obtain ⟨t, ht, hwrote⟩ := exec_append_of_written hexec hwait hdone rfl (by rw [hlane, hp])
  exact ⟨t, ht, hwrote.table.entry b g (he.of_standing rfl), hwrote.memory, hwrote.attached, hwrote.line, hwrote.state,
    hwrote.txn, hwrote.result, by rw [hwrote.other, hlane], hwrote.overlay, hwrote.traps⟩

/-- The result of a completed payment. -/
def paymentResult (v : State) (l : LaneId) (x : Txn) (b : Nat) : Result :=
  { v.plainResult l .payment .done .none with
    amount := some x.amount, balance := some (v.entryOf b).balance, blocks := v.txnBlocks x
    flags := { ResultFlags.clear with warning := v.warningFor (v.entryOf b).balance } }

theorem paymentDone_eq (hb : x.borrower = some b) (hs : u.line.s.length < 32)
    (hg : HoldsEntry (u.ownChange b 0 (-(x.amount : Int)) x.stamp) b g) {v : State}
    (hv : { u.ownChange b 0 (-(x.amount : Int)) x.stamp with line := { u.line with
      s := u.line.s ++ [⟨x.stamp, 255, .payment ⟨b, g.own.loans, g.own.balance⟩⟩] } } = v) :
    u.paymentDone l x = v.writeResult l x.source (paymentResult v l x b) := by
  obtain ⟨st, hst⟩ : ∃ st, u.ownChange b 0 (-(x.amount : Int)) x.stamp = { u with standing := st } :=
    ⟨_, (entryWork_ownChange 0 (-(x.amount : Int)) x.stamp).frame⟩
  subst hv
  rw [hst] at hg ⊢
  simp only [State.paymentDone, hb, Option.getD_some, hst]
  rw [tallyPart_of_holds hg, notify_s (by rfl) (by exact hs)]
  rfl

theorem written_of_awaiting {y : BlockRecord} {a : BlockAction} {k own : Nat} {heard : Bool} (h : y.awaiting = [⟨a, k, heard⟩]) :
    y.written own a k = ⟨if heard then y.state else BlockAction.state a own k, []⟩ := by
  have hsettled : y.settled k = ⟨y.state, []⟩ := by simp [BlockRecord.settled, h]
  have hawaits : y.awaits k = some ⟨a, k, heard⟩ := by simp [BlockRecord.awaits, h]
  simp only [BlockRecord.written, hsettled, hawaits, Option.map_some, Option.getD_some]
  split
  all_goals rfl

theorem written_of_none {y : BlockRecord} {a : BlockAction} {k own : Nat} (h : y.awaiting = []) :
    y.written own a k = ⟨BlockAction.state a own k, []⟩ := by
  simp [BlockRecord.written, BlockRecord.settled, BlockRecord.awaits, h]

/-- The result of a completed block or lift. -/
def blockResult (v : State) (l : LaneId) (x : Txn) : Result :=
  { v.plainResult l x.operation .done .none with blocks := v.txnBlocks x }

/-- The borrower's entry with the own action of a completed block or lift on its record. -/
def blockedEntry (u : State) (x : Txn) (e : Entry) : Entry :=
  (e.setRecord x.blockReason
    ((e.record x.blockReason).written u.number (BlockAction.ofOperation x.operation) x.stamp)).ownChange
      u.reckoner.active 0 0 x.stamp

theorem blockedEntry_borrower (u : State) (x : Txn) (e : Entry) : (blockedEntry u x e).borrower = e.borrower := by
  rw [blockedEntry, ownChange_borrower, setRecord_borrower]

section BlockedEntry
variable (u : State) (x : Txn) (e : Entry)

theorem blockedEntry_own : (blockedEntry u x e).own =
    ⟨clampLoans e.own.loans, clampBalance e.own.balance, max e.own.stamp x.stamp⟩ := by
  rw [blockedEntry, ownChange_own, add_zero, add_zero]
  cases x.blockReason <;> rfl

theorem blockedEntry_roll : (blockedEntry u x e).roll = e.roll := by
  rw [blockedEntry, ownChange_roll]
  cases x.blockReason <;> rfl

theorem blockedEntry_peers : (blockedEntry u x e).peers = e.peers := by
  rw [blockedEntry, ownChange_peers]
  cases x.blockReason <;> rfl

theorem blockedEntry_record : (blockedEntry u x e).record x.blockReason =
    (e.record x.blockReason).written u.number (BlockAction.ofOperation x.operation) x.stamp := by
  rw [blockedEntry, ownChange_record, record_setRecord]

theorem blockedEntry_record_other :
    (blockedEntry u x e).record (otherReason x.blockReason) = e.record (otherReason x.blockReason) := by
  rw [blockedEntry, ownChange_record, record_setRecord_other]

end BlockedEntry

/-- The own action on the record (R69, R76). -/
theorem ownBlock_eq (u : State) (x : Txn) (b : Nat) :
    u.ownBlock b x.blockReason (BlockAction.ofOperation x.operation) x.stamp = u.useEntry b (blockedEntry u x) := rfl

theorem awaitingOwn_of_entry (hb : x.borrower = some b) (he : u.entry? b = some e) :
    u.awaitingOwn x = ((e.record x.blockReason).awaits x.stamp).isSome := awaitingOwn_of_holds (.of_entry he) hb

/-- The line as a block or lift completes: a notice is handed where none was sent. -/
def blockLine (u : State) (x : Txn) (b : Nat) (g : Entry) (sent : Bool) : LineCtl :=
  if sent then u.line else { u.line with u := u.line.u ++
    [⟨x.stamp, 255, .block ⟨b, g.own.loans, g.own.balance⟩ (BlockAction.ofOperation x.operation) x.blockReason⟩] }

theorem blockLine_congr {sent : Bool} {g' : Entry} (h : g.own = g'.own) : blockLine u x b g sent = blockLine u x b g' sent := by
  rw [blockLine, blockLine, h]

theorem blockDone_eq {sent : Bool} (hb : x.borrower = some b) (hs : u.awaitingOwn x = sent)
    (hroom : sent = false → u.line.u.length < 8) (hg : HoldsEntry (u.useEntry b (blockedEntry u x)) b g) {v : State}
    (hv : { u.useEntry b (blockedEntry u x) with line := blockLine u x b g sent } = v) :
    u.blockDone l x = v.writeResult l x.source (blockResult v l x) := by
  obtain ⟨st, hst⟩ : ∃ st, u.useEntry b (blockedEntry u x) = { u with standing := st } := ⟨_, useEntry_frame u b _⟩
  subst hv
  simp only [State.blockDone, hb, hs, Option.getD_some, ownBlock_eq]
  rw [hst] at hg ⊢
  cases sent with
  | true => rfl
  | false =>
    rw [if_neg Bool.false_ne_true, tallyPart_of_holds hg, notify_u (by rfl) (by exact hroom rfl)]
    rfl

/-- The result of a completed loan. -/
def loanResult (v : State) (l : LaneId) (x : Txn) (b n : Nat) (noSlip notOnPad : Bool) : Result :=
  { v.plainResult l .lend .done .none with
    borrower := some b, item := some n, due := some x.due, balance := some (v.entryOf b).balance
    count := some ((v.entryOf b).count, v.limitInForce (v.entryOf b).roll.category), blocks := v.txnBlocks x
    flags := { ResultFlags.clear with
      warning := v.warningFor (v.entryOf b).balance, noSlip := noSlip, notOnPad := notOnPad } }

/-- The own tally and the reservation as a loan completes. -/
def loanTallied (u : State) (l : LaneId) (x : Txn) (b : Nat) : State := (u.ownChange b 1 0 x.stamp).releaseReservation l b

theorem loanDone_eq (hb : x.borrower = some b) (hi : x.item = some n) (hf : x.found = some ⟨basis, none⟩) {y z : State × Bool}
    (hy : (ownNoted (loanTallied u l x b) l b ⟨n, basis, some ⟨b, x.due.1, x.due.2, 0⟩, u.number, x.stamp⟩
      fun q => .loan q n basis x.due.1 x.due.2 0).itemDueLine l n x.due.1 x.due.2 = y)
    (hz : y.1.padPulse (padOf x.source l) .desensitise = z) :
    u.loanDone l x = z.1.writeResult l x.source (loanResult z.1 l x b n y.2 z.2) := by
  subst hz hy
  simp only [State.loanDone, hb, hi, hf, Option.getD_some, Option.map_some]
  rfl

end Completed

/-- Settles O34, by the lane's completion at the state whose append is verified. -/
theorem appendsCompletePaymentsAndLoans : Obligations.AppendsCompletePaymentsAndLoans := by
  refine ⟨fun r b x e s hbusy hwait hwf hk hx hop hb hstamp he hp hs => ?_,
    fun r b n basis x e s hbusy hwait hk hx hop hb hi hf hstamp he hp hs hroom => ?_,
    fun r b x e lifts s hbusy hwait hx hop hb hstamp he hp => ?_⟩
  · obtain ⟨p, hexec⟩ := exec_append hbusy
    have hdone : (appended s r p).appendDone r.lane = (appended s r p).paymentDone r.lane x := by
      simp only [State.appendDone, lane_appended, hx, hop]
    have hw : EntryWork (appended s r p) ((appended s r p).ownChange b 0 (-(x.amount : Int)) x.stamp) b :=
      entryWork_ownChange 0 (-(x.amount : Int)) x.stamp
    have hg := HoldsEntry.ownChange (s := appended s r p) 0 (-(x.amount : Int)) x.stamp he
    obtain ⟨t, ht, hc⟩ := exec_append_of_entry hwait hw hg hexec
      (hdone.trans (paymentDone_eq (u := appended s r p) hb (by exact hs) hg rfl)) hp
    obtain ⟨e', he', hh⟩ := hc.entry
    have hown : e'.own = ⟨clampLoans e.own.loans, clampBalance (e.own.balance - x.amount), max e.own.stamp r.stamp⟩ := by
      rw [hh.own, ownChange_own, add_zero, ← sub_eq_add_neg, hstamp]
    refine ⟨t, ht, ?_, ?_, fun a ha => ?_, hc.memory, ⟨e', he', hown, ?_, ?_, ?_, ?_⟩, hc.state, hc.txn, ?_, ?_, ?_,
      hc.other, hc.overlay, hc.traps⟩
    · rw [hc.attached]
      rfl
    · rw [State.slotBytes, State.readBytes, hc.attached]
      exact slotBytes_appended hwf p
    · rw [hc.attached]
      exact read_appended_outside hwf p ha
    · rw [hh.roll, ownChange_roll]
    · rw [hh.peers, ownChange_peers]
    · rw [hc.line, hh.own, hstamp]
      rfl
    · rw [hc.result, hh.balance, ← balance_of_holds hg]
      rfl
    iterate 3
      rw [hc.result]
      rfl
  · have hroom' : (s.item? n).isSome = true ∨ s.overlay.used ≤ 8192 ∧ s.overlay.room r.lane = true := hroom
    obtain ⟨p, hexec⟩ := exec_append hbusy
    have hdone : (appended s r p).appendDone r.lane = (appended s r p).loanDone r.lane x := by
      simp only [State.appendDone, lane_appended, hx, hop]
    have hw : EntryWork (appended s r p) (loanTallied (appended s r p) r.lane x b) b :=
      (entryWork_ownChange 1 0 x.stamp).trans (entryWork_releaseReservation r.lane)
    have hg := (HoldsEntry.ownChange (s := appended s r p) 1 0 x.stamp he).releaseReservation (l := r.lane)
    generalize hy : (ownNoted (loanTallied (appended s r p) r.lane x b) r.lane b
      ⟨n, basis, some ⟨b, x.due.1, x.due.2, 0⟩, (appended s r p).number, x.stamp⟩
      fun q => .loan q n basis x.due.1 x.due.2 0).itemDueLine r.lane n x.due.1 x.due.2 = y
    generalize hz : y.1.padPulse (padOf x.source r.lane) .desensitise = z
    have hline := slipWork_itemDueLine (ownNoted (loanTallied (appended s r p) r.lane x b) r.lane b
      ⟨n, basis, some ⟨b, x.due.1, x.due.2, 0⟩, (appended s r p).number, x.stamp⟩
      fun q => .loan q n basis x.due.1 x.due.2 0) r.lane n x.due.1 x.due.2
    have hpad := padOnly_padPulse y.1 (padOf x.source r.lane) .desensitise
    rw [hy] at hline
    rw [hz] at hpad
    obtain ⟨t, ht, hc, hslips, hsession, -⟩ := exec_append_of_item hexec hwait hw hg rfl hroom' hs (fun _ => rfl)
      (hline.toSlipChange.trans (hpad.rest.slipChange _)) (hdone.trans (loanDone_eq hb hi hf hy hz)) hp
    obtain ⟨e', he', hh⟩ := hc.entry
    rw [ownNoted_eq hw hg (by rfl) (by exact hroom') (by exact hs) (by exact fun _ => rfl)] at hline hy
    have hown : e'.own = ⟨clampLoans (e.own.loans + 1), clampBalance (e.own.balance + 0), max e.own.stamp x.stamp⟩ := by
      rw [hh.own, setReserved_own, ownChange_own]
    refine ⟨t, ht, hc.head, ⟨e', he', by rw [hown], by rw [hown, add_zero], by rw [hown, hstamp], ?_, ?_⟩, ?_, hc.others,
      hc.room, hc.state, hc.txn, ?_, ?_, ?_, ?_, ?_, hc.other, hc.traps, ?_, ?_⟩
    · exact (hh.reserved r.lane).trans (reserved_setReserved _ r.lane false)
    · rw [hh.own, ← hstamp]
      exact hc.line
    · rw [← hstamp]
      exact hc.item
    iterate 5
      rw [hc.result]
      rfl
    · refine itemDueLeaves_of_noted hy (by rw [hslips, hpad.slips]) (by rw [hslips, hpad.queue])
        (by rw [hsession, hpad.rest.lane]) (by rw [hc.result]; rfl)
    · refine pulseLeaves_congr (fun q => (hline.pad q).trans (pad_noted q)) (pulseLeaves_of_padPulse (fun q => ?_) ?_)
      · rw [hz, pad_of_slips hslips]
      · rw [hz, hc.result]
        rfl
  · intro action applied record completes
    have hrecord : ∀ y, record y = y.record x.blockReason := fun _ => rfl
    have hother : ∀ y : Entry, y.record (otherReason x.blockReason) = e.record (otherReason x.blockReason) →
        (match x.blockReason with
          | .lost => y.staff = e.staff
          | .staff => y.lost = e.lost) := fun y hy => by
      cases hwhy : x.blockReason <;> rw [hwhy] at hy <;> exact hy
    have haction : BlockAction.ofOperation x.operation = action := by rw [hop]; cases lifts <;> rfl
    have happlied : BlockAction.state action s.number r.stamp = applied := by cases lifts <;> rfl
    obtain ⟨p, hexec⟩ := exec_append hbusy
    have hdone : (appended s r p).appendDone r.lane = (appended s r p).blockDone r.lane x := by
      cases lifts <;> simp [State.appendDone, lane_appended, hx, hop]
    have hkey : ∀ sent state, (appended s r p).awaitingOwn x = sent → (sent = false → s.line.u.length < 8) →
        (e.record x.blockReason).written s.number action x.stamp = ⟨state, []⟩ →
        completes state fun e' => blockLine s x b e' sent := by
      intro sent state hsent hroom hwritten
      have hg := HoldsEntry.of_use (s := appended s r p) (f := blockedEntry (appended s r p) x) he fun _ => blockedEntry_borrower _ _ _
      obtain ⟨t, ht, hc⟩ := exec_append_of_entry hwait (.useEntry _ fun _ => blockedEntry_borrower _ _ _) hg hexec
        (hdone.trans (blockDone_eq hb hsent hroom hg rfl)) hp
      obtain ⟨e', he', hh⟩ := hc.entry
      refine ⟨t, e', ht, ?_, he', ?_, hother e' ?_, ?_, ?_, ?_, ?_, hc.state, hc.txn, ?_, ?_, ?_, hc.other, hc.overlay, hc.traps⟩
      · rw [hc.memory]
        rfl
      · rw [hrecord, hh.record, blockedEntry_record]
        rw [← hwritten, ← haction]
        rfl
      · rw [hh.record, blockedEntry_record_other]
      · rw [hh.own, blockedEntry_own, hstamp]
      · rw [hh.roll, blockedEntry_roll]
      · rw [hh.peers, blockedEntry_peers]
      · exact hc.line.trans (blockLine_congr hh.own.symm)
      · rw [hc.result]
        rfl
      · rw [hc.result]
        rfl
      · rw [hc.result, hh.blockSet]
        refine (txnBlocks_of_holds hg hb).trans ?_
        rw [useEntry_frame]
        rfl
    have hawaiting : (appended s r p).awaitingOwn x = ((e.record x.blockReason).awaits x.stamp).isSome :=
      awaitingOwn_of_entry hb he
    refine ⟨fun heard hawait => ?_, fun hawait hlen => ?_⟩
    · have hawait' : (e.record x.blockReason).awaiting = [⟨action, x.stamp, heard⟩] := by rw [hstamp]; exact hawait
      refine hkey true _ ?_ (fun h => nomatch h) ?_
      · rw [hawaiting, BlockRecord.awaits, hawait']
        simp
      · rw [written_of_awaiting hawait', hstamp, happlied]
        rfl
    · have hnone : (e.record x.blockReason).awaiting = [] := hawait
      have hdone := hkey false applied (by rw [hawaiting, BlockRecord.awaits, hnone]; rfl) (fun _ => hlen)
        (by rw [written_of_none hnone, hstamp, happlied])
      simp only [blockLine, haction, hstamp] at hdone
      exact hdone

end Sys2Proof.Proofs

/-! A verified append completes a return or a renewal (R36, R38). -/

namespace Sys2Proof.Proofs
open Sys2Proof Sys2Proof.Machine

section Completed
variable {u : State} {l : LaneId} {b n : Nat} {x : Txn} {basis : Basis} {a : LoanPart}

/-- The result of a completed return. -/
def returnResult (v : State) (l : LaneId) (x : Txn) (b n : Nat) (noSlip notOnPad : Bool) : Result :=
  { v.plainResult l .ret .done .none with
    borrower := some b, item := some n, amount := some x.fine, balance := some (v.entryOf b).balance
    blocks := v.txnBlocks x
    flags :=
      { warning := v.warningFor (v.entryOf b).balance, noSlip := noSlip, notOnPad := notOnPad
        holdTrapped := x.trap == .trapped, holdUnconfirmed := x.trap == .unconfirmed
        holdNotChecked := x.trap == .notChecked } }

theorem returnDone_eq (hb : x.borrower = some b) (hi : x.item = some n) (hf : x.found = some ⟨basis, some a⟩) {y z : State × Bool}
    (hy : (ownNoted (u.ownChange b (-1) x.fine x.stamp) l b ⟨n, basis, none, u.number, x.stamp⟩
      fun q => .ret q n basis).returnSlips l x = y)
    (hz : y.1.padPulse (padOf x.source l) .resensitise = z) :
    u.returnDone l x = z.1.writeResult l x.source (returnResult z.1 l x b n y.2 z.2) := by
  subst hz hy
  simp only [State.returnDone, hb, hi, hf, Option.getD_some, Option.map_some]
  rfl

/-- The result of a completed renewal. -/
def renewResult (v : State) (l : LaneId) (x : Txn) (b n : Nat) (noSlip : Bool) : Result :=
  { v.plainResult l .renew .done .none with
    borrower := some b, item := some n, due := some x.due, renewCount := some (x.renewRead + 1)
    amount := some x.fine, balance := some (v.entryOf b).balance, blocks := v.txnBlocks x
    flags := { ResultFlags.clear with warning := v.warningFor (v.entryOf b).balance, noSlip := noSlip } }

theorem renewDone_eq (hb : x.borrower = some b) (hi : x.item = some n) (hf : x.found = some ⟨basis, some a⟩) {y : State × Bool}
    (hy : (ownNoted (u.ownChange b 0 x.fine x.stamp) l b
      ⟨n, basis, some ⟨b, x.due.1, x.due.2, x.renewRead + 1⟩, u.number, x.stamp⟩
      fun q => .renew q n basis x.due.1 x.due.2 (x.renewRead + 1)).itemDueLine l n x.due.1 x.due.2 = y) :
    u.renewDone l x = y.1.writeResult l x.source (renewResult y.1 l x b n y.2) := by
  subst hy
  simp only [State.renewDone, hb, hi, hf, Option.getD_some, Option.map_some]
  rfl

end Completed

/-! ## The kind of a slip that joins the queue -/

section Kind
variable {s : State} {i : Nat} {k : Option SlipKind}

/-- Slip `i` is of a kind, and no HOLD slip: the printer gives up no such slip. -/
def HasKind (s : State) (i : Nat) (k : Option SlipKind) : Prop :=
  i < s.slips.slips.length ∧ (s.slip i).hold = none ∧ (s.slip i).kind = k

theorem HasKind.of_slips {t : State} (h : HasKind s i k) (hs : t.slips.slips = s.slips.slips) : HasKind t i k := by
  have hslip : t.slip i = s.slip i := by rw [State.slip, hs, State.slip]
  rw [HasKind, hs, hslip]
  exact h

theorem HasKind.setSlip_ne (h : HasKind s i k) {j : Nat} (hj : j ≠ i) (x : Slip) : HasKind (s.setSlip j x) i k := by
  rw [HasKind, slip_setSlip_ne s hj x]
  exact ⟨by simpa [State.setSlip] using h.1, h.2⟩

theorem HasKind.setState (h : HasKind s i k) (j : Nat) (st : SlipState) : HasKind (s.setSlip j { s.slip j with state := st }) i k := by
  by_cases hj : j = i
  · subst hj
    rw [HasKind, slip_setSlip_same h.1]
    exact ⟨by simpa [State.setSlip] using h.1, h.2⟩
  · exact h.setSlip_ne hj _

theorem HasKind.startPrint (fuel : Nat) (h : HasKind s i k) : HasKind (s.startPrint fuel) i k := by
  induction fuel generalizing s with
  | zero => exact h.of_slips rfl
  | succ fuel ih =>
    unfold State.startPrint
    split
    · exact h.of_slips rfl
    next j rest _ =>
      dsimp only
      split
      next hold hh =>
        split
        · exact (h.setState j .printing).of_slips rfl
        · have hji : j ≠ i := by
            rintro rfl
            rw [h.2.1] at hh
            cases hh
          exact ih ((h.setSlip_ne hji .free).of_slips rfl)
      · exact (h.setState j .printing).of_slips rfl

theorem HasKind.joinQueue (h : HasKind s i k) : HasKind (s.joinQueue i) i k := by
  have hready : HasKind ((s.setSlip i { s.slip i with state := .ready }).setQueue (s.slips.queue ++ [i])) i k :=
    (h.setState i .ready).of_slips rfl
  rw [State.joinQueue]
  generalize (s.setSlip i _).setQueue _ = t at hready
  by_cases hp : t.slips.printer = .idleWarm
  · rw [settlePrinter_of_idle hp]
    exact (hready.startPrint 9).of_slips (settleUnload_slips _).1
  · obtain ⟨p, w, -, hs⟩ := settlePrinter_of_cold hp
    rw [hs]
    exact hready.of_slips rfl

/-- The FINE slip of a return is queued, whatever the printer does at once. -/
theorem queued_returnFine {l : LaneId} {x : Txn} {n b : Nat} (hi : s.freeSlip = some i) :
    SlipQueued ((s.setSlip i (returnFine s l x n b)).joinQueue i) i (returnFine s l x n b).lines ∧
      (((s.setSlip i (returnFine s l x n b)).joinQueue i).slip i).kind = some .fine := by
  have hlt := lt_of_freeSlip hi
  have hslip := slip_setSlip_same hlt (returnFine s l x n b)
  have hbound : i < (s.setSlip i (returnFine s l x n b)).slips.slips.length := by simpa [State.setSlip] using hlt
  have hqueued := slipQueued_joinQueue hbound (by rw [hslip]; rfl)
  rw [hslip] at hqueued
  have hkind : HasKind (s.setSlip i (returnFine s l x n b)) i (some .fine) := ⟨hbound, by rw [hslip]; rfl, by rw [hslip]; rfl⟩
  exact ⟨hqueued, hkind.joinQueue.2.2⟩

end Kind

/-! ## The obligation -/

/-- What the results of a completed return and a completed renewal have in common. -/
structure ItemResult (x : Txn) (b n : Nat) (g : Entry) (res : Result) : Prop where
  cls : res.cls = .done
  operation : res.operation = x.operation
  borrower : res.borrower = some b
  item : res.item = some n
  amount : res.amount = some x.fine
  balance : res.balance = some g.balance

/-- Settles O35, by the lane's completion at the state whose append is verified. -/
theorem appendsCompleteReturnsAndRenewals : Obligations.AppendsCompleteReturnsAndRenewals := by
  intro r b n basis a x e s hbusy hwait hx hb hi hf hstamp he hp hs hroom completes
  have hroom' : (s.item? n).isSome = true ∨ s.overlay.used ≤ 8192 ∧ s.overlay.room r.lane = true := hroom
  obtain ⟨p, hexec⟩ := exec_append hbusy
  have hcompletes : ∀ {loans : Int} {loan : Option LoanPart} {body : TallyPart → Body} {holds : State → Prop} {t : State}
      {res : Result} {g : Entry}, g = e.ownChange s.reckoner.active loans x.fine x.stamp →
      exec (.appendComplete .verified) s = .next t → ItemCompletes s t r b g ⟨n, basis, loan, s.number, x.stamp⟩ body res →
      ItemResult x b n g res → holds t → completes loans loan body holds := by
    intro loans loan body holds t res g hg ht hc hres hholds
    obtain ⟨e', he', hh⟩ := hc.entry
    have hown := hh.own
    rw [hg, ownChange_own, hstamp] at hown
    have hitem := hc.item
    have hline := hc.line
    rw [hstamp] at hitem hline
    refine ⟨t, e', ht, hc.head, he', hown, hitem, hc.others, hc.room, by rw [hline, hh.own], hc.state, hc.txn, ?_, ?_, ?_, ?_,
      ?_, ?_, hc.other, hc.traps, hholds⟩
    all_goals rw [hc.result]
    · exact hres.cls
    · exact hres.operation
    · exact hres.borrower
    · exact hres.item
    · exact hres.amount
    · rw [hh.balance, hres.balance]
  refine ⟨fun hop => ?_, fun hop => ?_⟩
  · have hdone : (appended s r p).appendDone r.lane = (appended s r p).returnDone r.lane x := by
      simp only [State.appendDone, lane_appended, hx, hop]
    have hw : EntryWork (appended s r p) ((appended s r p).ownChange b (-1) x.fine x.stamp) b := entryWork_ownChange (-1) x.fine x.stamp
    have hg := HoldsEntry.ownChange (s := appended s r p) (-1) x.fine x.stamp he
    generalize hy : (ownNoted ((appended s r p).ownChange b (-1) x.fine x.stamp) r.lane b
      ⟨n, basis, none, (appended s r p).number, x.stamp⟩ fun q => .ret q n basis).returnSlips r.lane x = y
    generalize hz : y.1.padPulse (padOf x.source r.lane) .resensitise = z
    obtain ⟨hslip, hpads⟩ := returnSlips_work (s := ownNoted ((appended s r p).ownChange b (-1) x.fine x.stamp) r.lane b
      ⟨n, basis, none, (appended s r p).number, x.stamp⟩ fun q => .ret q n basis) (l := r.lane) hb hi
    have hpad := padOnly_padPulse y.1 (padOf x.source r.lane) .resensitise
    rw [hy] at hslip hpads
    rw [hz] at hpad
    obtain ⟨t, ht, hc, hslips, -, hholds⟩ := exec_append_of_item hexec hwait hw hg rfl hroom' hs (fun _ => rfl)
      ((hslip.trans hpad.rest).slipChange _) (hdone.trans (returnDone_eq hb hi hf hy hz)) hp
    refine hcompletes (by rfl) ht hc ⟨rfl, hop.symm, rfl, rfl, rfl, congrArg some (balance_of_holds hholds)⟩ ?_
    rw [ownNoted_eq hw hg (by rfl) (by exact hroom') (by exact hs) (by exact fun _ => rfl)] at hslip hpads hy
    generalize hN : noted _ _ _ _ _ = N at hslip hpads hy
    have hentry : ∀ f, t.entry? b = some f → f.count = (N.entryOf b).count ∧ f.balance = (N.entryOf b).balance := by
      have hholdsN : HoldsEntry N b _ := hg.of_standing (by rw [← hN]; rfl)
      obtain ⟨e', he', hh⟩ := hc.entry
      rw [he', count_of_holds hholdsN, balance_of_holds hholdsN]
      rintro f ⟨⟩
      exact ⟨hh.count, hh.balance⟩
    have hnone : x.trap ≠ .trapped → y = fineDone _ r.lane x n b := fun htrap =>
      hy.symm.trans (returnSlips_of_none hb hi fun h y hs => htrap hs.trapped)
    refine ⟨by rw [hc.result]; rfl, by rw [hc.result]; rfl, by rw [hc.result]; rfl, fun htrap hfine => ?_,
      fun htrap hfine i hfree => ?_, ?_, ?_⟩
    · rw [hslips, hpad.slips, hpad.queue, hnone htrap, fineDone_of_none hfine, ← hN]
      exact ⟨rfl, rfl⟩
    · have hfreeN : N.freeSlip = some i := by rw [← hN]; exact hfree
      have hyfine := hnone htrap
      rw [fineDone_of_free hfine hfreeN] at hyfine
      obtain ⟨hqueued, hkind⟩ := queued_returnFine (l := r.lane) (x := x) (n := n) (b := b) hfreeN
      have hslipT : t.slip i = y.1.slip i := by rw [State.slip, hslips, hpad.slips, State.slip]
      rw [hyfine] at hslipT
      refine ⟨by rw [hc.result, hyfine]; rfl, ?_, by rw [hslipT, hkind], ?_⟩
      · rw [hslips, hpad.queue, hyfine]
        exact hqueued.queued
      · rw [hslipT, hqueued.lines]
        simp [returnFine, fineSlipOf]
    · have hleave := returnSlipsLeave_of_slips (s := N) (t := t) (l := r.lane) hb hi (by rw [hy, hslips, hpad.slips])
        (by rw [hy, hslips, hpad.queue]) (by rw [hy, hc.result]; rfl) hentry
      rw [← hN] at hleave
      exact hleave
    · refine pulseLeaves_congr (fun q => (hpads q).trans (by rw [← hN, pad_noted])) (pulseLeaves_of_padPulse (fun q => ?_) ?_)
      · rw [hz, pad_of_slips hslips]
      · rw [hz, hc.result]
        rfl
  · have hdone : (appended s r p).appendDone r.lane = (appended s r p).renewDone r.lane x := by
      simp only [State.appendDone, lane_appended, hx, hop]
    have hw : EntryWork (appended s r p) ((appended s r p).ownChange b 0 x.fine x.stamp) b := entryWork_ownChange 0 x.fine x.stamp
    have hg := HoldsEntry.ownChange (s := appended s r p) 0 x.fine x.stamp he
    generalize hy : (ownNoted ((appended s r p).ownChange b 0 x.fine x.stamp) r.lane b
      ⟨n, basis, some ⟨b, x.due.1, x.due.2, x.renewRead + 1⟩, (appended s r p).number, x.stamp⟩
      fun q => .renew q n basis x.due.1 x.due.2 (x.renewRead + 1)).itemDueLine r.lane n x.due.1 x.due.2 = y
    have hline := slipWork_itemDueLine (ownNoted ((appended s r p).ownChange b 0 x.fine x.stamp) r.lane b
      ⟨n, basis, some ⟨b, x.due.1, x.due.2, x.renewRead + 1⟩, (appended s r p).number, x.stamp⟩
      fun q => .renew q n basis x.due.1 x.due.2 (x.renewRead + 1)) r.lane n x.due.1 x.due.2
    rw [hy] at hline
    obtain ⟨t, ht, hc, hslips, hsession, hholds⟩ := exec_append_of_item hexec hwait hw hg rfl hroom' hs (fun _ => rfl)
      hline.toSlipChange (hdone.trans (renewDone_eq hb hi hf hy)) hp
    rw [ownNoted_eq hw hg (by rfl) (by exact hroom') (by exact hs) (by exact fun _ => rfl)] at hline hy
    refine hcompletes (by rfl) ht hc ⟨rfl, hop.symm, rfl, rfl, rfl, congrArg some (balance_of_holds hholds)⟩
      ⟨?_, ?_, ?_, ?_, ?_⟩
    · rw [hc.result]
      rfl
    · rw [hc.result]
      rfl
    · exact itemDueLeaves_of_noted hy (by rw [hslips]) (by rw [hslips]) hsession (by rw [hc.result]; rfl)
    · exact (congrArg SlipUnit.pad0 hslips).trans ((hline.pad .p0).trans (pad_noted .p0))
    · exact (congrArg SlipUnit.pad1 hslips).trans ((hline.pad .p1).trans (pad_noted .p1))

end Sys2Proof.Proofs

/-! New work at a free lane: what begins it, and the refusals of its columns (R21, R25, R28). -/

namespace Sys2Proof.Proofs
open Sys2Proof Sys2Proof.Machine

/-! ## Results of new work (R44) -/

section Reported
variable {s : State} {l : LaneId} {src : Source} {op : Operation} {c : ResultClass} {why : Reason} {r : Result} {x : Txn}

theorem reportNow_eq (ht : (s.lane l).txn = none) (hp : (s.lane l).endPending = false) :
    s.reportNow l src op c why = s.reporting l src (s.plainResult l op c why) :=
  writeResult_eq_reporting (by rw [ht]; exact fun _ h => nomatch h) hp

/-- A result of work that is no borrower check, with no optional field. -/
theorem plainResult_of_work (hop : op ≠ .borrowerCheck) : s.plainResult l op c why =
    { Result.blank l with operation := op, cls := c, reason := why, mode := (s.lane l).mode } := by
  have hcheck : (op == Operation.borrowerCheck) = false := by simpa using hop
  simp only [State.plainResult, hcheck, Bool.false_and]
  rfl

/-- What work begins with is overwritten as its result is reported. -/
theorem reporting_begin (st : LaneState) (x : Txn) : (s.begin l st x).reporting l src r = s.reporting l src r := by
  unfold State.reporting State.begin
  rw [mapLane_mapLane]
  cases l <;> cases src with
  | wand w => cases w <;> cases r.cls <;> rfl
  | keyed => cases r.cls <;> rfl
  | port => cases r.cls <;> rfl

theorem writeResult_eq_of_standing (hp : (s.lane l).endPending = false) (h : (s.writeResult l src r).standing = s.standing) :
    s.writeResult l src r = s.reporting l src r := by
  obtain ⟨timer, hl⟩ := idleTimer_reported s l src r
  have heq : s.writeResult l src r = reported s l src r := by rw [writeResult_eq, hl, if_neg (by simp [hp])]
  rw [heq, reported_eq_reporting] at h ⊢
  rw [reporting_standing] at h
  have hstanding : (State.dropTxnEntry (s.mapLane l (writtenLane r)) l (s.lane l).txn).standing = s.standing := h
  rw [hstanding]

theorem lane_begin (s : State) (l : LaneId) (st : LaneState) (x : Txn) :
    (s.begin l st x).lane l = { s.lane l with state := st, txn := some x, idleTimer := none } := State.lane_mapLane ..

theorem entry?_begin (st : LaneState) (b : Nat) : (s.begin l st x).entry? b = s.entry? b :=
  entry?_of_standing (State.mapLane_standing ..) b

end Reported

/-! ## The tests of R28 -/

section Tests
variable {s : State}

/-- The refusals of a borrower inquiry's columns, in their order. -/
theorem stationRefusal_inquiry (s : State) : s.stationRefusal ⟨false, false⟩ =
    if s.memory.faulted then some Reason.fault
    else if s.station ≠ .ready then some .notReady
    else if s.edition = 0 then some .noRoll
    else none := by
  simp [State.stationRefusal]

/-- A borrower check needs the clock as well. -/
theorem stationRefusal_check (s : State) : s.stationRefusal ⟨true, false⟩ =
    (s.stationRefusal ⟨false, false⟩).or (if s.clock.set then none else some .noClock) := by
  unfold State.stationRefusal
  cases s.memory.faulted <;> cases s.station != .ready <;> cases s.edition == 0 <;> cases s.clock.set <;> rfl

end Tests

/-! ## Work begun that asks for a lookup (R131) -/

section Asking
variable {s : State} {l : LaneId} {x : Txn} {st : LaneState} {op : MemOp}

theorem askLane_begin (ho : x.lookup l = some op) (hk : op.lookupLane = some l) (hb : s.memory.busy = none)
    (hw : s.memory.waiting = []) (hl : s.memory.load.loading = false) : (s.begin l st x).askLane l =
      { s.mapLane l fun c => { c with state := st, txn := some x, idleTimer := none } with
        memory := { s.memory with busy := some ⟨op, false⟩, lastLane := some l } } := by
  have hmem : (s.begin l st x).memory = s.memory := State.mapLane_memory ..
  rw [askLane_of_free (by rw [lane_begin]) ho (by rw [hmem, hb]) (by rw [hmem, hw]) fun _ => by rw [hmem, hl], hk, hmem]
  rfl

end Asking

/-! ## A borrower check that finds the entry (R26) -/

section Checked
variable {s : State} {l : LaneId} {src : Source} {b : Nat} {e : Entry} {r : Result}

/-- The lane as a result is written. -/
theorem lane_reporting (s : State) (l : LaneId) (src : Source) (r : Result) : (s.reporting l src r).lane l = { s.lane l with
    state := .reporting, txn := none, result := r, unread := true, trapWait := none, blockWait := none
    idleTimer := if (s.lane l).session.isSome then some (s.settings.inForce.idleSeconds * 1000) else none } := by
  unfold State.reporting
  cases l <;> cases src with
  | wand w => cases w <;> cases r.cls <;> rfl
  | keyed => cases r.cls <;> rfl
  | port => cases r.cls <;> rfl

theorem lane_reporting_other (s : State) (l : LaneId) (src : Source) (r : Result) :
    (s.reporting l src r).lane (otherLane l) = s.lane (otherLane l) := by
  unfold State.reporting
  cases l <;> cases src with
  | wand w => cases w <;> cases r.cls <;> rfl
  | keyed => cases r.cls <;> rfl
  | port => cases r.cls <;> rfl

/-- Work done sounds no tone. -/
theorem reporting_of_done (h : r.cls = .done) : s.reporting l src r = { s with
    laneA := (s.reporting l src r).laneA, laneB := (s.reporting l src r).laneB
    port := { s.port with pending := s.port.pending ||| causeBit (causeResult l) } } := by
  unfold State.reporting
  rw [h]
  cases l <;> cases src <;> rfl

/-- A printer with no slip to print leaves the slips as they are. -/
theorem settlePrinter_keeps (h : s.slips.printer = .idleWarm → s.slips.queue = []) :
    s.settlePrinter.slips.slips = s.slips.slips ∧ s.settlePrinter.slips.queue = s.slips.queue := by
  by_cases hp : s.slips.printer = .idleWarm
  · have hstart : s.startPrint 9 = s.setPrinter .idleWarm := by simp only [State.startPrint, h hp]
    rw [settlePrinter_of_idle hp, hstart]
    exact settleUnload_slips _
  · obtain ⟨p, w, -, hs⟩ := settlePrinter_of_cold hp
    rw [hs]
    exact ⟨rfl, rfl⟩

/-- The context of a borrower check. -/
def checkTxn (src : Source) (b : Nat) : Txn := { Txn.start .borrowerCheck .borrower src with borrower := some b }

/-- The state at which the check of a borrower with an entry is reported. -/
def checkOpened (s : State) (l : LaneId) (src : Source) (b : Nat) : State :=
  sessionOpened (s.begin l .checking (checkTxn src b)) l b

theorem checkOpened_frame (s : State) (l : LaneId) (src : Source) (b : Nat) : checkOpened s l src b = { s with
    laneA := (checkOpened s l src b).laneA, laneB := (checkOpened s l src b).laneB
    standing := (checkOpened s l src b).standing } := by
  rw [checkOpened, sessionOpened, State.takeInHand, useEntry_frame, State.begin]
  cases l <;> rfl

theorem lane_checkOpened (s : State) (l : LaneId) (src : Source) (b : Nat) : (checkOpened s l src b).lane l =
    { s.lane l with
      state := .checking, txn := some (checkTxn src b), idleTimer := none, session := some ⟨b, none⟩ } := by
  rw [checkOpened, sessionOpened, State.takeInHand, useEntry_frame, State.begin]
  cases l <;> rfl

theorem lane_checkOpened_other (s : State) (l : LaneId) (src : Source) (b : Nat) :
    (checkOpened s l src b).lane (otherLane l) = s.lane (otherLane l) := by
  rw [checkOpened, sessionOpened, State.takeInHand, useEntry_frame, State.begin]
  cases l <;> rfl

/-- The entry as a check puts it in hand. -/
theorem entry?_checkOpened (he : s.entry? b = some e) : (checkOpened s l src b).entry? b =
    some { e.setHand l true with lastUse := s.standing.uses + 1 } := by
  have huse := entry?_useEntry (s.begin l .checking (checkTxn src b)) b (·.setHand l true) fun _ => setHand_borrower _ l true
  rw [entry?_begin, he, Option.map_some] at huse
  refine (entry?_of_standing (State.mapLane_standing ..) b).trans (huse.trans ?_)
  rw [State.begin, State.mapLane_standing]

theorem entry?_checkOpened_of_ne {d : Nat} (h : d ≠ b) : (checkOpened s l src b).entry? d = s.entry? d := by
  refine (entry?_of_standing (State.mapLane_standing ..) d).trans ?_
  rw [State.takeInHand, entry?_useEntry_of_ne (fun _ => setHand_borrower _ l true) h, entry?_begin]

theorem checkDone_begin (hp : (s.lane l).endPending = false) :
    (s.begin l .checking (checkTxn src b)).checkDone l (checkTxn src b) =
      ((checkOpened s l src b).reporting l src (checkResult (checkOpened s l src b) l b)).settlePrinter := by
  have hlane := lane_checkOpened s l src b
  have hpend : ((checkOpened s l src b).lane l).endPending = false := by rw [hlane, hp]
  rw [checkDone_eq rfl, ← checkOpened, writeResult_eq_of_standing hpend]
  · rfl
  · refine standing_writeResult_of_session (ss := ⟨b, none⟩) hpend (by rw [hlane]) fun y c hy hc => ?_
    rw [hlane] at hy
    obtain rfl := Option.some.inj hy
    exact (Option.some.inj hc).symm

/-- The result of the check of a borrower with an entry. -/
theorem checkResult_of_entry (he : s.entry? b = some e) : checkResult (checkOpened s l src b) l b = { Result.blank l with
    operation := .borrowerCheck, cls := .done, mode := (s.lane l).mode, borrower := some b, balance := some e.balance
    count := some (e.count, s.limitInForce e.roll.category), blocks := e.blockSet s.clock.day
    flags := { ResultFlags.clear with
      warning := decide ((s.rules.warning : Int) ≤ e.balance) || s.standing.incomplete } } := by
  have hentry := entryOf_of_entry (entry?_checkOpened (l := l) (src := src) he)
  have hh : Handled e { e.setHand l true with lastUse := s.standing.uses + 1 } := (Handled.setHand e l true).trans (.used _ _)
  have hinc : (checkOpened s l src b).standing.incomplete = s.standing.incomplete := by
    rw [checkOpened, sessionOpened, State.mapLane_standing, State.takeInHand, (useEntry_standing _ _ _).1, State.begin,
      State.mapLane_standing]
  have hlane := lane_checkOpened s l src b
  have hlimit : (checkOpened s l src b).limitInForce e.roll.category = s.limitInForce e.roll.category := by
    rw [State.limitInForce, State.limitInForce, hinc, checkOpened_frame]
  have hwarning : (checkOpened s l src b).warningFor e.balance =
      (decide ((s.rules.warning : Int) ≤ e.balance) || s.standing.incomplete) := by
    rw [State.warningFor, hinc, State.rules, checkOpened_frame]
    rfl
  have hclock : (checkOpened s l src b).clock = s.clock := by rw [checkOpened_frame]
  rw [checkResult, hentry, hh.blockSet, hh.count, hh.balance, hh.roll, hlimit, hwarning, hclock, State.plainResult, hlane]
  rfl

end Checked

/-! ## Borrower labels (R25, R26, R39) -/

section Labels
variable {s : State} {l : LaneId} {src : Source} {b : Nat} {ds : List Nat} {e : Entry}

theorem takeOffer_of_mode_ret (hm : (s.lane l).mode = .ret) :
    s.takeOffer l ⟨src, .borrower b, ds⟩ = s.reportNow l src .label .invalid .wrongMode := by
  simp only [State.takeOffer, State.takeBorrower, hm]

theorem takeOffer_of_mode_inquire (hm : (s.lane l).mode = .inquire) :
    s.takeOffer l ⟨src, .borrower b, ds⟩ = s.inquireBorrower l src b := by
  simp only [State.takeOffer, State.takeBorrower, hm]

theorem takeOffer_of_check (hm : (s.lane l).mode = .lend ∨ (s.lane l).mode = .renew) :
    s.takeOffer l ⟨src, .borrower b, ds⟩ = (s.endSession l).startCheck l src b := by
  obtain hm | hm := hm <;> simp only [State.takeOffer, State.takeBorrower, hm]

theorem startCheck_of_refusal {why : Reason} (h : s.stationRefusal ⟨true, false⟩ = some why) :
    s.startCheck l src b = s.reportNow l src .borrowerCheck .refused why := by
  simp only [State.startCheck, h]

theorem startCheck_of_none (h : s.stationRefusal ⟨true, false⟩ = none) (hn : s.entry? b = none) :
    s.startCheck l src b = (s.begin l .checking (checkTxn src b)).askLane l := by
  have hentry : (s.begin l .checking (checkTxn src b)).entry? b = none := (entry?_begin _ b).trans hn
  unfold checkTxn at hentry ⊢
  simp only [State.startCheck, h, hentry, Option.isSome_none, Bool.false_eq_true, if_false]

theorem startCheck_of_entry (h : s.stationRefusal ⟨true, false⟩ = none) (he : s.entry? b = some e) :
    s.startCheck l src b = (s.begin l .checking (checkTxn src b)).checkDone l (checkTxn src b) := by
  have hentry : (s.begin l .checking (checkTxn src b)).entry? b = some e := (entry?_begin _ b).trans he
  unfold checkTxn at hentry ⊢
  simp only [State.startCheck, h, hentry, Option.isSome_some, if_true]

/-- The context of a borrower inquiry. -/
def viewTxn (src : Source) (b : Nat) : Txn := { Txn.start .inquire .borrower src with borrower := some b }

theorem inquireBorrower_of_refusal {why : Reason} (h : s.stationRefusal ⟨false, false⟩ = some why) :
    s.inquireBorrower l src b = s.reportNow l src .inquire .refused why := by
  simp only [State.inquireBorrower, h]

theorem inquireBorrower_of_none (h : s.stationRefusal ⟨false, false⟩ = none) (hn : s.entry? b = none) :
    s.inquireBorrower l src b = (s.begin l .working (viewTxn src b)).askLane l := by
  have hentry : (s.begin l .working (viewTxn src b)).entry? b = none := (entry?_begin _ b).trans hn
  unfold viewTxn at hentry ⊢
  simp only [State.inquireBorrower, h, hentry]

theorem inquireBorrower_of_entry (h : s.stationRefusal ⟨false, false⟩ = none) (he : s.entry? b = some e) :
    s.inquireBorrower l src b = (s.begin l .working (viewTxn src b)).inquireBorrowerFound l (viewTxn src b) e := by
  have hentry : (s.begin l .working (viewTxn src b)).entry? b = some e := (entry?_begin _ b).trans he
  unfold viewTxn at hentry ⊢
  simp only [State.inquireBorrower, h, hentry]

theorem inquireBorrowerFound_begin (hp : (s.lane l).endPending = false) (he : e.borrower = b) :
    (s.begin l .working (viewTxn src b)).inquireBorrowerFound l (viewTxn src b) e = s.reporting l src { Result.blank l with
      operation := .inquire, cls := .done, mode := (s.lane l).mode, borrower := some b, balance := some e.balance
      count := some (e.count, s.limitInForce e.roll.category), blocks := e.blockSet s.clock.day
      flags := { ResultFlags.clear with
        warning := decide ((s.rules.warning : Int) ≤ e.balance) || s.standing.incomplete } } := by
  have hlane := lane_begin s l .working (viewTxn src b)
  have hframe : s.begin l .working (viewTxn src b) = { s with
      laneA := (s.begin l .working (viewTxn src b)).laneA, laneB := (s.begin l .working (viewTxn src b)).laneB } := by
    cases l <;> rfl
  rw [State.inquireBorrowerFound, writeResult_eq_reporting (by rw [hlane]; rintro x ⟨⟩; exact .inl rfl) (by rw [hlane, hp]),
    reporting_begin, State.plainResult, hlane, he]
  refine congrArg (s.reporting l src) ?_
  rw [hframe]
  rfl

/-- The end of a session leaves the mode, and no session. -/
theorem lane_endSession_of_session {ss : Session} (h : (s.lane l).session = some ss) : ((s.endSession l).lane l).session = none ∧
    ((s.endSession l).lane l).endPending = false ∧ ((s.endSession l).lane l).mode = (s.lane l).mode := by
  have hlane := (lane_completeSlip h (s.entryOf ss.borrower).count (s.entryOf ss.borrower).balance
    (s.rules.warningMark (s.entryOf ss.borrower).balance)).1
  rw [endSession_eq h, lane_settlePrinter, lane_outOfHand, State.lane_mapLane, hlane]
  exact ⟨rfl, rfl, rfl⟩

theorem takeOffer_endSession {ss : Session} (h : (s.lane l).session = some ss)
    (hm : (s.lane l).mode = .lend ∨ (s.lane l).mode = .renew) :
    s.takeOffer l ⟨src, .borrower b, ds⟩ = (s.endSession l).takeOffer l ⟨src, .borrower b, ds⟩ := by
  obtain ⟨hnone, hpend, hmode⟩ := lane_endSession_of_session h
  rw [takeOffer_of_check hm, takeOffer_of_check (by rw [hmode]; exact hm), endSession_of_closed hnone hpend]

/-- A borrower label that a free lane takes in LEND or RENEW mode, its borrower in the table: the check is done. -/
theorem checkDone_begin_of_entry (hp : (s.lane l).endPending = false) (he : s.entry? b = some e)
    (hq : s.slips.printer = .idleWarm → s.slips.queue = []) {r : Result} (hr : checkResult (checkOpened s l src b) l b = r)
    {t : State} (ht : (s.begin l .checking (checkTxn src b)).checkDone l (checkTxn src b) = t) :
    t = { s.reporting l src r with laneA := t.laneA, laneB := t.laneB, standing := t.standing, slips := t.slips } ∧
    t.lane (otherLane l) = s.lane (otherLane l) ∧
    t.lane l = { (s.reporting l src r).lane l with
      session := some ⟨b, none⟩, idleTimer := some (s.settings.inForce.idleSeconds * 1000) } ∧
    t.slips.slips = s.slips.slips ∧ t.slips.queue = s.slips.queue ∧
    (∃ e', t.entry? b = some e' ∧ e'.inHand l = true ∧ { e' with
      handA := e.handA, handB := e.handB, lastUse := e.lastUse } = e) ∧
    ∀ d, d ≠ b → t.entry? d = s.entry? d := by
  have hdone : r.cls = .done := by rw [← hr]; rfl
  have hopened := checkOpened_frame s l src b
  have hwlane := lane_reporting (checkOpened s l src b) l src r
  have hslane := lane_reporting s l src r
  have hwother : ((checkOpened s l src b).reporting l src r).lane (otherLane l) = s.lane (otherLane l) := by
    rw [lane_reporting_other, lane_checkOpened_other]
  have hw : (checkOpened s l src b).reporting l src r = { s with
      laneA := ((checkOpened s l src b).reporting l src r).laneA
      laneB := ((checkOpened s l src b).reporting l src r).laneB
      standing := (checkOpened s l src b).standing
      port := { s.port with pending := s.port.pending ||| causeBit (causeResult l) } } := by
    refine (reporting_of_done hdone).trans ?_
    rw [hopened]
  rw [checkDone_begin hp, hr] at ht
  rw [lane_checkOpened] at hwlane
  generalize (checkOpened s l src b).reporting l src r = w at *
  have hslips : SlipsOnly w t := ht ▸ settlePrinter_slipsOnly w
  obtain ⟨hrecords, hqueue⟩ := settlePrinter_keeps (s := w) (by rw [hw]; exact hq)
  rw [ht] at hrecords hqueue
  have hstanding : t.standing = (checkOpened s l src b).standing := by rw [hslips, hw]
  refine ⟨?_, by rw [hslips.lane, hwother], ?_, by rw [hrecords, hw], by rw [hqueue, hw],
    ⟨{ e.setHand l true with lastUse := s.standing.uses + 1 }, ?_, ?_, ?_⟩, fun d hd => ?_⟩
  · rw [reporting_of_done hdone, hslips, hw]
  · rw [hslips.lane, hwlane, hslane, hopened]
    rfl
  · exact (entry?_of_standing hstanding b).trans (entry?_checkOpened he)
  · exact inHand_setHand e l true
  · cases l <;> rfl
  · exact (entry?_of_standing hstanding d).trans (entry?_checkOpened_of_ne hd)

end Labels

end Sys2Proof.Proofs

/-! An item label taken as new work (R28, R31, R34, R37, R39), and the labels' obligation. -/

namespace Sys2Proof.Proofs
open Sys2Proof Sys2Proof.Machine

/-! ## The tests of R28 -/

/-- The refusals of an item's columns, in their order. -/
theorem stationRefusal_item (s : State) (m : LaneMode) : s.stationRefusal ⟨m != .inquire, m != .inquire⟩ =
    if s.memory.faulted then some Reason.fault
    else if s.station ≠ .ready then some .notReady
    else if s.edition = 0 then some .noRoll
    else if m = .inquire then none
    else if s.clock.set = false then some .noClock
    else if 16384 ≤ s.memory.copies.head - s.memory.copies.tail + s.memory.requested then some .journalFull
    else if 65535 ≤ s.line.stamps then some .stampsExhausted
    else none := by
  have hfull : s.journalFull = decide (16384 ≤ s.memory.copies.head - s.memory.copies.tail + s.memory.requested) := rfl
  have hout : s.stampsOut = decide (65535 ≤ s.line.stamps) := rfl
  by_cases hm : m = .inquire
  · subst hm
    simp [State.stationRefusal]
  · have hne : (m != LaneMode.inquire) = true := by simpa using hm
    simp [State.stationRefusal, hne, hm, hfull, hout]

/-! ## Item work begun (R21, R27) -/

/-- The borrower of a lane's item work: that of the session in LEND and RENEW mode. -/
def workBorrower (c : LaneCtl) : Option Nat :=
  if c.mode = .lend ∨ c.mode = .renew then c.session.map (·.borrower) else none

/-- The context of item work as it begins. -/
def itemTxn (c : LaneCtl) (src : Source) (n : Nat) : Txn :=
  { Txn.start c.mode.operation .lookup src with item := some n, borrower := workBorrower c }

section Begin
variable {s u : State} {l : LaneId} {src : Source} {n : Nat} {ds : List Nat} {y : Txn}

theorem takeItem_of_refusal {why : Reason}
    (h : s.stationRefusal ⟨(s.lane l).mode != .inquire, (s.lane l).mode != .inquire⟩ = some why) :
    s.takeItem l src n = s.reportNow l src (s.lane l).mode.operation .refused why := by
  simp only [State.takeItem, h]

variable (hst : s.stationRefusal ⟨(s.lane l).mode != .inquire, (s.lane l).mode != .inquire⟩ = none)
include hst

theorem takeItem_of_noSession (hm : (s.lane l).mode = .lend ∨ (s.lane l).mode = .renew) (hss : (s.lane l).session = none) :
    s.takeItem l src n = s.reportNow l src (s.lane l).mode.operation .refused .noSession := by
  have hneeds : ((s.lane l).mode == .lend || (s.lane l).mode == .renew) = true := by simpa using hm
  simp only [State.takeItem, hst, hneeds, hss, Option.isNone_none, Bool.and_self, if_true]

variable (hss : (s.lane l).mode = .lend ∨ (s.lane l).mode = .renew → (s.lane l).session.isSome = true)
include hss

theorem takeItem_of_none (hn : s.item? n = none) :
    s.takeItem l src n = (s.begin l .working (itemTxn (s.lane l) src n)).askLane l := by
  have hitem : (s.begin l .working (itemTxn (s.lane l) src n)).item? n = none := by rw [← hn]; cases l <;> rfl
  have hgo : ((((s.lane l).mode == .lend || (s.lane l).mode == .renew) && (s.lane l).session.isNone) = true) ↔ False := by
    simpa [Option.isSome_iff_ne_none] using hss
  unfold itemTxn workBorrower at hitem ⊢
  simp only [State.takeItem, hst, hgo, if_false, Bool.or_eq_true, beq_iff_eq, hitem]

theorem takeItem_of_entry {i : ItemEntry} (hi : s.item? n = some i) : s.takeItem l src n =
    (s.begin l .working (itemTxn (s.lane l) src n)).itemFound l (itemTxn (s.lane l) src n) i.answer := by
  have hitem : (s.begin l .working (itemTxn (s.lane l) src n)).item? n = some i := by rw [← hi]; cases l <;> rfl
  have hgo : ((((s.lane l).mode == .lend || (s.lane l).mode == .renew) && (s.lane l).session.isNone) = true) ↔ False := by
    simpa [Option.isSome_iff_ne_none] using hss
  unfold itemTxn workBorrower at hitem ⊢
  simp only [State.takeItem, hst, hgo, if_false, Bool.or_eq_true, beq_iff_eq, hitem]

end Begin

/-- The lane has begun its work, from `s` to `u`, with the context `y`: but for the standing table nothing else changes. -/
structure Begun (s u : State) (l : LaneId) (y : Txn) : Prop where
  frame : u = { s with laneA := u.laneA, laneB := u.laneB, standing := u.standing }
  lane : u.lane l = { s.lane l with state := .working, txn := some y, idleTimer := none }
  other : u.lane (otherLane l) = s.lane (otherLane l)

/-- Work begun has asked for a lookup. -/
def Asks (s t : State) (l : LaneId) (y : Txn) (m : MemOp) : Prop :=
  (t.lane l = { s.lane l with state := .working, txn := some y, idleTimer := none } ∧
    t.lane (otherLane l) = s.lane (otherLane l)) ∧
  t = { s with
    laneA := t.laneA, laneB := t.laneB, standing := t.standing
    memory := { s.memory with busy := some ⟨m, false⟩, lastLane := some l } }

section Begun
variable {s u : State} {l : LaneId} {y : Txn} {m : MemOp} {b : Nat}

theorem begun_begin (s : State) (l : LaneId) (y : Txn) : Begun s (s.begin l .working y) l y where
  frame := by cases l <;> rfl
  lane := lane_begin ..
  other := lane_mapLane_otherLane ..

theorem Begun.mapTxn (h : Begun s u l y) (f : Txn → Txn) : Begun s (u.mapTxn l f) l (f y) where
  frame := by
    refine (mapLane_frame u l _).trans ?_
    rw [h.frame]
    cases l <;> rfl
  lane := by rw [State.mapTxn, State.lane_mapLane, h.lane]; rfl
  other := by rw [State.mapTxn, lane_mapLane_otherLane, h.other]

theorem Begun.useEntry (h : Begun s u l y) (b : Nat) (f : Entry → Entry) : Begun s (u.useEntry b f) l y where
  frame := by rw [useEntry_frame, h.frame]
  lane := by
    rw [← h.lane, useEntry_frame]
    cases l <;> rfl
  other := by
    rw [← h.other, useEntry_frame]
    cases l <;> rfl

theorem Begun.asks (h : Begun s u l y) (ho : y.lookup l = some m) (hk : m.lookupLane = some l) (hb : s.memory.busy = none)
    (hw : s.memory.waiting = []) (hl : s.memory.load.loading = false) :
    Asks s (u.askLane l) l y m ∧ (u.askLane l).standing = u.standing := by
  have hmem : u.memory = s.memory := by rw [h.frame]
  have hask : u.askLane l = { u with memory := { s.memory with busy := some ⟨m, false⟩, lastLane := some l } } := by
    rw [askLane_of_free (by rw [h.lane]) ho (by rw [hmem, hb]) (by rw [hmem, hw]) fun _ => by rw [hmem, hl], hk, hmem]
    rfl
  have hlane : ∀ k, State.lane { u with memory := { s.memory with busy := some ⟨m, false⟩, lastLane := some l } } k = u.lane k :=
    fun k => by cases k <;> rfl
  rw [hask]
  refine ⟨⟨⟨by rw [hlane, h.lane], by rw [hlane, h.other]⟩, ?_⟩, rfl⟩
  rw [h.frame]

end Begun

/-! ## Item work that ends as it begins (R43, R44) -/

/-- The lane holds no room, no reservation of the work's borrower, no trap and no action awaiting, and the work's borrower
is that of its session. -/
structure HoldsNothing (s : State) (l : LaneId) (y : Txn) : Prop where
  pending : (s.lane l).endPending = false
  busy : s.memory.busy = none
  waiting : s.memory.waiting = []
  room : s.overlay.room l = false
  trap : s.provisionalOf l = none
  awaiting : s.awaitingOwn y = false
  reserved : ∀ b e, y.borrower = some b → s.entry? b = some e → e.reserved l = false
  session : y.borrower = none ∨ ∃ ss, (s.lane l).session = some ss ∧ y.borrower = some ss.borrower

section Ending
variable {s : State} {l : LaneId} {y : Txn} {c : ResultClass} {why : Reason}

theorem setRoom_of_free {o : Overlay} (h : o.room l = false) : o.setRoom l false = o := by
  cases l with
  | a =>
    have ha : o.roomA = false := h
    rw [Overlay.setRoom, ← ha]
  | b =>
    have hb : o.roomB = false := h
    rw [Overlay.setRoom, ← hb]

theorem HoldsNothing.begin (h : HoldsNothing s l y) : HoldsNothing (s.begin l .working y) l y where
  pending := by rw [lane_begin]; exact h.pending
  busy := by rw [State.begin, State.mapLane_memory, h.busy]
  waiting := by rw [State.begin, State.mapLane_memory, h.waiting]
  room := by rw [State.begin, State.mapLane_overlay, h.room]
  trap := by rw [← h.trap]; exact provisionalOf_of_traps (State.mapLane_traps ..) l
  awaiting := by rw [← h.awaiting]; exact awaitingOwn_of_standing (State.mapLane_standing ..) y
  reserved b e hb he := h.reserved b e hb ((entry?_begin _ b).symm.trans he)
  session := by rw [lane_begin]; exact h.session

/-- Nothing is given back. -/
theorem giveBack_of_nothing (h : HoldsNothing s l y) (hstage : y.stage ≠ .awaitLine) (htrap : y.trap ≠ .trapped)
    (hb : y.operation = .lend → y.borrower ≠ none) : s.giveBack l y = s := by
  have hres : reservationBack s l y = s := by
    unfold reservationBack
    split
    · next hop =>
      obtain ⟨b, hb⟩ := Option.ne_none_iff_exists'.mp (hb hop)
      rw [hb, Option.getD_some, State.releaseReservation]
      cases he : s.entry? b with
      | none => rfl
      | some e => exact if_neg (by rw [h.reserved b e hb he]; decide)
    · rfl
  rw [giveBack_of_quiet h.trap htrap hstage h.awaiting, backAtOnce_frame, hres, setRoom_of_free h.room,
    dropAsked_of_quiet h.busy h.waiting]

/-- The work's entry stays in hand as its result is written. -/
theorem standing_writeResult_of_nothing (h : HoldsNothing s l y) (hy : (s.lane l).txn = some y) (src : Source) (r : Result) :
    (s.writeResult l src r).standing = s.standing := by
  obtain hb | ⟨ss, hss, hb⟩ := h.session
  · rw [writeResult_eq_reporting _ h.pending, reporting_standing]
    intro x hx
    obtain rfl : y = x := Option.some.inj (hy.symm.trans hx)
    exact .inr hb
  · refine standing_writeResult_of_session h.pending hss fun x c hx hc => ?_
    obtain rfl : y = x := Option.some.inj (hy.symm.trans hx)
    exact Option.some.inj (hc.symm.trans hb)

/-- Work refused as it begins leaves its result, and nothing else. -/
theorem endTxn_begin (h : HoldsNothing s l y) (hstage : y.stage ≠ .awaitLine) (htrap : y.trap ≠ .trapped)
    (hb : y.operation = .lend → y.borrower ≠ none) (hop : y.operation ≠ .borrowerCheck) (hwhy : why ≠ .limit) :
    (s.begin l .working y).endTxn l c why = s.reporting l y.source { Result.blank l with
      operation := y.operation, cls := c, reason := why, mode := (s.lane l).mode, blocks := s.txnBlocks y } := by
  have hlane := lane_begin s l .working y
  have hblocks : (s.begin l .working y).txnBlocks y = s.txnBlocks y := by
    have he : (s.begin l .working y).entry? = s.entry? := funext fun b => entry?_begin _ b
    have hclock : (s.begin l .working y).clock = s.clock := State.mapLane_clock ..
    rw [State.txnBlocks, State.txnBlocks, he, hclock]
  have hresult : (s.begin l .working y).endedResult l y c why = { Result.blank l with
      operation := y.operation, cls := c, reason := why, mode := (s.lane l).mode, blocks := s.txnBlocks y } := by
    simp only [State.endedResult, if_neg hwhy, plainResult_of_work hop, hblocks, hlane]
  have hend : (s.begin l .working y).endTxn l c why =
      (s.begin l .working y).writeResult l y.source ((s.begin l .working y).endedResult l y c why) := by
    simp only [State.endTxn, hlane, giveBack_of_nothing h.begin hstage htrap hb]
  rw [hend, writeResult_eq_of_standing h.begin.pending (standing_writeResult_of_nothing h.begin (by rw [hlane]) _ _),
    reporting_begin, hresult]

end Ending

/-! ## A lend of an item IN that passes its tests (R31, R32) -/

section Lend
variable {s u t : State} {l : LaneId} {y z : Txn} {b n : Nat} {e : Entry} {i : ItemEntry} {due : Nat × Nat}

theorem atWork_begin (hb : s.memory.busy = none) (y : Txn) : AtWork (s.begin l .working y) (s.begin l .working y) l y where
  rest := by
    have hmem : ({ (s.begin l .working y).memory with busy := none } : MemCtl) = (s.begin l .working y).memory := by
      rw [State.begin, State.mapLane_memory, ← hb]
    rw [hmem]
  lane := ⟨(s.lane l).trapWait, by rw [lane_begin]⟩
  other := rfl
  incomplete := rfl

/-- What is requested of the station and the lane's work aside, it is the same to begin at `s` or as the work has begun. -/
theorem commits_of_begin {kind : RecordKind} {amount : Nat} {left : List ItemEntry}
    (h : (s.begin l .working y).commits t l z kind b n due amount left) : s.commits t l z kind b n due amount left := by
  cases l <;> exact h

theorem lendCheck_none (h : s.lendCheck e n = none) : e.blocked = false ∧ s.limitAtCheck e = true := by
  unfold State.lendCheck at h
  split at h
  · cases h
  split at h
  · cases h
  split at h
  · cases h
  next hbl =>
    split at h
    · cases h
    split at h
    · cases h
    next hlim => exact ⟨Bool.eq_false_iff.mpr hbl, by simpa using hlim⟩

/-- COMMIT of a lend whose tests hold requests its record (R32). -/
theorem AtWork.lends_commits (h : AtWork s u l z) (hop : z.operation = .lend) (hn : z.item = some n) (hb : z.borrower = some b)
    (htrap : z.trap = .none) (he : HoldsEntry u b (e.setReserved l true)) (hw : s.memory.waiting = []) (hr : s.overlay.room l = false) (hd : u.dueAtCommit z (u.entryOf b) = .ok due)
    (hi : s.item? n = some i) (hin : i.loan = none) (hbl : e.blocked = false) (hres : e.reserved l = false)
    (hlim : s.limitAtCheck e = true) (hc : s.commitRefusal = none) (hf : s.memory.faulted = false) :
    s.commits (u.commitLend l z) l { z with due := due, reckonDay := s.clock.day } .loan b n due 0 s.overlay.entries ∧
      ((u.commitLend l z).lane l).state = (s.lane l).state ∧
      ∃ e', (u.commitLend l z).entry? b = some e' ∧ e'.count = e.count ∧ e'.reservations = e.reservations + 1 := by
  have hlast := h.mapTxn (lendCommitted u due)
  obtain ⟨f, hf', hh⟩ := he
  have hblocked : f.blocked = false := by rw [hh.blocked, setReserved_blocked, hbl]
  have hreservations : f.reservations = e.reservations + 1 := by rw [hh.reservations, reservations_setReserved hres]
  have hcount : f.count = e.count := by rw [hh.count, setReserved_count]
  have hlimit : (u.mapTxn l (lendCommitted u due)).limitAtCommit f = true := by
    rw [State.limitAtCheck, decide_eq_true_eq] at hlim
    rw [State.limitAtCommit, hlast.limitInForce, hcount, hreservations, hh.roll, setReserved_roll, decide_eq_true_eq]
    push_cast
    omega
  have hcommit := commitLend_of_in (l := l) hn hb hd (by rw [h.itemNow, itemNow_loan_of_entry hi, hin])
  rw [entryOf_of_entry hf', hblocked, hlimit, if_neg Bool.false_ne_true, Bool.not_true, if_neg Bool.false_ne_true] at hcommit
  obtain ⟨hcommits, hstate, hstanding⟩ := hlast.commits (left := s.overlay.entries) hr (.inl ⟨.inl (by rw [hi]; rfl), rfl⟩) hc hw hf
    (kind := .loan) (due := due) (amount := 0) ((hlast.recordFor _ _).trans
      (recordFor_of_lend (x := lendCommitted u due z) hop hn hb htrap _))
  rw [hcommit]
  rw [lendCommitted, h.clock] at hcommits
  refine ⟨hcommits, hstate, f, ?_, hcount, hreservations⟩
  rw [State.entry?, hstanding, State.mapTxn_standing]
  exact hf'

/-- A lend of an item that the overlay holds IN. -/
theorem lendFound_begin (hop : y.operation = .lend) (hn : y.item = some n) (hb : y.borrower = some b) (htrap : y.trap = .none)
    (hbusy : s.memory.busy = none) (hw : s.memory.waiting = []) (hr : s.overlay.room l = false)
    (hst : s.stationRefusal ⟨true, true⟩ = none) (he : s.entry? b = some e) (hres : e.reserved l = false)
    (hi : s.item? n = some i) (hin : i.loan = none) (hcheck : s.lendCheck e n = none)
    (hdue : s.rules.due (itemClass n) e.roll.expiry s.clock.day s.clock.minute = .ok due)
    (ht : (s.begin l .working y).lendFound l y i.answer = t) :
    s.commits t l { y with found := some ⟨i.basis, none⟩, due := due, reckonDay := s.clock.day } .loan b n due 0
      s.overlay.entries ∧ (t.lane l).state = .working ∧
      ∃ e', t.entry? b = some e' ∧ e'.count = e.count ∧ e'.reservations = e.reservations + 1 := by
  obtain ⟨hbl, hlim⟩ := lendCheck_none hcheck
  obtain ⟨hfault, -, -⟩ := allows_of_stationRefusal hst
  have hframe : s.begin l .working y = { s with
      laneA := (s.begin l .working y).laneA, laneB := (s.begin l .working y).laneB } := by cases l <;> rfl
  have hwork := (atWork_begin (l := l) hbusy y).reserve b true
  have hholds := (HoldsEntry.of_entry ((entry?_begin (s := s) (l := l) (x := y) .working b).trans he)).reserve l true
  have hentry := (entry?_begin (s := s) (l := l) (x := y) .working b).trans he
  have hcheck' : (s.begin l .working y).lendCheck ((s.begin l .working y).entryOf b) n = none := by
    rw [entryOf_of_entry hentry, hframe]
    exact hcheck
  have hdue' : ((s.begin l .working y).reserve l b true).dueNow n (((s.begin l .working y).reserve l b true).entryOf b) = .ok due := by
    obtain ⟨f, hf, hh⟩ := hholds
    rw [entryOf_of_entry hf, hwork.dueNow, hh.roll, setReserved_roll, hframe]
    exact hdue
  have hlend := hwork.mapTxn fun _ => lendReckoned ((s.begin l .working y).reserve l b true) y i.answer due
  have hdone := hlend.lends_commits (e := e) (due := due) (i := i) hop hn hb htrap (hholds.mapLane l _) (by rw [hframe]; exact hw) (by rw [hframe]; exact hr)
    (if_pos (by rw [hlend.clock, lendReckoned, hwork.clock])) (by rw [hframe]; exact hi) hin hbl hres (by rw [hframe]; exact hlim)
    (by rw [hframe]; exact commitRefusal_of_allowed hst) (by rw [hframe]; exact hfault)
  rw [← lendFound_of_due (by exact hin) hn hb hcheck' hdue', ht] at hdone
  obtain ⟨hcommits, hstate, hentries⟩ := hdone
  refine ⟨?_, by rw [hstate, lane_begin], hentries⟩
  have hclock : (s.begin l .working y).clock = s.clock := State.mapLane_clock ..
  have hover : (s.begin l .working y).overlay = s.overlay := State.mapLane_overlay ..
  rw [hclock, hover] at hcommits
  have hanswer : i.answer = ⟨i.basis, none⟩ := by rw [ItemEntry.answer, hin]
  rw [lendReckoned, hanswer] at hcommits
  exact commits_of_begin hcommits

end Lend

end Sys2Proof.Proofs

/-! Labels taken as new work (R21, R25 to R28, R31, R34, R37, R39). -/

namespace Sys2Proof.Proofs
open Sys2Proof Sys2Proof.Machine

section Work
variable {s u : State} {l : LaneId} {src : Source} {y : Txn} {b n : Nat} {e : Entry} {i : ItemEntry} {a : LoanPart}
  {basis : Basis}

/-- An inquiry of an item that the overlay holds reports it at once (R39). -/
theorem inquireItemFound_begin (hop : y.operation = .inquire) (hn : y.item = some n) (hp : (s.lane l).endPending = false)
    (i : ItemEntry) : (s.begin l .working y).inquireItemFound l y i.answer .none = s.reporting l y.source { Result.blank l with
      operation := .inquire, mode := (s.lane l).mode, cls := .done, item := some n
      borrower := i.loan.map (·.borrower), due := i.loan.map fun a => (a.dueDay, a.dueMinute)
      renewCount := some ((i.loan.map (·.renewCount)).getD 0), itemOut := some i.loan.isSome } := by
  have hlane := lane_begin s l .working y
  rw [State.inquireItemFound, writeResult_eq_reporting
    (by rw [hlane]; rintro x hx; cases hx; exact .inl hop) (by rw [hlane, hp]), reporting_begin, plainResult_of_work (by decide),
    hlane, hn]
  rfl

/-- The context of a return whose item is OUT to `a`. -/
def returnTxn (y : Txn) (basis : Basis) (a : LoanPart) : Txn :=
  { y with found := some ⟨basis, some a⟩, borrower := some a.borrower, stage := .borrower }

theorem returnFound_of_none (hn : u.entry? a.borrower = none) : u.returnFound l y ⟨basis, some a⟩ =
    (u.mapTxn l fun _ => returnTxn y basis a).askLane l := by
  have hentry : (u.mapTxn l fun _ => returnTxn y basis a).entry? a.borrower = none :=
    (entry?_of_standing (State.mapTxn_standing ..) _).trans hn
  unfold returnTxn at hentry ⊢
  simp only [State.returnFound, hentry, Option.isSome_none, Bool.false_eq_true, if_false]

/-- The context of a return with its fine reckoned. -/
def fineReckoned (s : State) (y : Txn) (n : Nat) (a : LoanPart) : Txn :=
  { y with fine := s.fineNow n a, due := (a.dueDay, a.dueMinute), reckonDay := s.clock.day, stage := .hold }

theorem returnFound_of_entry (hi : y.item = some n) (he : u.entry? a.borrower = some e) : u.returnFound l y ⟨basis, some a⟩ =
    State.askLane (((u.mapTxn l fun _ => returnTxn y basis a).takeInHand l a.borrower).mapTxn l fun x =>
      fineReckoned ((u.mapTxn l fun _ => returnTxn y basis a).takeInHand l a.borrower) x n a) l := by
  have hentry : (u.mapTxn l fun _ => returnTxn y basis a).entry? a.borrower = some e :=
    (entry?_of_standing (State.mapTxn_standing ..) _).trans he
  have hfound : u.returnFound l y ⟨basis, some a⟩ =
      (u.mapTxn l fun _ => returnTxn y basis a).returnBorrower l (returnTxn y basis a) := by
    unfold returnTxn at hentry ⊢
    simp only [State.returnFound, hentry, Option.isSome_some, if_true]
  have hitem : (returnTxn y basis a).item = some n := hi
  rw [hfound]
  simp only [State.returnBorrower, hitem, Option.getD_some]
  rfl

theorem Begun.fineNow (h : Begun s u l y) (n : Nat) (a : LoanPart) : u.fineNow n a = s.fineNow n a := by
  rw [State.fineNow, h.frame]
  rfl

theorem Begun.clock (h : Begun s u l y) : u.clock = s.clock := by rw [h.frame]

/-- A return of an item OUT to a borrower whose entry the table has (R34, R35). -/
theorem returnFound_begin_of_entry (hi : y.item = some n) (he : s.entry? a.borrower = some e)
    (hb : s.memory.busy = none) (hw : s.memory.waiting = []) (hl : s.memory.load.loading = false) {t : State}
    (ht : (s.begin l .working y).returnFound l y ⟨basis, some a⟩ = t) :
    Asks s t l (fineReckoned s (returnTxn y basis a) n a) (.holdLookup (.lane l) (itemTitle n)) ∧
    ∃ e', t.entry? a.borrower = some e' ∧ e'.inHand l = true ∧ e'.count = e.count ∧ e'.balance = e.balance := by
  have hentry := (entry?_begin (s := s) (l := l) (x := y) .working a.borrower).trans he
  have hout := ((begun_begin s l y).mapTxn fun _ => returnTxn y basis a).useEntry a.borrower (·.setHand l true)
  rw [returnFound_of_entry hi hentry] at ht
  generalize hu : ((s.begin l .working y).mapTxn l fun _ => returnTxn y basis a).takeInHand l a.borrower = u at ht
  have hbegun : Begun s u l (returnTxn y basis a) := hu ▸ hout
  have hwork := hbegun.mapTxn fun x => fineReckoned u x n a
  have hreckoned : fineReckoned u (returnTxn y basis a) n a = fineReckoned s (returnTxn y basis a) n a := by
    rw [fineReckoned, hbegun.fineNow, hbegun.clock, fineReckoned]
  obtain ⟨hasks, hstanding⟩ := hwork.asks (m := .holdLookup (.lane l) (itemTitle n))
    (by simp [Txn.lookup, fineReckoned, returnTxn, hi]) rfl hb hw hl
  rw [ht, hreckoned] at hasks
  rw [ht, State.mapTxn_standing] at hstanding
  have hholds : HoldsEntry t a.borrower e := by
    rw [State.takeInHand] at hu
    refine HoldsEntry.of_standing (s := u) ?_ (by rw [hstanding])
    rw [← hu]
    exact ((HoldsEntry.of_entry hentry).mapLane l _).handUse l true
  have hhand := entry?_useEntry ((s.begin l .working y).mapTxn l fun _ => returnTxn y basis a) a.borrower (·.setHand l true)
    fun _ => setHand_borrower _ l true
  obtain ⟨f, hf, hh⟩ := hholds
  refine ⟨hasks, f, hf, ?_, hh.count, hh.balance⟩
  have hft : u.entry? a.borrower = some f := (entry?_of_standing hstanding _).symm.trans hf
  rw [← hu, State.takeInHand, hhand] at hft
  obtain ⟨g, -, rfl⟩ := Option.map_eq_some_iff.mp hft
  exact inHand_setHand g l true

theorem returnFound_begin_of_none (hn : s.entry? a.borrower = none) (hop : y.operation = .ret)
    (hb : s.memory.busy = none) (hw : s.memory.waiting = []) (hl : s.memory.load.loading = false) {t : State}
    (ht : (s.begin l .working y).returnFound l y ⟨basis, some a⟩ = t) :
    Asks s t l (returnTxn y basis a) (.rollLookup (.lane l) a.borrower) ∧ t.standing = s.standing := by
  have hentry := (entry?_begin (s := s) (l := l) (x := y) .working a.borrower).trans hn
  obtain ⟨hasks, hstanding⟩ := ((begun_begin s l y).mapTxn fun _ => returnTxn y basis a).asks
    (m := .rollLookup (.lane l) a.borrower) (by simp [Txn.lookup, returnTxn, hop]) rfl hb hw hl
  rw [← returnFound_of_none hentry, ht] at hasks hstanding
  exact ⟨hasks, hstanding.trans ((State.mapTxn_standing ..).trans (State.mapLane_standing ..))⟩

/-- A renewal of an item OUT to the session's borrower that passes its tests (R37). -/
theorem renewFound_begin (hi : y.item = some n) (hyb : y.borrower = some b) (he : s.entry? b = some e) (ha : a.borrower = b)
    (hunit : (s.rules.classRule (itemClass n)).unit ≠ .none) (hexp : s.clock.day ≤ e.roll.expiry)
    (hlim : a.renewCount < (s.rules.classRule (itemClass n)).renewLimit)
    (hb : s.memory.busy = none) (hw : s.memory.waiting = []) (hl : s.memory.load.loading = false) {t : State}
    (ht : (s.begin l .working y).renewFound l y ⟨basis, some a⟩ = t) :
    Asks s t l { y with found := some ⟨basis, some a⟩, stage := .hold } (.holdLookup (.lane l) (itemTitle n)) ∧
      t.standing = s.standing := by
  have hentry : (s.begin l .working y).entryOf a.borrower = e := by
    rw [ha]
    exact entryOf_of_entry ((entry?_begin .working b).trans he)
  have hframe : s.begin l .working y = { s with
      laneA := (s.begin l .working y).laneA, laneB := (s.begin l .working y).laneB } := by cases l <;> rfl
  have hpass : (s.begin l .working y).renewCheck y ⟨basis, some a⟩ = none := by
    rw [renewCheck_of_out hi hyb rfl, hentry, if_neg (not_not_intro ha), hframe, if_neg (by exact hunit),
      if_neg (Nat.not_lt.mpr (by exact hexp)), if_neg (Nat.not_le.mpr (by exact hlim))]
  obtain ⟨hasks, hstanding⟩ := ((begun_begin s l y).mapTxn fun x => { x with found := some ⟨basis, some a⟩, stage := .hold }).asks
    (m := .holdLookup (.lane l) (itemTitle n)) (by simp [Txn.lookup, hi]) rfl hb hw hl
  rw [← renewFound_of_pass hpass, ht] at hasks hstanding
  exact ⟨hasks, hstanding.trans ((State.mapTxn_standing ..).trans (State.mapLane_standing ..))⟩

end Work

/-- Settles O22: the modes' columns for a borrower label, then for an item label. -/
theorem labelsAreTakenAsNewWork : Obligations.LabelsAreTakenAsNewWork := by
  refine ⟨fun l src b ds s ht hp => ?borrower, fun l src n ds s ht hp => ?item⟩
  case borrower =>
    intro c offer free result begins unable unableToCheck
    have hunable : s.stationRefusal ⟨false, false⟩ = unable := stationRefusal_inquiry s
    have hcheck : s.stationRefusal ⟨true, false⟩ = unableToCheck := by rw [stationRefusal_check, hunable]
    have hreport : ∀ {op cls why}, op ≠ .borrowerCheck → s.reportNow l src op cls why =
        s.reporting l src { result with operation := op, cls := cls, reason := why } := fun hop => by
      rw [reportNow_eq ht hp, plainResult_of_work hop]
    have hbegins : ∀ {st op r}, (offer' : s.takeOffer l offer =
        (s.begin l st { Txn.start op .borrower src with borrower := some b }).askLane l) →
        Txn.lookup l { Txn.start op .borrower src with borrower := some b } = some (.rollLookup r b) →
        (MemOp.rollLookup r b).lookupLane = some l → free → begins st op r := fun hoffer hlook hlane ⟨hb, hw, hl⟩ => by
      rw [askLane_begin hlook hlane hb hw hl] at hoffer
      exact hoffer
    refine ⟨hreport (by decide), fun hm => (takeOffer_of_mode_ret hm).trans (hreport (by decide)), fun hm => ?_, fun hm => ?_⟩
    · have hoffer := takeOffer_of_mode_inquire (src := src) (b := b) (ds := ds) hm
      refine ⟨fun why hwhy => ?_, fun hgo hn hfree => ?_, fun e hgo he => ?_⟩
      · exact hoffer.trans ((inquireBorrower_of_refusal (hunable.trans hwhy)).trans (hreport (by decide)))
      · exact hbegins (hoffer.trans (inquireBorrower_of_none (hunable.trans hgo) hn)) rfl rfl hfree
      · exact hoffer.trans ((inquireBorrower_of_entry (hunable.trans hgo) he).trans
          (inquireBorrowerFound_begin hp (entry?_borrower he)))
    · refine ⟨fun hss => ?_, fun hss => ?_⟩
      · obtain ⟨ss, hss⟩ := Option.isSome_iff_exists.mp hss
        exact takeOffer_endSession hss hm
      have hoffer : s.takeOffer l offer = s.startCheck l src b := by
        rw [takeOffer_of_check hm, endSession_of_closed hss hp]
      refine ⟨fun why hwhy => ?_, fun hgo hn hfree => ?_, fun e hgo he hq => ?_⟩
      · refine hoffer.trans ((startCheck_of_refusal (hcheck.trans hwhy)).trans ((reportNow_eq ht hp).trans ?_))
        rfl
      · exact hbegins (hoffer.trans (startCheck_of_none (hcheck.trans hgo) hn)) rfl rfl hfree
      · exact checkDone_begin_of_entry hp he hq (checkResult_of_entry he)
          ((startCheck_of_entry (hcheck.trans hgo) he).symm.trans hoffer.symm)
  case item =>
    intro c takes free op needsSession result refused unable works asks start
    have hop : op = c.mode.operation := rfl
    have hunable : s.stationRefusal ⟨c.mode != .inquire, c.mode != .inquire⟩ = unable := stationRefusal_item s c.mode
    have hreport : ∀ why, takes = s.reportNow l src c.mode.operation .refused why → refused why .empty := fun why h =>
      h.trans ((reportNow_eq ht hp).trans (congrArg (s.reporting l src)
        (plainResult_of_work (by cases c.mode <;> decide))))
    refine ⟨fun why hwhy => hreport why (takeItem_of_refusal (hunable.trans hwhy)),
      fun hgo hneeds hss => hreport _ (takeItem_of_noSession (hunable.trans hgo) hneeds hss), fun hgo hn hfree => ?_,
      fun i hgo hi hfree hroom htrap => ?_⟩
    · obtain ⟨hb, hw, hl⟩ := hfree
      have hasks : ∀ bo, (needsSession → c.session.isSome = true) → workBorrower c = bo →
          asks takes (start bo) (.loansLookup (.lane l) n) ∧ takes.standing = s.standing := by
        rintro bo hss rfl
        obtain ⟨h, hstanding⟩ := (begun_begin s l (itemTxn c src n)).asks (m := .loansLookup (.lane l) n) rfl rfl hb hw hl
        rw [← takeItem_of_none (hunable.trans hgo) hss hn] at h hstanding
        exact ⟨h, hstanding.trans (State.mapLane_standing ..)⟩
      refine ⟨fun hneeds q hq => hasks _ (fun _ => by rw [hq]; rfl) ?_, fun hneeds => hasks _ (fun h => absurd h hneeds) ?_⟩
      · rw [workBorrower, if_pos hneeds, hq]
        rfl
      · rw [workBorrower, if_neg hneeds]
    · obtain ⟨hb, hw, hl⟩ := hfree
      have hfound : (needsSession → c.session.isSome = true) → takes =
          (s.begin l .working (itemTxn c src n)).itemFound l (itemTxn c src n) i.answer := fun hss =>
        takeItem_of_entry (hunable.trans hgo) hss hi
      have hends : ∀ {why bo}, workBorrower c = bo → HoldsNothing s l (itemTxn c src n) → why ≠ .limit →
          c.mode ≠ .inquire → (c.mode = .lend → bo ≠ none) →
          takes = (s.begin l .working (itemTxn c src n)).endTxn l .refused why →
          refused why (s.txnBlocks (itemTxn c src n)) := by
        rintro why bo rfl hnothing hwhy hm hlend heq
        refine heq.trans ((endTxn_begin hnothing Stage.noConfusion TrapOutcome.noConfusion (fun h => hlend ?_) ?_ hwhy).trans rfl)
        · revert h
          show c.mode.operation = .lend → _
          cases c.mode <;> decide
        · show c.mode.operation ≠ .borrowerCheck
          cases c.mode <;> decide
      refine ⟨fun hm => ?_, fun hm => ?_, fun b e slip hss he hres hlost => ?_⟩
      · have hfound := hfound (by rintro (h | h) <;> rw [hm] at h <;> cases h)
        have hview : (itemTxn c src n).operation = .inquire := by rw [itemTxn, hm]; rfl
        simp only [State.itemFound, hview] at hfound
        refine hfound.trans ((inquireItemFound_begin hview rfl hp i).trans ?_)
        have hinquire : op = .inquire := by rw [hop, hm]; rfl
        simp only [result, hinquire]
        rfl
      · have hfound := hfound (by rintro (h | h) <;> rw [hm] at h <;> cases h)
        have hnone : workBorrower c = none := by rw [workBorrower, hm]; rfl
        have hret : (itemTxn c src n).operation = .ret := by rw [itemTxn, hm]; rfl
        simp only [State.itemFound, hret] at hfound
        refine ⟨fun hin => ?_, fun a hout => ?_⟩
        · have hblocks : s.txnBlocks (itemTxn c src n) = .empty := by rw [State.txnBlocks, itemTxn, hnone]; rfl
          rw [← hblocks]
          refine hends hnone ⟨hp, hb, hw, hroom, htrap, ?_, ?_, .inl hnone⟩ (by decide) (by rw [hm]; decide)
            (by rw [hm]; exact fun h => nomatch h) (hfound.trans (returnFound_of_in hin))
          · rw [State.awaitingOwn, itemTxn, hnone]
            rfl
          · intro b e hb
            rw [itemTxn, hnone] at hb
            cases hb
        · have hanswer : i.answer = ⟨i.basis, some a⟩ := by rw [ItemEntry.answer, hout]
          rw [hanswer] at hfound
          refine ⟨fun hn => ?_, fun e he => ?_⟩
          · exact returnFound_begin_of_none hn hret hb hw hl hfound.symm
          · exact returnFound_begin_of_entry (y := itemTxn c src n) rfl he hb hw hl hfound.symm
      · intro x
        have hborrower : needsSession → workBorrower c = some b := fun hm => by rw [workBorrower, if_pos hm, hss]; rfl
        have hx : needsSession → itemTxn c src n = x := fun hm => by rw [itemTxn, hborrower hm]; rfl
        have hfound := hfound fun _ => by rw [hss]; rfl
        have hnothing : needsSession → HoldsNothing s l (itemTxn c src n) := fun hm => by
          have hawait : ((e.record .lost).awaits 0).isSome = false := by
            rw [BlockRecord.awaits, Option.isSome_eq_false_iff, Option.isNone_iff_eq_none, List.find?_eq_none]
            exact fun w hw => by simpa using hlost w hw
          refine ⟨hp, hb, hw, hroom, htrap, (awaitingOwn_of_holds (.of_entry he) (hborrower hm)).trans hawait, ?_,
            .inr ⟨_, hss, hborrower hm⟩⟩
          intro d f hd hf
          obtain rfl : b = d := Option.some.inj ((hborrower hm).symm.trans hd)
          obtain rfl : e = f := Option.some.inj (he.symm.trans hf)
          exact hres
        have hrefuses : ∀ {why}, needsSession → why ≠ .limit →
            takes = (s.begin l .working (itemTxn c src n)).endTxn l .refused why → refused why (e.blockSet s.clock.day) :=
          fun hm hwhy heq => by
            rw [← txnBlocks_of_holds (y := itemTxn c src n) (.of_entry he) (hborrower hm)]
            exact hends (hborrower hm) (hnothing hm) hwhy (by obtain h | h := hm <;> rw [h] <;> decide)
              (fun _ => Option.some_ne_none b) heq
        refine ⟨fun hm => ?_, fun hm => ?_⟩
        · have hlend : (itemTxn c src n).operation = .lend := by rw [itemTxn, hm]; rfl
          simp only [State.itemFound, hlend] at hfound
          refine ⟨fun a hout => hrefuses (.inl hm) ?_ (hfound.trans ?_), fun due hin hcheck hdue => ?_⟩
          · split
            all_goals decide
          · rw [lendFound_of_out hout, show (itemTxn c src n).borrower = some b from hborrower (.inl hm), Option.getD_some]
          · have hst : s.stationRefusal ⟨true, true⟩ = none := by
              rw [hm] at hunable
              exact hunable.trans hgo
            have hdone := lendFound_begin hlend rfl (hborrower (.inl hm)) rfl hb hw hroom hst he hres hi hin hcheck hdue hfound.symm
            rw [hx (.inl hm)] at hdone
            exact hdone
        · intro rule
          have hrenew : (itemTxn c src n).operation = .renew := by rw [itemTxn, hm]; rfl
          simp only [State.itemFound, hrenew] at hfound
          refine ⟨fun hin => hrefuses (.inr hm) (by decide) (hfound.trans ?_), fun a hout => ⟨fun hne =>
            hrefuses (.inr hm) (by decide) (hfound.trans ?_), fun heq hunit hexp hlim => ?_⟩⟩
          · exact renewFound_of_refusal (renewCheck_of_in hin)
          · exact renewFound_of_refusal ((renewCheck_of_out rfl (hborrower (.inr hm)) hout).trans (if_pos hne))
          · have hanswer : i.answer = ⟨i.basis, some a⟩ := by rw [ItemEntry.answer, hout]
            rw [hanswer] at hfound
            have hdone := renewFound_begin rfl (hborrower (.inr hm)) he heq hunit hexp hlim hb hw hl hfound.symm
            rw [hx (.inr hm)] at hdone
            exact hdone

end Sys2Proof.Proofs
